-- ==== Sys2Proof/Word.lean ====
section
/-! DEFINITION. Words: the byte of a link, the setting word, and fixed tables read and written by a
plain index. -/

namespace Sys2Proof

/-- One byte of a link line (R185). -/
abbrev Byte := BitVec 8

/-- One setting word of 32 bits (R165). -/
abbrev Word := BitVec 32

/-- A subset of the bands 0..7: band `k` is in the set when the bit of weight 2^k is 1 (R195). -/
abbrev BandSet := BitVec 8

/-- Entry `i` of a fixed table, and `d` for an index the table does not have. -/
def Vec.at {α : Type} {n : Nat} (v : Vector α n) (i : Nat) (d : α) : α := v[i]?.getD d

/-- The table with entry `i` replaced; an index the table does not have changes nothing. -/
def Vec.put {α : Type} {n : Nat} (v : Vector α n) (i : Nat) (x : α) : Vector α n := v.setIfInBounds i x

/-- The table with entry `i` rewritten by `f`; an index the table does not have changes nothing. -/
def Vec.edit {α : Type} {n : Nat} (v : Vector α n) (i : Nat) (f : α → α) : Vector α n :=
  if h : i < n then v.set i (f v[i]) h else v

/-- The table with every entry rewritten by `f`. -/
def Vec.each {α β : Type} {n : Nat} (v : Vector α n) (f : α → β) : Vector β n :=
  ⟨⟨v.toList.map f⟩, by simp⟩

/-- A count of `bound` values that wraps: at its largest value it becomes 0 (00_scope.md, Arithmetic). -/
def wrapSucc (bound x : Nat) : Nat := (x + 1) % bound

/-- A count that keeps its largest value when it is incremented again (00_scope.md, Arithmetic). -/
def satAdd (largest x k : Nat) : Nat := min largest (x + k)

end Sys2Proof
end

