-- ==== Sys2Proof/Config.lean ====
section
/-! DEFINITION. Config: the sizes and fixed lengths the manual gives the part. The spec calls no value of this
part undefined or implementation-defined, so no free value stands here. -/

namespace Sys2Proof.Config

/-- Records of the leaf store (R28). -/
abbrev leafRecords : Nat := 4096

/-- Entries of a link's notice queue (R190). -/
abbrev noticeDepth : Nat := 32

/-- Longest body of a frame, in bytes (R185). -/
abbrev longestBody : Nat := 250

/-- Length of the metering interval in ms (R110): one charge is made per interval. -/
abbrev meteringInterval : Nat := 10

/-- Length of the verification timer in ms (R170). -/
abbrev verificationInterval : Nat := 500

/-- The gap after which a partial frame is abandoned, in ms (R185). -/
abbrev linkGap : Nat := 50

/-- The sum a GOOD store has (R170). -/
abbrev goodSum : Nat := 4294967295

/-- The flat loading position of the cradle, in degrees (00_scope.md, Units; R51). -/
abbrev flatAngle : Nat := 180

/-- How far from its target an angle move ends, in degrees (R50, R51). -/
abbrev angleTolerance : Nat := 2

end Sys2Proof.Config
end

