-- ==== Sys2Proof/Vocabulary.lean ====
section
/-! DEFINITION. Vocabulary: the operand types of the commands. -/

namespace Sys2Proof

/-- The three station links, numbered by pin position (R189): 0, 1, 2. -/
inductive Link where
  | conservation | capture | accounting
deriving DecidableEq, Repr

/-- The two cameras (R144); each sees the side of the opening of its name (R36). -/
inductive Camera where
  | left | right
deriving DecidableEq, Repr

/-- The cameras of a plan entry (R140). -/
inductive CameraSet where
  | left | right | both
deriving DecidableEq, Repr

/-- The conservation marking of a leaf (R38). -/
inductive LeafMark where
  | normal | foldout | damaged | withheld
deriving DecidableEq, Repr

/-- The turn directions (R54). -/
inductive Direction where
  | forward | back
deriving DecidableEq, Repr

/-- The sweep modes, COUNT with its target (R145). -/
inductive SweepMode where
  | pass | count (target : Nat) | opened
deriving DecidableEq, Repr

/-- Who sent a request: the link, and the tag the master chose for it (R185). -/
structure Origin where
  link : Link
  tag  : Byte
deriving DecidableEq, Repr

/-- A request frame as a link port has received it when it is complete (R185): either whole, up to its check
byte (its body length byte is the length of the body), or ended at a body length byte of 251..255. -/
inductive Frame where
  | whole (tag code : Byte) (body : List Byte) (check : Byte)
  | overlong (tag code length : Byte)
deriving DecidableEq, Repr

end Sys2Proof
end

