-- ==== Sys2Proof/Syntax.lean ====
section
/-! DEFINITION. Syntax: the commands of the part, one constructor per row of spec/opcode_table.json.
A request command carries its origin and the fields of its body in the order of section 11.6. -/

namespace Sys2Proof

/-- The commands. -/
inductive Instr where
  -- the part and its links
  | deviceReset
  | requestFrameComplete (link : Link) (frame : Frame)
  | replySent (link : Link)
  | linkIdleTimeout (link : Link)
  -- custody
  | checkIn (o : Origin) (shelfMark : List Byte) (designation : Option (List Byte)) (accession leafCount : Nat)
  | setHandling (o : Origin) (slot generation handlingClass angleLimit faceBudget : Nat)
  | setBudget (o : Origin) (slot generation faceBudget : Nat)
  | hold (o : Origin) (slot generation : Nat)
  | unhold (o : Origin) (slot generation : Nat)
  | waive (o : Origin) (slot generation reason : Nat)
  | mount (o : Origin) (slot generation opening : Nat)
  | dismount (o : Origin) (slot generation : Nat)
  | release (o : Origin) (slot generation : Nat)
  | listCustody (o : Origin) (firstSlot : Nat)
  | readCustody (o : Origin) (slot : Nat)
  -- the leaf register
  | markLeaf (o : Origin) (slot generation leaf : Nat) (mark : LeafMark)
  | setRequirement (o : Origin) (slot generation : Nat) (bands : BandSet)
  | readLeaf (o : Origin) (slot leaf : Nat)
  -- the cradle
  | turn (o : Origin) (direction : Direction) (count requestedClass : Nat)
  | approveTurn (o : Origin) (slot generation leaf : Nat)
  | resume (o : Origin)
  | recoverTurn (o : Origin) (opening : Nat)
  | clearReference (o : Origin) (slot generation : Nat)
  -- the gauge and the guards
  | confirmPick (o : Origin) (slot leaf : Nat)
  | rejectPick (o : Origin) (slot leaf : Nat)
  | ackGuard (o : Origin)
  -- lighting
  | previewOn (o : Origin) (level : Nat)
  | previewOff (o : Origin)
  -- frames
  | takeFrames (o : Origin) (largest : Nat)
  | acceptFrame (o : Origin) (index generation : Nat)
  | rejectFrame (o : Origin) (index generation : Nat)
  -- capture
  | setPlanEntry (o : Origin) (index : Nat) (cameras : CameraSet) (bank level duration : Nat)
  | setPlanLength (o : Origin) (length : Nat)
  | readPlan (o : Origin) (index : Nat)
  | captureOpening (o : Origin) (mode : SweepMode)
  | closeOpening (o : Origin)
  | stopSweep (o : Origin)
  -- settings
  | setSetting (o : Origin) (index : Nat) (value : Word)
  | readSetting (o : Origin) (index : Nat)
  -- the station
  | enterReady (o : Origin)
  | enterMaintenance (o : Origin)
  | halt (o : Origin)
  | clearHalt (o : Origin)
  | restart (o : Origin)
  | readStatus (o : Origin)
  | takeNotices (o : Origin) (largest : Nat)
  -- guard inputs
  | curtainBroken
  | curtainClear
  | stopKeyPress
  | stopKeyRelease
  -- mechanism inputs
  | angleChange (degrees : Nat)
  | wandDownChange (level : Bool)
  | vacuumHeldChange (level : Bool)
  | armFarChange (level : Bool)
  | armRestChange (level : Bool)
  -- camera inputs
  | cameraReadyChange (camera : Camera) (level : Bool)
  | doneEdge (camera : Camera)
  -- the settings store
  | storeUpset (index : Nat) (value : Word)
  -- timers
  | angleTimerExpiry
  | liftTimeout
  | carryTimeout
  | layTimeout
  | settleTimerExpiry
  | pickConfirmTimeout
  | recoveryTimerExpiry
  | gaugeGateExpiry
  | meteringIntervalExpiry (raw : BitVec 16)
  | cameraReadyTimeout (camera : Camera)
  | cameraConfirmTimeout (camera : Camera)
  | verificationTimerExpiry
  -- the rest
  | pendingBuild
  | startByte (link : Link)
  | oscillatorCycle
deriving DecidableEq, Repr

end Sys2Proof
end

