-- ==== Sys2Proof/Decode.lean ====
section
/-! DEFINITION. Decode: the request body of a link frame, read (`decodeBody`) and written (`encodeBody`) by the
layouts of section 11.6; the link-level checks of R187 that read a request alone; and `decodeTableWord`. -/

namespace Sys2Proof

/-- `n` bytes of a whole number, most significant byte first (R195). -/
def be : Nat → Nat → List Byte
  | 0, _ => []
  | n + 1, v => BitVec.ofNat 8 (v / 256 ^ n) :: be n v

/-- The whole number a run of bytes holds, most significant byte first (R195). -/
def beNat (bytes : List Byte) : Nat := bytes.foldl (fun acc b => acc * 256 + b.toNat) 0

/-- Split a body into whole numbers of the given sizes; none when the length is not the sum of the sizes (R187). -/
def bodyFields : List Nat → List Byte → Option (List Nat)
  | [], [] => some []
  | [], _ :: _ => none
  | n :: sizes, bytes =>
    if bytes.length < n then none
    else (bodyFields sizes (bytes.drop n)).map (beNat (bytes.take n) :: ·)

/-! ### Setting words (R165, R166) -/

/-- The gain and offset words of a bank carry signed quantities (R165). -/
def settingSigned (index : Nat) : Bool :=
  decide (32 ≤ index) && decide (index < 64) && (index % 4 == 1 || index % 4 == 2)

/-- The quantity a word carries: signed words as 32-bit two's complement (R165). -/
def settingQuantity (index : Nat) (w : Word) : Int :=
  if settingSigned index then w.toInt else w.toNat

/-- The range of each word (R166); the check word, 69, takes every value. -/
def settingBounds (index : Nat) : Int × Int :=
  if index < 32 then
    match index % 8 with
    | 0 => (0, 15)
    | 1 => (1, 15)
    | 2 => (0, 7)
    | 6 => (0, 5000)
    | 7 => (1000, 30000)
    | _ => (100, 10000)
  else if index < 64 then
    match index % 4 with
    | 0 => (0, 65535)
    | 3 => (0, 255)
    | _ => (-32768, 32767)
  else
    match index with
    | 64 => (1, 100)
    | 65 => (100, 10000)
    | 66 => (100, 10000)
    | 67 => (1000, 120000)
    | 68 => (0, 1023)
    | _ => (0, 4294967295)

/-- A word is in range when its quantity lies in the word's range (R166). -/
def settingInRange (index : Nat) (w : Word) : Bool :=
  decide ((settingBounds index).1 ≤ settingQuantity index w) &&
    decide (settingQuantity index w ≤ (settingBounds index).2)

/-! ### The permission table (R189) -/

/-- The request code of a request command; an event that no link sends has none. -/
def requestCode : Instr → Option Nat
  | .checkIn .. => some 1
  | .setHandling .. => some 2
  | .setBudget .. => some 3
  | .hold .. => some 4
  | .unhold .. => some 5
  | .waive .. => some 6
  | .mount .. => some 7
  | .dismount .. => some 8
  | .release .. => some 9
  | .listCustody .. => some 10
  | .readCustody .. => some 11
  | .markLeaf .. => some 12
  | .setRequirement .. => some 13
  | .readLeaf .. => some 14
  | .turn .. => some 15
  | .approveTurn .. => some 16
  | .resume .. => some 17
  | .recoverTurn .. => some 18
  | .clearReference .. => some 19
  | .confirmPick .. => some 20
  | .rejectPick .. => some 21
  | .ackGuard .. => some 22
  | .previewOn .. => some 23
  | .previewOff .. => some 24
  | .takeFrames .. => some 25
  | .acceptFrame .. => some 26
  | .rejectFrame .. => some 27
  | .setPlanEntry .. => some 28
  | .setPlanLength .. => some 29
  | .readPlan .. => some 30
  | .captureOpening .. => some 31
  | .closeOpening .. => some 32
  | .stopSweep .. => some 33
  | .setSetting .. => some 34
  | .readSetting .. => some 35
  | .enterReady .. => some 36
  | .enterMaintenance .. => some 37
  | .halt .. => some 38
  | .clearHalt .. => some 39
  | .restart .. => some 40
  | .readStatus .. => some 41
  | .takeNotices .. => some 42
  | .deviceReset => none
  | .requestFrameComplete .. => none
  | .replySent _ => none
  | .linkIdleTimeout _ => none
  | .curtainBroken => none
  | .curtainClear => none
  | .stopKeyPress => none
  | .stopKeyRelease => none
  | .angleChange _ => none
  | .wandDownChange _ => none
  | .vacuumHeldChange _ => none
  | .armFarChange _ => none
  | .armRestChange _ => none
  | .cameraReadyChange .. => none
  | .doneEdge _ => none
  | .storeUpset .. => none
  | .angleTimerExpiry => none
  | .liftTimeout => none
  | .carryTimeout => none
  | .layTimeout => none
  | .settleTimerExpiry => none
  | .pickConfirmTimeout => none
  | .recoveryTimerExpiry => none
  | .gaugeGateExpiry => none
  | .meteringIntervalExpiry _ => none
  | .cameraReadyTimeout _ => none
  | .cameraConfirmTimeout _ => none
  | .verificationTimerExpiry => none
  | .pendingBuild => none
  | .startByte _ => none
  | .oscillatorCycle => none

/-- The request codes of the permission table: 1..42 (R189). -/
def codeKnown (code : Nat) : Bool := decide (1 ≤ code) && decide (code ≤ 42)

/-- The links on which a request is permitted (R189). -/
def codePermitted (code : Nat) (link : Link) : Bool :=
  if code ∈ [11, 14, 30, 35, 41, 42] then true
  else if code ∈ [15, 24] then link != .accounting
  else if code ∈ [1, 9, 10] then link == .accounting
  else if code ∈ [13, 23, 25, 26, 27, 28, 29, 31, 32] then link == .capture
  else link == .conservation

/-! ### The widest ranges a link allows (R187, check 4) -/

/-- Characters of a shelf-mark or a designation: bytes 32..126, no space at either end (R6). -/
def nameOk (largest : Nat) (name : List Byte) : Bool :=
  decide (1 ≤ name.length) && decide (name.length ≤ largest) &&
    name.all (fun c => decide (32 ≤ c.toNat) && decide (c.toNat ≤ 126)) &&
    name.head? != some 32#8 && name.getLast? != some 32#8

/-- A value within lo..hi. -/
def within (lo hi v : Nat) : Bool := decide (lo ≤ v) && decide (v ≤ hi)

/-- A slot 0..7 and a custody generation 0..255 (R3). -/
def slotGenOk (slot generation : Nat) : Bool := within 0 7 slot && within 0 255 generation

/-- Each field of a request within the widest range its request allows (R187): the owning rules' link checks. -/
def linkRangeOk : Instr → Bool
  | .checkIn _ shelfMark designation accession leafCount =>
    nameOk 24 shelfMark && (designation.all (nameOk 8)) && within 1 4294967295 accession &&
      within 1 1024 leafCount
  | .setHandling _ slot generation handlingClass angleLimit faceBudget =>
    slotGenOk slot generation && within 1 4 handlingClass && within 60 180 angleLimit &&
      within 1 2147483648 faceBudget
  | .setBudget _ slot generation faceBudget => slotGenOk slot generation && within 1 2147483648 faceBudget
  | .hold _ slot generation => slotGenOk slot generation
  | .unhold _ slot generation => slotGenOk slot generation
  | .waive _ slot generation reason => slotGenOk slot generation && within 0 255 reason
  | .mount _ slot generation opening => slotGenOk slot generation && within 0 1024 opening
  | .dismount _ slot generation => slotGenOk slot generation
  | .release _ slot generation => slotGenOk slot generation
  | .listCustody _ firstSlot => within 0 7 firstSlot
  | .readCustody _ slot => within 0 7 slot
  | .markLeaf _ slot generation leaf _ => slotGenOk slot generation && within 0 1023 leaf
  | .setRequirement _ slot generation bands => slotGenOk slot generation && bands != 0#8
  | .readLeaf _ slot leaf => within 0 7 slot && within 0 1023 leaf
  | .turn _ _ count requestedClass => within 1 16 count && within 1 4 requestedClass
  | .approveTurn _ slot generation leaf => slotGenOk slot generation && within 0 1023 leaf
  | .recoverTurn _ opening => within 0 1024 opening
  | .clearReference _ slot generation => slotGenOk slot generation
  | .confirmPick _ slot leaf => within 0 7 slot && within 0 1023 leaf
  | .rejectPick _ slot leaf => within 0 7 slot && within 0 1023 leaf
  | .previewOn _ level => within 1 1023 level
  | .takeFrames _ largest => within 1 8 largest
  | .acceptFrame _ index generation => within 0 255 index && within 0 15 generation
  | .rejectFrame _ index generation => within 0 255 index && within 0 15 generation
  | .setPlanEntry _ index _ bank level duration =>
    within 0 31 index && within 0 7 bank && within 1 1023 level && within 10 2000 duration &&
      duration % 10 == 0
  | .setPlanLength _ length => within 0 32 length
  | .readPlan _ index => within 0 31 index
  | .captureOpening _ (.count target) => within 1 64 target
  | .setSetting _ index value => within 0 69 index && settingInRange index value
  | .readSetting _ index => within 0 69 index
  | .takeNotices _ largest => within 1 8 largest
  | _ => true

/-! ### Reading a request body (R187, section 11.6) -/

/-- The mark of an enumeration byte (R195). -/
def markOfCode : Nat → Option LeafMark
  | 0 => some .normal
  | 1 => some .foldout
  | 2 => some .damaged
  | 3 => some .withheld
  | _ => none

/-- The direction of an enumeration byte (R195). -/
def directionOfCode : Nat → Option Direction
  | 0 => some .forward
  | 1 => some .back
  | _ => none

/-- The cameras of a plan entry of an enumeration byte (R195). -/
def camerasOfCode : Nat → Option CameraSet
  | 0 => some .left
  | 1 => some .right
  | 2 => some .both
  | _ => none

/-- The sweep mode of its two bytes: the target is 1..64 for COUNT and 255 for PASS and OPEN (section 11.6). -/
def sweepModeOfCodes : Nat → Nat → Option SweepMode
  | 0, 255 => some .pass
  | 1, target => some (.count target)
  | 2, 255 => some .opened
  | _, _ => none

/-- The shelf-mark, designation, accession and leaf count of a CHECK IN body of 40 bytes; characters beyond a
length are ignored (R195). -/
def decodeCheckIn (o : Origin) (body : List Byte) : Option Instr :=
  if body.length = 40 then
    let shelfLength := beNat (body.take 1)
    let designationLength := beNat ((body.drop 25).take 1)
    if shelfLength ≤ 24 ∧ designationLength ≤ 8 then
      let shelfMark := (body.drop 1).take shelfLength
      let designation :=
        if designationLength = 0 then none else some ((body.drop 26).take designationLength)
      some (.checkIn o shelfMark designation (beNat ((body.drop 34).take 4)) (beNat (body.drop 38)))
    else none
  else none

/-- The request a body spells, before the ranges of its fields are looked at. -/
def decodeShape (o : Origin) (code : Nat) (body : List Byte) : Option Instr :=
  match code with
  | 1 => decodeCheckIn o body
  | 2 => match bodyFields [1, 1, 1, 1, 4] body with
    | some [s, g, c, a, b] => some (.setHandling o s g c a b) | _ => none
  | 3 => match bodyFields [1, 1, 4] body with
    | some [s, g, b] => some (.setBudget o s g b) | _ => none
  | 4 => match bodyFields [1, 1] body with | some [s, g] => some (.hold o s g) | _ => none
  | 5 => match bodyFields [1, 1] body with | some [s, g] => some (.unhold o s g) | _ => none
  | 6 => match bodyFields [1, 1, 1] body with | some [s, g, r] => some (.waive o s g r) | _ => none
  | 7 => match bodyFields [1, 1, 2] body with | some [s, g, n] => some (.mount o s g n) | _ => none
  | 8 => match bodyFields [1, 1] body with | some [s, g] => some (.dismount o s g) | _ => none
  | 9 => match bodyFields [1, 1] body with | some [s, g] => some (.release o s g) | _ => none
  | 10 => match bodyFields [1] body with | some [s] => some (.listCustody o s) | _ => none
  | 11 => match bodyFields [1] body with | some [s] => some (.readCustody o s) | _ => none
  | 12 => match bodyFields [1, 1, 2, 1] body with
    | some [s, g, l, m] => (markOfCode m).map (.markLeaf o s g l ·) | _ => none
  | 13 => match bodyFields [1, 1, 1] body with
    | some [s, g, b] => some (.setRequirement o s g (BitVec.ofNat 8 b)) | _ => none
  | 14 => match bodyFields [1, 2] body with | some [s, l] => some (.readLeaf o s l) | _ => none
  | 15 => match bodyFields [1, 1, 1] body with
    | some [d, n, c] => (directionOfCode d).map (.turn o · n c) | _ => none
  | 16 => match bodyFields [1, 1, 2] body with
    | some [s, g, l] => some (.approveTurn o s g l) | _ => none
  | 17 => match bodyFields [] body with | some [] => some (.resume o) | _ => none
  | 18 => match bodyFields [2] body with | some [n] => some (.recoverTurn o n) | _ => none
  | 19 => match bodyFields [1, 1] body with | some [s, g] => some (.clearReference o s g) | _ => none
  | 20 => match bodyFields [1, 2] body with | some [s, l] => some (.confirmPick o s l) | _ => none
  | 21 => match bodyFields [1, 2] body with | some [s, l] => some (.rejectPick o s l) | _ => none
  | 22 => match bodyFields [] body with | some [] => some (.ackGuard o) | _ => none
  | 23 => match bodyFields [2] body with | some [v] => some (.previewOn o v) | _ => none
  | 24 => match bodyFields [] body with | some [] => some (.previewOff o) | _ => none
  | 25 => match bodyFields [1] body with | some [n] => some (.takeFrames o n) | _ => none
  | 26 => match bodyFields [1, 1] body with | some [i, g] => some (.acceptFrame o i g) | _ => none
  | 27 => match bodyFields [1, 1] body with | some [i, g] => some (.rejectFrame o i g) | _ => none
  | 28 => match bodyFields [1, 1, 1, 2, 2] body with
    | some [i, c, b, v, d] => (camerasOfCode c).map (.setPlanEntry o i · b v d) | _ => none
  | 29 => match bodyFields [1] body with | some [n] => some (.setPlanLength o n) | _ => none
  | 30 => match bodyFields [1] body with | some [i] => some (.readPlan o i) | _ => none
  | 31 => match bodyFields [1, 1] body with
    | some [m, t] => (sweepModeOfCodes m t).map (.captureOpening o ·) | _ => none
  | 32 => match bodyFields [] body with | some [] => some (.closeOpening o) | _ => none
  | 33 => match bodyFields [] body with | some [] => some (.stopSweep o) | _ => none
  | 34 => match bodyFields [1, 4] body with
    | some [i, v] => some (.setSetting o i (BitVec.ofNat 32 v)) | _ => none
  | 35 => match bodyFields [1] body with | some [i] => some (.readSetting o i) | _ => none
  | 36 => match bodyFields [] body with | some [] => some (.enterReady o) | _ => none
  | 37 => match bodyFields [] body with | some [] => some (.enterMaintenance o) | _ => none
  | 38 => match bodyFields [] body with | some [] => some (.halt o) | _ => none
  | 39 => match bodyFields [] body with | some [] => some (.clearHalt o) | _ => none
  | 40 => match bodyFields [] body with | some [] => some (.restart o) | _ => none
  | 41 => match bodyFields [] body with | some [] => some (.readStatus o) | _ => none
  | 42 => match bodyFields [1] body with | some [n] => some (.takeNotices o n) | _ => none
  | _ => none

/-- Check 4 of R187: the request a body spells, when its length is the size of the request's fields and each
field lies within the widest range its request allows; none is BAD_ARGUMENT. -/
def decodeBody (o : Origin) (code : Nat) (body : List Byte) : Option Instr :=
  (decodeShape o code body).filter linkRangeOk

/-! ### Writing a request body (section 11.6) -/

/-- The enumeration byte of a leaf mark (R195). -/
def markCode : LeafMark → Nat
  | .normal => 0
  | .foldout => 1
  | .damaged => 2
  | .withheld => 3

/-- The enumeration byte of a direction (R195). -/
def directionCode : Direction → Nat
  | .forward => 0
  | .back => 1

/-- The enumeration byte of the cameras of a plan entry (R195). -/
def camerasCode : CameraSet → Nat
  | .left => 0
  | .right => 1
  | .both => 2

/-- The enumeration byte of a sweep mode (R195). -/
def sweepModeCode : SweepMode → Nat
  | .pass => 0
  | .count _ => 1
  | .opened => 2

/-- The target byte of a sweep mode: 255 when absent (section 11.6). -/
def targetCode : SweepMode → Nat
  | .count target => target
  | .pass => 255
  | .opened => 255

/-- A name of at most `width` characters: its length byte and its characters, the rest sent as 0 (R195). -/
def nameBytes (width : Nat) (name : List Byte) : List Byte :=
  be 1 name.length ++ name ++ List.replicate (width - name.length) 0#8

/-- The body of a request (section 11.6); an event that no link sends has an empty one. -/
def encodeBody : Instr → List Byte
  | .checkIn _ shelfMark designation accession leafCount =>
    nameBytes 24 shelfMark ++ nameBytes 8 (designation.getD []) ++ be 4 accession ++ be 2 leafCount
  | .setHandling _ s g c a b => be 1 s ++ be 1 g ++ be 1 c ++ be 1 a ++ be 4 b
  | .setBudget _ s g b => be 1 s ++ be 1 g ++ be 4 b
  | .hold _ s g => be 1 s ++ be 1 g
  | .unhold _ s g => be 1 s ++ be 1 g
  | .waive _ s g r => be 1 s ++ be 1 g ++ be 1 r
  | .mount _ s g n => be 1 s ++ be 1 g ++ be 2 n
  | .dismount _ s g => be 1 s ++ be 1 g
  | .release _ s g => be 1 s ++ be 1 g
  | .listCustody _ s => be 1 s
  | .readCustody _ s => be 1 s
  | .markLeaf _ s g l m => be 1 s ++ be 1 g ++ be 2 l ++ be 1 (markCode m)
  | .setRequirement _ s g b => be 1 s ++ be 1 g ++ be 1 b.toNat
  | .readLeaf _ s l => be 1 s ++ be 2 l
  | .turn _ d n c => be 1 (directionCode d) ++ be 1 n ++ be 1 c
  | .approveTurn _ s g l => be 1 s ++ be 1 g ++ be 2 l
  | .recoverTurn _ n => be 2 n
  | .clearReference _ s g => be 1 s ++ be 1 g
  | .confirmPick _ s l => be 1 s ++ be 2 l
  | .rejectPick _ s l => be 1 s ++ be 2 l
  | .previewOn _ v => be 2 v
  | .takeFrames _ n => be 1 n
  | .acceptFrame _ i g => be 1 i ++ be 1 g
  | .rejectFrame _ i g => be 1 i ++ be 1 g
  | .setPlanEntry _ i c b v d => be 1 i ++ be 1 (camerasCode c) ++ be 1 b ++ be 2 v ++ be 2 d
  | .setPlanLength _ n => be 1 n
  | .readPlan _ i => be 1 i
  | .captureOpening _ m => be 1 (sweepModeCode m) ++ be 1 (targetCode m)
  | .setSetting _ i v => be 1 i ++ be 4 v.toNat
  | .readSetting _ i => be 1 i
  | .takeNotices _ n => be 1 n
  | _ => []

/-- The bytes of a frame from its tag to the byte before its check byte. -/
def frameCore (tag code : Byte) (body : List Byte) : List Byte :=
  tag :: code :: BitVec.ofNat 8 body.length :: body

/-- The sum of bytes modulo 256 (R185). -/
def byteSum (bytes : List Byte) : Nat := (bytes.map BitVec.toNat).sum % 256

/-- The check byte that makes the sum from the tag to the check byte 0 modulo 256 (R185, R188). -/
def checkByte (bytes : List Byte) : Byte := BitVec.ofNat 8 (256 - byteSum bytes)

/-- A right request frame that carries a request (R185). -/
def encodeFrame (tag : Byte) (code : Nat) (body : List Byte) : Frame :=
  .whole tag (BitVec.ofNat 8 code) body (checkByte (frameCore tag (BitVec.ofNat 8 code) body))

/-- The table gives no row any bits, so no word spells a command. -/
def decodeTableWord (_nbits _w : Nat) : Option Instr := none

end Sys2Proof
end

