-- ==== Sys2Proof/WellFormed.lean ====
section
/-! DEFINITION. WellFormed: the commands the outside can send. A request's fields lie within the widest range its
request allows (R187, check 4: the link answers any other with BAD_ARGUMENT); a received frame has the shape of
R185; an upset names a word of the store. -/

namespace Sys2Proof

/-- The shape of a received frame: a body length 0..250, or a frame ended by a body length byte of 251..255. -/
def Frame.wellFormed : Frame → Bool
  | .whole _ _ body _ => decide (body.length ≤ Config.longestBody)
  | .overlong _ _ length => decide (Config.longestBody < length.toNat)

/-- Well-formed commands. -/
def Instr.wellFormed : Instr → Bool
  | .requestFrameComplete _ frame => frame.wellFormed
  | .storeUpset index _ => decide (index < 70)
  | i => linkRangeOk i

end Sys2Proof
end

