-- ==== Sys2Proof/Machine/State.lean ====
section
/-! DEFINITION. State: every piece of state the spec gives the eleven blocks of the LC46, and the machine right
after a device reset. -/

namespace Sys2Proof.Machine

/-! ### Station Control and the Settings Store -/

/-- Station mode (R175). -/
inductive Mode where
  | maintenance | ready | halted
deriving DecidableEq, Repr

/-- Last reset kind (R175). -/
inductive ResetKind where
  | device | restart
deriving DecidableEq, Repr

/-- Why the mode changed (R175). -/
inductive ModeCause where
  | enterReady | enterMaintenance | halt | stopKey | clearHalt | restart
deriving DecidableEq, Repr

/-- The station record (R175). -/
structure Station where
  mode      : Mode
  lastReset : ResetKind
deriving DecidableEq, Repr

/-- Settings state (R170). -/
inductive SettingsState where
  | good | fault
deriving DecidableEq, Repr

/-- What found a settings state (R171, R172). -/
inductive SettingsSource where
  | periodic | enterReady
deriving DecidableEq, Repr

/-- The Settings Store (R165, R170). Its verification timer always runs, with a fixed length. -/
structure Settings where
  words   : Vector Word 70
  state   : SettingsState
  lastSum : Nat
deriving DecidableEq, Repr

/-! ### The Custody Unit -/

/-- Life state of a custody slot (R2). -/
inductive EntryState where
  | free | staged | mounted
deriving DecidableEq, Repr

/-- Cause of a custody hold (R10, R12). -/
inductive HoldCause where
  | conservation | turnFault | restart
deriving DecidableEq, Repr

/-- Conservation's clearance of a volume (R8). -/
structure Clearance where
  handlingClass : Nat
  angleLimit    : Nat
  faceBudget    : Nat
deriving DecidableEq, Repr

/-- One custody entry (section 1.1). `hold` is none while held is clear; `waiver` is none while waived is clear. -/
structure CustodyEntry where
  state          : EntryState
  generation     : Nat
  sequence       : Nat
  shelfMark      : List Byte
  designation    : Option (List Byte)
  accession      : Nat
  leafCount      : Nat
  extentBase     : Nat
  clearance      : Option Clearance
  required       : BandSet
  hold           : Option HoldCause
  waiver         : Option Nat
  reference      : Nat
  turns          : Nat
  framesAccepted : Nat
  framesOpen     : Nat
  leavesComplete : Nat
  doseTotal      : Nat
  damageMarks    : Nat
deriving DecidableEq, Repr

/-- A FREE entry of the given generation: the defaults of R1. -/
def CustodyEntry.free (generation : Nat) : CustodyEntry where
  state := .free
  generation := generation
  sequence := 0
  shelfMark := []
  designation := none
  accession := 0
  leafCount := 0
  extentBase := 0
  clearance := none
  required := 1#8
  hold := none
  waiver := none
  reference := 0
  turns := 0
  framesAccepted := 0
  framesOpen := 0
  leavesComplete := 0
  doseTotal := 0
  damageMarks := 0

/-- The account of one page (section 2.2). -/
structure FaceRecord where
  dose       : Nat
  coverage   : BandSet
  framesOpen : Nat
deriving DecidableEq, Repr

/-- One leaf record (section 2.2). -/
structure LeafRecord where
  mark      : LeafMark
  turnCount : Nat
  verso     : FaceRecord
  recto     : FaceRecord
deriving DecidableEq, Repr

/-- A face record as CHECK IN sets it up (R30). -/
def FaceRecord.fresh : FaceRecord where
  dose := 0
  coverage := 0#8
  framesOpen := 0

/-- A leaf record as CHECK IN sets it up (R30). -/
def LeafRecord.fresh : LeafRecord where
  mark := .normal
  turnCount := 0
  verso := .fresh
  recto := .fresh

/-- The leaf store (R28): the records in use with their indices, indices strictly rising; a record that is not
listed is free. -/
abbrev LeafStore := List (Nat × LeafRecord)

/-- The Custody Unit: custody table, leaf store and custody sequence counter (R1, R4, R28). -/
structure Custody where
  entries      : Vector CustodyEntry 8
  leaves       : LeafStore
  nextSequence : Nat
deriving DecidableEq, Repr

/-- A volume named by its slot and custody generation (R3). -/
structure VolumeName where
  slot       : Nat
  generation : Nat
deriving DecidableEq, Repr

/-- A page as the lighting and capture records see it (R36). -/
inductive Face where
  | verso (leaf : Nat) | recto (leaf : Nat) | board
deriving DecidableEq, Repr

/-- The sides of an opening (R35). -/
inductive Side where
  | left | right
deriving DecidableEq, Repr

/-! ### The Cradle Unit and the Leaf Gauge -/

/-- Cradle states (section 3.1). -/
inductive CradleState where
  | parked | settling | openReady | turning | holding | fault | recovering | parking
deriving DecidableEq, Repr

/-- Phases of one leaf (section 3.5). -/
inductive Phase where
  | baseline | lift | pickConfirm | drop | carry | lay | returning | settle
deriving DecidableEq, Repr

/-- What a hold stopped or a fault interrupted (R68): a turn phase, SETTLING or PARKING. -/
inductive Operation where
  | phase (p : Phase) | settling | parking
deriving DecidableEq, Repr

/-- Cause of a cradle hold or of a stopped drive (section 3.1); a hold has the first three alone. -/
inductive StopCause where
  | guard | halt | settings | angleTimeout
deriving DecidableEq, Repr

/-- Cause of a turn fault or an angle timeout (R52, R66). -/
inductive FaultCause where
  | pickDouble | pickNone | noConfirm | timeout | vacuumLost | angleTimeout
deriving DecidableEq, Repr

/-- Class of a pick (R79); `nothing` is the class NONE. -/
inductive PickClass where
  | nothing | single | double | unknown | saturated
deriving DecidableEq, Repr

/-- How a turn ended (R56, R65, R72). -/
inductive TurnResult where
  | complete | approvalRequired | recovered
deriving DecidableEq, Repr

/-- How a DROP is resolved at its end (R62, R63). -/
inductive DropKind where
  | counted | rejected | unconfirmed
deriving DecidableEq, Repr

/-- The work a hold keeps (R68). The phase and step of a held turn are those of the turn record. -/
inductive HeldWork where
  | turn | settling
deriving DecidableEq, Repr

/-- The drive of a PARKING move (section 3.1). -/
inductive Drive where
  | moving | stopped (cause : StopCause)
deriving DecidableEq, Repr

/-- The hold record (section 3.1). -/
structure HoldRecord where
  cause : StopCause
  work  : HeldWork
deriving DecidableEq, Repr

/-- The fault record (section 3.1); ANGLE_TIMEOUT has no phase (R52). -/
structure FaultRecord where
  cause : FaultCause
  phase : Option Phase
deriving DecidableEq, Repr

/-- The turn record (section 3.1), with the kind of the DROP in progress. -/
structure TurnRecord where
  direction      : Direction
  count          : Nat
  done           : Nat
  effectiveClass : Nat
  retriesUsed    : Nat
  phase          : Phase
  step           : Nat
  leafOnWand     : Bool
  lastClass      : Option PickClass
  drop           : DropKind
deriving DecidableEq, Repr

/-- An approval to turn one leaf of one volume (R57). -/
structure Approval where
  slot       : Nat
  generation : Nat
  leaf       : Nat
deriving DecidableEq, Repr

/-- The Cradle Unit's timers: none while stopped, else the length in ms the timer started with (R52, R59, R72). -/
structure CradleTimers where
  angle       : Option Nat
  lift        : Option Nat
  carry       : Option Nat
  lay         : Option Nat
  settle      : Option Nat
  pickConfirm : Option Nat
  recovery    : Option Nat
deriving DecidableEq, Repr

/-- Every cradle timer stopped. -/
def CradleTimers.stopped : CradleTimers where
  angle := none
  lift := none
  carry := none
  lay := none
  settle := none
  pickConfirm := none
  recovery := none

/-- The five sensors of the cradle (chapter 3). -/
structure Sensors where
  angle      : Nat
  wandDown   : Bool
  vacuumHeld : Bool
  armFar     : Bool
  armRest    : Bool
deriving DecidableEq, Repr

/-- The angle drive: stopped, turning the plates toward an angle, or holding them at one (R50, R51). -/
inductive AngleDrive where
  | stopped | toward (target : Nat) | holding (target : Nat)
deriving DecidableEq, Repr

/-- The arm drive; the speed is absent where the spec names none (PARKING, R51; BASELINE, R60). -/
inductive ArmDrive where
  | stopped | toRest (speed : Option Nat) | toFar (speed : Nat)
deriving DecidableEq, Repr

/-- The wand drive. -/
inductive WandDrive where
  | stopped | up | down
deriving DecidableEq, Repr

/-- The mechanism outputs (section 11.7): the air knife is none while off, else its air level. -/
structure Outputs where
  angleDrive : AngleDrive
  armDrive   : ArmDrive
  wandDrive  : WandDrive
  vacuumOpen : Bool
  airKnife   : Option Nat
deriving DecidableEq, Repr

/-- The cradle record (section 3.1) with the recovery target (R72), timers, sensors and outputs. -/
structure Cradle where
  state     : CradleState
  mounted   : Option VolumeName
  opening   : Nat
  moveClass : Nat
  parked    : Option VolumeName
  drive     : Drive
  hold      : Option HoldRecord
  fault     : Option FaultRecord
  turn      : Option TurnRecord
  approval  : Option Approval
  target    : Option Nat
  timers    : CradleTimers
  sensors   : Sensors
  outputs   : Outputs
deriving DecidableEq, Repr

/-- Purpose of a gauge gate (R76). -/
inductive GatePurpose where
  | baseline | lift
deriving DecidableEq, Repr

/-- The gauge record (R76) with the running gate's count and timer (R77). -/
structure Gauge where
  gate              : Option GatePurpose
  count             : Nat
  countSaturated    : Bool
  timer             : Option Nat
  baseline          : Nat
  baselineSaturated : Bool
  reading           : Nat
  readingSaturated  : Bool
  delta             : Nat
  pick              : Option PickClass
deriving DecidableEq, Repr

/-- The gauge values a turn notice carries (section 11.6). -/
structure GaugeValues where
  baseline          : Nat
  reading           : Nat
  delta             : Nat
  pick              : Option PickClass
  baselineSaturated : Bool
  readingSaturated  : Bool
deriving DecidableEq, Repr

/-- The Guard Monitor (R84, R87): live levels, which follow the inputs, and latches. -/
structure Guards where
  curtainBroken : Bool
  curtainLatch  : Bool
  stopPressed   : Bool
  stopLatch     : Bool
deriving DecidableEq, Repr

/-! ### The Lighting Unit and the Dose Meter -/

/-- Owner of a LIT bank (R90). -/
inductive LightOwner where
  | exposure | preview
deriving DecidableEq, Repr

/-- A bank record (R90): OFF has level 0 and no owner. -/
inductive BankRecord where
  | off | lit (level : Nat) (owner : LightOwner)
deriving DecidableEq, Repr

/-- Why a preview ended (R96). -/
inductive PreviewEnd where
  | request | turn | capture | dismount | guard | halt | settings | budget | restart
deriving DecidableEq, Repr

/-- The Lighting Unit: bank records and the preview record (R90, R96); `preview` is the level while ON. -/
structure Lights where
  banks   : Vector BankRecord 8
  preview : Option Nat
  lastEnd : Option PreviewEnd
deriving DecidableEq, Repr

/-- Metering in progress: the lit bank and its owner (R107). -/
structure Metering where
  bank  : Nat
  owner : LightOwner
deriving DecidableEq, Repr

/-- The exposure accumulator (R107, R114). -/
structure ExposureAccumulator where
  planned       : Nat
  charged       : Nat
  dose          : Nat
  irradianceSum : Nat
deriving DecidableEq, Repr

/-- A visible leaf face: its leaf and the side of the opening that shows it (R35). -/
structure VisibleFace where
  leaf : Nat
  side : Side
deriving DecidableEq, Repr

/-- The preview accumulator (R107, R115). -/
structure PreviewAccumulator where
  charged : Nat
  dose    : Nat
  volume  : VolumeName
  faces   : List VisibleFace
deriving DecidableEq, Repr

/-- The Dose Meter record (R107). The metering interval timer runs exactly while `running` is present (R110). -/
structure Meter where
  running    : Option Metering
  irradiance : Nat
  exposure   : Option ExposureAccumulator
  preview    : Option PreviewAccumulator
deriving DecidableEq, Repr

/-- What put a face at its budget, and what ended the light (R113). -/
inductive BudgetSource where
  | metering | setBudget
deriving DecidableEq, Repr

/-- The end a budget event hands the owner of the light (R113). -/
inductive LightEnd where
  | pulseEnd | cut | budget
deriving DecidableEq, Repr

/-! ### The Frame Queue Manager -/

/-- The ten statuses of a descriptor outside FREE (R127). -/
inductive FrameStatus where
  | planned | exposing | confirming | taken | cut | torn | refused | unconfirmed | cameraNotReady | withdrawn
deriving DecidableEq, Repr

/-- The five holders of a descriptor (R128). -/
inductive Holder where
  | free | planned | exposureSlot | completed | verdict
deriving DecidableEq, Repr

/-- What an exposure measured (R116). -/
structure Measured where
  dose           : Nat
  meanIrradiance : Nat
deriving DecidableEq, Repr

/-- A frame descriptor (R126); its index is its place in the pool. -/
structure Descriptor where
  generation  : Nat
  volume      : VolumeName
  opening     : Nat
  camera      : Camera
  face        : Face
  bank        : Nat
  level       : Nat
  duration    : Nat
  planEntry   : Nat
  status      : FrameStatus
  frameNumber : Option Nat
  measured    : Option Measured
deriving DecidableEq, Repr

/-- A descriptor before its first take: generation 0 (R126). DESIGN CHOICE for the other fields, which the spec
says have no value then (log 8). -/
def Descriptor.initial : Descriptor where
  generation := 0
  volume := ⟨0, 0⟩
  opening := 0
  camera := .left
  face := .board
  bank := 0
  level := 0
  duration := 0
  planEntry := 0
  status := .planned
  frameNumber := none
  measured := none

/-- The Frame Queue Manager and the exposure slot (R126, R128): the pool, and each holder's descriptors in
arrival order. -/
structure Frames where
  pool      : Vector Descriptor 256
  free      : List Nat
  planned   : List Nat
  slot      : List Nat
  completed : List Nat
  verdict   : List Nat
deriving DecidableEq, Repr

/-! ### The Sweep Walker -/

/-- A set plan entry (R140). -/
structure PlanEntry where
  cameras  : CameraSet
  bank     : Nat
  level    : Nat
  duration : Nat
deriving DecidableEq, Repr

/-- Sweep states (section 8.2). -/
inductive SweepState where
  | idle | walking | waitCamera | exposing | confirming | draining
deriving DecidableEq, Repr

/-- Slot stages (section 8.2). -/
inductive SlotStage where
  | waitCamera | exposing | confirming
deriving DecidableEq, Repr

/-- The ten end reasons of a sweep (R157). -/
inductive SweepEnd where
  | passDone | countReached | closed | exhausted | stopped | guard | halted | settings | dismounted | budget
deriving DecidableEq, Repr

/-- The eight counts of a sweep (R143). -/
structure SweepCounts where
  built          : Nat
  taken          : Nat
  refused        : Nat
  cut            : Nat
  torn           : Nat
  unconfirmed    : Nat
  cameraNotReady : Nat
  withdrawn      : Nat
deriving DecidableEq, Repr

/-- All counts 0. -/
def SweepCounts.zero : SweepCounts where
  built := 0
  taken := 0
  refused := 0
  cut := 0
  torn := 0
  unconfirmed := 0
  cameraNotReady := 0
  withdrawn := 0

/-- The sweep record (section 8.2). -/
structure Sweep where
  state           : SweepState
  mode            : SweepMode
  volume          : Option VolumeName
  opening         : Option Nat
  nextEntry       : Nat
  runWithoutStart : Nat
  started         : Bool
  buildPending    : Bool
  stage           : Option SlotStage
  counts          : SweepCounts
  lastEnd         : Option SweepEnd
deriving DecidableEq, Repr

/-- A camera port (R144). -/
structure CameraPort where
  ready        : Bool
  trigger      : Bool
  counter      : Nat
  readyTimer   : Option Nat
  confirmTimer : Option Nat
deriving DecidableEq, Repr

/-- The Sweep Walker: plan table and length, sweep record, camera ports (R140, R143, R144). -/
structure Walker where
  plan       : Vector (Option PlanEntry) 32
  planLength : Nat
  sweep      : Sweep
  left       : CameraPort
  right      : CameraPort
deriving DecidableEq, Repr

/-! ### The Station Link Unit -/

/-- Reply result codes (R188). -/
inductive Result where
  | ok | accepted | linkBusy | badFrame | unknownRequest | notPermitted | badArgument | mode | noVolume
  | noSlot | noExtent | duplicate | state | stale | held | notCleared | leafBounds | cradleBusy | openingBusy
  | guard | doseBudget | settingsFault | noDescriptors | planBusy | planEmpty | notInVerdict | framesOpen
  | incomplete
deriving DecidableEq, Repr

/-- Where a trip came from (R85, R87). -/
inductive GuardSource where
  | curtain | stopKey
deriving DecidableEq, Repr

/-- A notice (section 11.6), its fields in the order of the layout. -/
inductive Notice where
  | custodyChanged (slot generation : Nat) (state : EntryState) (sequence : Nat)
  | volumeMounted (slot generation opening angleLimit : Nat)
  | volumeDismounted (slot generation : Nat)
  | turnEnded (result : TurnResult) (done opening : Nat) (leaf : Option Nat) (gauge : GaugeValues)
  | turnHeld (cause : StopCause) (operation : Operation) (done : Nat) (gauge : GaugeValues)
  | turnFault (cause : FaultCause) (operation : Operation) (done : Nat) (leaf : Option Nat)
      (gauge : GaugeValues)
  | pickConfirmNeeded (slot leaf baseline reading delta : Nat)
  | sweepEnded (reason : SweepEnd) (mode : SweepMode) (slot generation opening : Nat) (counts : SweepCounts)
  | framesWaiting (count : Nat)
  | budgetReached (slot generation leaf : Nat) (side : Side) (dose budget : Nat) (source : BudgetSource)
      (owner : LightOwner) (ending : LightEnd)
  | guardTripped (source : GuardSource) (mode : Mode)
  | modeChanged (old new : Mode) (cause : ModeCause)
  | settingsChanged (old new : SettingsState) (source : SettingsSource) (lastSum : Nat)
  | restarted (old : Mode) (volume : Option VolumeName) (returned : Nat)
deriving DecidableEq, Repr

/-- A reply frame (R188), from which its bytes follow. -/
structure Reply where
  tag    : Byte
  code   : Byte
  result : Result
  body   : List Byte
deriving DecidableEq, Repr

/-- The pending request of a link (R186): accepted and not yet taken by its owning block, or answered, its
reply's last byte not yet sent. -/
inductive PortRequest where
  | untaken (request : Instr) | answered (reply : Reply)
deriving DecidableEq, Repr

/-- The LINK_BUSY reply a port holds (R186): waiting behind the pending request's reply, or being sent. -/
structure BusyReply where
  tag     : Byte
  code    : Byte
  sending : Bool
deriving DecidableEq, Repr

/-- Reception at a link port (R185). -/
inductive Reception where
  | outside | inFrame | discarding
deriving DecidableEq, Repr

/-- One link port (R185, R186, R190). Its attention line is asserted exactly while `notices` is not empty (R193). -/
structure Port where
  reception : Reception
  request   : Option PortRequest
  busy      : Option BusyReply
  notices   : List Notice
  lost      : Bool
deriving DecidableEq, Repr

/-- A link port after a device reset (R185, R190, R193). -/
def Port.initial : Port where
  reception := .outside
  request := none
  busy := none
  notices := []
  lost := false

/-- The three link ports (R189). -/
structure Links where
  conservation : Port
  capture      : Port
  accounting   : Port
deriving DecidableEq, Repr

/-! ### The machine -/

/-- The machine: the eleven blocks of the part; the notices of the event in progress (`outbox`, empty between
steps, log 18); and the commands that wait (`pending`, log 2). -/
structure State where
  station  : Station
  settings : Settings
  custody  : Custody
  cradle   : Cradle
  gauge    : Gauge
  guards   : Guards
  lights   : Lights
  meter    : Meter
  frames   : Frames
  walker   : Walker
  links    : Links
  outbox   : List Notice
  pending  : List Instr
deriving DecidableEq, Repr

/-- Faults. No rule of the spec stops the part: every request is answered and every event is taken whole, so no
command raises a fault and the type has no value. -/
inductive Fault where
deriving DecidableEq, Repr

/-- Refusals. -/
inductive Refusal where
  /-- Raised by `exec` for a command that has no meaning yet; safe, since nothing can be proved of a run that
  reaches it. No arm of `exec` raises it now. -/
  | notModelled (mnemonic : String)
deriving DecidableEq, Repr

/-- The sensors at power-on. The spec gives the inputs no level there: DESIGN CHOICE angle 0 and every level
false (log 6). -/
def Sensors.initial : Sensors where
  angle := 0
  wandDown := false
  vacuumHeld := false
  armFar := false
  armRest := false

/-- A camera port at power-on (R144). DESIGN CHOICE READY low (log 6). -/
def CameraPort.initial : CameraPort where
  ready := false
  trigger := false
  counter := 0
  readyTimer := none
  confirmTimer := none

/-- The sweep record after a device reset (section 8.2). -/
def Sweep.initial : Sweep where
  state := .idle
  mode := .pass
  volume := none
  opening := none
  nextEntry := 0
  runWithoutStart := 0
  started := false
  buildPending := false
  stage := none
  counts := .zero
  lastEnd := none

/-- The gauge record after a device reset (R76). DESIGN CHOICE 0 for the count of a gate that has never run
(log 8). -/
def Gauge.initial : Gauge where
  gate := none
  count := 0
  countSaturated := false
  timer := none
  baseline := 0
  baselineSaturated := false
  reading := 0
  readingSaturated := false
  delta := 0
  pick := none

/-- The machine right after a device reset with every input low (log 6): the values of R1, R4, R28, R48, R76,
R84, R87, R90, R96, R107, R126, R129, R140, R143, R144, R165, R170, R175, R185, R190. The PARKING of the reset
has begun (R48, R51): every setting word is 0, so its angle timer runs the substitute 30000 ms (R52). -/
def State.reset : State where
  station := { mode := .maintenance, lastReset := .device }
  settings := { words := Vector.replicate 70 0#32, state := .fault, lastSum := 0 }
  custody := { entries := Vector.replicate 8 (CustodyEntry.free 0), leaves := [], nextSequence := 1 }
  cradle :=
    { state := .parking, mounted := none, opening := 0, moveClass := 1, parked := none, drive := .moving,
      hold := none, fault := none, turn := none, approval := none, target := none,
      timers := { CradleTimers.stopped with angle := some 30000 },
      sensors := .initial,
      outputs := { angleDrive := .toward 180, armDrive := .toRest none, wandDrive := .up, vacuumOpen := false,
                   airKnife := none } }
  gauge := .initial
  guards := { curtainBroken := false, curtainLatch := false, stopPressed := false, stopLatch := false }
  lights := { banks := Vector.replicate 8 .off, preview := none, lastEnd := none }
  meter := { running := none, irradiance := 0, exposure := none, preview := none }
  frames :=
    { pool := Vector.replicate 256 .initial, free := List.range 256, planned := [], slot := [], completed := [],
      verdict := [] }
  walker :=
    { plan := Vector.replicate 32 none, planLength := 0, sweep := .initial, left := .initial, right := .initial }
  links := { conservation := .initial, capture := .initial, accounting := .initial }
  outbox := []
  pending := []

/-! ### Updates of one block, the others as they stand -/

def State.onStation (f : Station → Station) (s : State) : State := { s with station := f s.station }
def State.onSettings (f : Settings → Settings) (s : State) : State := { s with settings := f s.settings }
def State.onCustody (f : Custody → Custody) (s : State) : State := { s with custody := f s.custody }
def State.onCradle (f : Cradle → Cradle) (s : State) : State := { s with cradle := f s.cradle }
def State.onGauge (f : Gauge → Gauge) (s : State) : State := { s with gauge := f s.gauge }
def State.onGuards (f : Guards → Guards) (s : State) : State := { s with guards := f s.guards }
def State.onLights (f : Lights → Lights) (s : State) : State := { s with lights := f s.lights }
def State.onMeter (f : Meter → Meter) (s : State) : State := { s with meter := f s.meter }
def State.onFrames (f : Frames → Frames) (s : State) : State := { s with frames := f s.frames }
def State.onWalker (f : Walker → Walker) (s : State) : State := { s with walker := f s.walker }
def State.onLinks (f : Links → Links) (s : State) : State := { s with links := f s.links }
def State.onOutbox (f : List Notice → List Notice) (s : State) : State := { s with outbox := f s.outbox }
def State.withPending (q : List Instr) (s : State) : State := { s with pending := q }

end Sys2Proof.Machine
end

