-- ==== Sys2Proof/Machine/Flags.lean ====
section
/-! DEFINITION. Flags: what the blocks compute from the state and hold nowhere else: the setting words as they
are used, the visible faces and their standing against the budget, completeness, the free runs of the leaf
store, the guard, light and link conditions, and the views of the descriptor queues. -/

namespace Sys2Proof.Machine

/-! ### Setting words as the blocks use them -/

/-- The value used in the place of a word that is out of range (R167). -/
def settingSubstitute (index : Nat) : Int :=
  if index < 32 then
    match index % 8 with
    | 0 => 0
    | 1 => 1
    | 2 => 0
    | 6 => 5000
    | 7 => 30000
    | _ => 10000
  else if index < 64 then
    match index % 4 with
    | 0 => 65535
    | 3 => 255
    | _ => 32767
  else
    match index with
    | 64 => 100
    | 65 => 10000
    | 66 => 10000
    | 67 => 120000
    | _ => 0

/-- The quantity a block uses for a word: its own when it is in range, else the substitute (R167). -/
def settingUsed (index : Nat) (w : Word) : Int :=
  if settingInRange index w then settingQuantity index w else settingSubstitute index

/-- Setting word `index` as held. -/
def State.word (s : State) (index : Nat) : Word := Vec.at s.settings.words index 0#32

/-- Setting word `index` as it is used now (R165, R167). -/
def State.setting (s : State) (index : Nat) : Int := settingUsed index (s.word index)

/-- A word of the profile of a handling class, by its offset (R165). -/
def State.profile (s : State) (handlingClass offset : Nat) : Nat :=
  (s.setting (8 * (handlingClass - 1) + offset)).toNat

def State.airLevel (s : State) (c : Nat) : Nat := s.profile c 0
def State.carrySpeed (s : State) (c : Nat) : Nat := s.profile c 1
def State.retries (s : State) (c : Nat) : Nat := s.profile c 2
def State.liftTime (s : State) (c : Nat) : Nat := s.profile c 3
def State.carryTime (s : State) (c : Nat) : Nat := s.profile c 4
def State.layTime (s : State) (c : Nat) : Nat := s.profile c 5
def State.settleTime (s : State) (c : Nat) : Nat := s.profile c 6
def State.angleTime (s : State) (c : Nat) : Nat := s.profile c 7

/-- A calibration word of a bank, by its offset: N, g, o, w (R108, R165). -/
def State.calibration (s : State) (bank offset : Nat) : Int := s.setting (32 + 4 * bank + offset)

def State.gateTime (s : State) : Nat := (s.setting 64).toNat
def State.cameraReadyTime (s : State) : Nat := (s.setting 65).toNat
def State.cameraConfirmTime (s : State) : Nat := (s.setting 66).toNat
def State.pickConfirmTime (s : State) : Nat := (s.setting 67).toNat
def State.previewCap (s : State) : Nat := (s.setting 68).toNat

/-- The sum of the 70 words modulo 4294967296 (R170). -/
def settingsSum (words : Vector Word 70) : Nat := (words.toList.map BitVec.toNat).sum % 4294967296

/-- The settings state a sum shows (R170). -/
def stateOfSum (sum : Nat) : SettingsState := if sum = Config.goodSum then .good else .fault

/-- The lowest index of a word out of range (R173). -/
def firstOutOfRange (words : Vector Word 70) : Option Nat :=
  (List.range 70).find? fun i => !settingInRange i (Vec.at words i 0#32)

/-! ### Custody entries and leaf records -/

/-- The custody entry of a slot. -/
def State.entry (s : State) (slot : Nat) : CustodyEntry := Vec.at s.custody.entries slot (.free 0)

/-- The record of the store at an index, none when it is free (R28). -/
def LeafStore.get : LeafStore → Nat → Option LeafRecord
  | [], _ => none
  | (k, r) :: rest, i => if k = i then some r else LeafStore.get rest i

/-- The record of leaf `leaf` of a volume: record b + i of its extent (R28). A leaf index outside the extent,
which no request passes on, reads as a fresh record (log 25). -/
def Custody.leafOf (c : Custody) (e : CustodyEntry) (leaf : Nat) : LeafRecord :=
  (LeafStore.get c.leaves (e.extentBase + leaf)).getD .fresh

/-- The record of a leaf of the volume in a slot. -/
def State.leaf (s : State) (slot leaf : Nat) : LeafRecord := s.custody.leafOf (s.entry slot) leaf

/-- A face record of a leaf record: the LEFT side of an opening shows a verso, the RIGHT a recto (R35). -/
def LeafRecord.sideOf (r : LeafRecord) : Side → FaceRecord
  | .left => r.verso
  | .right => r.recto

/-- The slot of the MOUNTED entry, if any. -/
def State.mountedSlot (s : State) : Option Nat :=
  (List.range 8).find? fun i => (s.entry i).state == .mounted

/-- The MOUNTED entry's name, if any. -/
def State.mountedVolume (s : State) : Option VolumeName :=
  s.mountedSlot.map fun slot => ⟨slot, (s.entry slot).generation⟩

/-- Equal identities: shelf-mark and designation, not accession (R5). -/
def sameIdentity (shelfMark : List Byte) (designation : Option (List Byte)) (e : CustodyEntry) : Bool :=
  e.shelfMark == shelfMark && e.designation == designation

/-- The lowest slot whose non-FREE entry has an identity (R6, check 2). -/
def State.holderOfIdentity (s : State) (shelfMark : List Byte) (designation : Option (List Byte)) :
    Option Nat :=
  (List.range 8).find? fun i => (s.entry i).state != .free && sameIdentity shelfMark designation (s.entry i)

/-- The lowest-numbered FREE slot (R7). -/
def State.lowestFree (s : State) : Option Nat := (List.range 8).find? fun i => (s.entry i).state == .free

/-- The budget of an entry's clearance; 0 without one, which no lighting condition meets (R92: a MOUNTED entry
always holds a clearance). -/
def CustodyEntry.budget (e : CustodyEntry) : Nat := (e.clearance.map (·.faceBudget)).getD 0

/-- The handling class of an entry's clearance, 1 without one (log 25). -/
def CustodyEntry.handlingClass (e : CustodyEntry) : Nat := (e.clearance.map (·.handlingClass)).getD 1

/-- The angle limit of an entry's clearance, 180 without one (log 25). -/
def CustodyEntry.angleLimit (e : CustodyEntry) : Nat := (e.clearance.map (·.angleLimit)).getD 180

/-! ### Completeness (R43) -/

/-- A coverage set contains every band of the required set. -/
def covers (coverage required : BandSet) : Bool := required &&& coverage == required

/-- A leaf is complete when it is WITHHELD or both its faces cover the required set (R43). -/
def leafComplete (required : BandSet) (r : LeafRecord) : Bool :=
  r.mark == .withheld || (covers r.verso.coverage required && covers r.recto.coverage required)

/-- The number of complete leaves of a volume (R43). -/
def Custody.countComplete (c : Custody) (e : CustodyEntry) (required : BandSet) : Nat :=
  (List.range e.leafCount).countP fun i => leafComplete required (c.leafOf e i)

/-- The number of WITHHELD leaves of a volume (R23). -/
def Custody.countWithheld (c : Custody) (e : CustodyEntry) : Nat :=
  (List.range e.leafCount).countP fun i => (c.leafOf e i).mark == .withheld

/-! ### Free runs of the leaf store (R29, R31) -/

/-- The free runs from record `b` on, as base and length, lowest first. -/
def freeRunsFrom : Nat → LeafStore → List (Nat × Nat)
  | b, [] => if b < Config.leafRecords then [(b, Config.leafRecords - b)] else []
  | b, (k, _) :: rest => if b < k then (b, k - b) :: freeRunsFrom (k + 1) rest else freeRunsFrom (k + 1) rest

/-- The free runs of the store, lowest base first. -/
def freeRuns (st : LeafStore) : List (Nat × Nat) := freeRunsFrom 0 st

/-- First-fit search: the lowest base where `l` free records lie together (R29). -/
def firstFit (l : Nat) (st : LeafStore) : Option Nat :=
  ((freeRuns st).find? fun run => decide (l ≤ run.2)).map (·.1)

/-- The number of free records (R31). -/
def freeRecords (st : LeafStore) : Nat := Config.leafRecords - st.length

/-- The longest free run, the lowest base among the runs of that length; none when no record is free (R31). -/
def longestRun (st : LeafStore) : Option (Nat × Nat) :=
  (freeRuns st).foldl
    (fun best run =>
      match best with
      | none => some run
      | some b => if b.2 < run.2 then some run else some b)
    none

/-! ### Openings and visible faces (R35, R36) -/

/-- The visible leaf faces of opening `n` of a volume of `l` leaves, LEFT before RIGHT (R35). -/
def visibleAt (l n : Nat) : List VisibleFace :=
  (if 1 ≤ n then [⟨n - 1, .left⟩] else []) ++ (if n < l then [⟨n, .right⟩] else [])

/-- The visible leaf faces of the current opening: those of the MOUNTED entry, none without one (R35). -/
def State.visible (s : State) : List VisibleFace :=
  match s.mountedSlot with
  | none => []
  | some slot => visibleAt (s.entry slot).leafCount s.cradle.opening

/-- The face a camera sees at opening `n` of a volume of `l` leaves (R36). -/
def faceSeen (l n : Nat) : Camera → Face
  | .left => if 1 ≤ n then .verso (n - 1) else .board
  | .right => if n < l then .recto n else .board

/-- The recorded dose of a visible face of a volume. -/
def Custody.doseOf (c : Custody) (e : CustodyEntry) (v : VisibleFace) : Nat :=
  ((c.leafOf e v.leaf).sideOf v.side).dose

/-- The first visible leaf face, LEFT before RIGHT, whose recorded dose is at or above the budget (R92, R97). -/
def State.faceAtBudget (s : State) : Option VisibleFace :=
  match s.mountedSlot with
  | none => none
  | some slot => s.visible.find? fun v => decide ((s.entry slot).budget ≤ s.custody.doseOf (s.entry slot) v)

/-! ### Guards, light and cradle conditions -/

/-- The curtain is live CLEAR and its latch is clear (R85). -/
def Guards.clear (g : Guards) : Bool := !g.curtainBroken && !g.curtainLatch

/-- The lit bank with its level and owner; none while the station is dark (R90). -/
def litBank (banks : Vector BankRecord 8) : Option (Nat × Nat × LightOwner) :=
  (List.range 8).findSome? fun i =>
    match Vec.at banks i .off with
    | .off => none
    | .lit level owner => some (i, level, owner)

/-- The conditions of a light request, the first that fails giving the refusal (R92). -/
def State.lightRefusal (s : State) : Option Result :=
  if s.station.mode ≠ .ready then some .mode
  else if s.mountedSlot = none then some .noVolume
  else if s.settings.state ≠ .good then some .settingsFault
  else if s.cradle.state ≠ .openReady then some .cradleBusy
  else if s.guards.clear = false then some .guard
  else if s.faceAtBudget ≠ none then some .doseBudget
  else none

/-- A leaf is on the wand (R49). -/
def Cradle.leafOnWand (c : Cradle) : Bool := (c.turn.map (·.leafOnWand)).getD false

/-- The leaf a turn lifts at opening `n` (R34, R56). -/
def liftedLeaf (direction : Direction) (n : Nat) : Nat :=
  match direction with
  | .forward => n
  | .back => n - 1

/-- The current leaf of a turn, while the Cradle Unit holds a turn record (R39). -/
def Cradle.currentLeaf (c : Cradle) : Option Nat := c.turn.map fun t => liftedLeaf t.direction c.opening

/-- Whether a leaf of the volume in a slot is the current leaf of a turn of that volume (R39). -/
def State.isCurrentLeaf (s : State) (slot leaf : Nat) : Bool :=
  (s.entry slot).state == .mounted && s.cradle.currentLeaf == some leaf

/-- The cradle may be taken out of FAULT or HOLDING by DISMOUNT or RESTART: no leaf on the wand (R16, R75). -/
def Cradle.atRestInHold (c : Cradle) : Bool :=
  (c.state == .fault || c.state == .holding) && !c.leafOnWand

/-- The gauge values a turn notice carries. -/
def Gauge.values (g : Gauge) : GaugeValues where
  baseline := g.baseline
  reading := g.reading
  delta := g.delta
  pick := g.pick
  baselineSaturated := g.baselineSaturated
  readingSaturated := g.readingSaturated

/-! ### Descriptors and their holders (R128) -/

/-- Descriptor `index`. -/
def State.frame (s : State) (index : Nat) : Descriptor := Vec.at s.frames.pool index .initial

/-- The holder a descriptor stands in (R128). -/
def Frames.holder (f : Frames) (index : Nat) : Holder :=
  if index ∈ f.verdict then .verdict
  else if index ∈ f.completed then .completed
  else if index ∈ f.slot then .exposureSlot
  else if index ∈ f.planned then .planned
  else .free

/-- Head index of a queue, none when its count is 0 (R128). -/
def queueHead (q : List Nat) : Option Nat := q.head?

/-- Tail index of a queue, none when its count is 0 (R128). -/
def queueTail (q : List Nat) : Option Nat := q.getLast?

/-- The link table's entry of a descriptor in a queue: the index of the next descriptor, none for the last (section 7.2). -/
def queueNext : List Nat → Nat → Option Nat
  | [], _ => none
  | [_], _ => none
  | a :: b :: rest, i => if a = i then some b else queueNext (b :: rest) i

/-! ### The plan (R140) -/

/-- The camera count of a set entry (R140). -/
def cameraSetCount : CameraSet → Nat
  | .left => 1
  | .right => 1
  | .both => 2

/-- The cameras of an entry in build order, LEFT before RIGHT (R130). -/
def cameraSetList : CameraSet → List Camera
  | .left => [.left]
  | .right => [.right]
  | .both => [.left, .right]

/-- Plan entry `index`, none while unset. -/
def Walker.planAt (w : Walker) (index : Nat) : Option PlanEntry := Vec.at w.plan index none

/-- The camera count of entry `index`; every entry within the plan length is set (R140, R142). -/
def Walker.cameraCount (w : Walker) (index : Nat) : Nat :=
  ((w.planAt index).map fun e => cameraSetCount e.cameras).getD 0

/-- The descriptors a PASS build needs: the sum of the camera counts of entries 0..length−1 (R145). -/
def Walker.passNeed (w : Walker) : Nat := ((List.range w.planLength).map w.cameraCount).sum

/-- The lowest unset entry below a length (R142). -/
def Walker.lowestUnset (w : Walker) (length : Nat) : Option Nat :=
  (List.range length).find? fun i => (w.planAt i).isNone

/-- A camera's port. -/
def Walker.port (w : Walker) : Camera → CameraPort
  | .left => w.left
  | .right => w.right

/-! ### Links -/

/-- The port of a link. -/
def Links.port (l : Links) : Link → Port
  | .conservation => l.conservation
  | .capture => l.capture
  | .accounting => l.accounting

/-- The port of a link. -/
def State.port (s : State) (link : Link) : Port := s.links.port link

/-- The attention line of a link: asserted while its notice queue holds a notice (R193). -/
def Port.attention (p : Port) : Bool := !p.notices.isEmpty

/-- The place of a notice's kind among the notices of one event (R190). -/
def Notice.rank : Notice → Nat
  | .restarted .. => 0
  | .guardTripped .. => 1
  | .settingsChanged .. => 2
  | .budgetReached .. => 3
  | .turnFault .. => 4
  | .turnHeld .. => 5
  | .turnEnded .. => 6
  | .pickConfirmNeeded .. => 7
  | .volumeMounted .. => 8
  | .volumeDismounted .. => 9
  | .framesWaiting .. => 10
  | .sweepEnded .. => 11
  | .custodyChanged .. => 12
  | .modeChanged .. => 13

/-- The routing table (R191). -/
def Notice.routed (n : Notice) (link : Link) : Bool :=
  match n with
  | .custodyChanged .. => link == .conservation
  | .sweepEnded .. => link == .capture
  | .framesWaiting .. => link == .capture
  | .modeChanged .. => true
  | .restarted .. => true
  | .volumeMounted .. => link != .accounting
  | .volumeDismounted .. => link != .accounting
  | .turnEnded .. => link != .accounting
  | .turnHeld .. => link != .accounting
  | .turnFault .. => link != .accounting
  | .pickConfirmNeeded .. => link != .accounting
  | .budgetReached .. => link != .accounting
  | .guardTripped .. => link != .accounting
  | .settingsChanged .. => link != .accounting

/-- The notices of one event in the order in which they join a queue: by kind, those of one kind as posted (R190). -/
def inOrderOfKind (notices : List Notice) : List Notice :=
  (List.range 14).flatMap fun k => notices.filter fun n => n.rank == k

end Sys2Proof.Machine
end

