-- ==== Sys2Proof/Machine/Operands.lean ====
section
/-! DEFINITION. Operands: the encoding of fields (R195) and the layouts of reply bodies, refusal bodies and
notices (section 11.6). Request bodies are in Decode.lean. -/

namespace Sys2Proof.Machine

/-! ### Fields (R195) -/

/-- An optional value of one byte, absent as 255. -/
def opt1 (v : Option Nat) : List Byte := be 1 (v.getD 255)

/-- An optional value of two bytes, absent as 65535. -/
def opt2 (v : Option Nat) : List Byte := be 2 (v.getD 65535)

/-- A yes or no flag, or a two-valued enumeration in its order. -/
def flag (b : Bool) : List Byte := be 1 (if b then 1 else 0)

/-- A shelf-mark: its length and 24 character bytes. -/
def shelfMarkBytes (name : List Byte) : List Byte := nameBytes 24 name

/-- A designation: its length, 0 when absent, and 8 character bytes. -/
def designationBytes (name : Option (List Byte)) : List Byte := nameBytes 8 (name.getD [])

def entryStateCode : EntryState → Nat
  | .free => 0 | .staged => 1 | .mounted => 2

/-- The hold cause of a custody entry; its list names none (R195). -/
def holdCauseCode : Option HoldCause → Nat
  | none => 0
  | some .conservation => 1
  | some .turnFault => 2
  | some .restart => 3

def cradleStateCode : CradleState → Nat
  | .parked => 0 | .settling => 1 | .openReady => 2 | .turning => 3 | .holding => 4 | .fault => 5
  | .recovering => 6 | .parking => 7

def phaseCode : Phase → Nat
  | .baseline => 0 | .lift => 1 | .pickConfirm => 2 | .drop => 3 | .carry => 4 | .lay => 5 | .returning => 6
  | .settle => 7

def operationCode : Operation → Nat
  | .phase p => phaseCode p
  | .settling => 8
  | .parking => 9

def stopCauseCode : StopCause → Nat
  | .guard => 0 | .halt => 1 | .settings => 2 | .angleTimeout => 3

def faultCauseCode : FaultCause → Nat
  | .pickDouble => 0 | .pickNone => 1 | .noConfirm => 2 | .timeout => 3 | .vacuumLost => 4
  | .angleTimeout => 5

def pickClassCode : PickClass → Nat
  | .nothing => 0 | .single => 1 | .double => 2 | .unknown => 3 | .saturated => 4

def turnResultCode : TurnResult → Nat
  | .complete => 0 | .approvalRequired => 1 | .recovered => 2

def modeCode : Mode → Nat
  | .maintenance => 0 | .ready => 1 | .halted => 2

def settingsStateCode : SettingsState → Nat
  | .good => 0 | .fault => 1

def resetKindCode : ResetKind → Nat
  | .device => 0 | .restart => 1

def modeCauseCode : ModeCause → Nat
  | .enterReady => 0 | .enterMaintenance => 1 | .halt => 2 | .stopKey => 3 | .clearHalt => 4 | .restart => 5

def settingsSourceCode : SettingsSource → Nat
  | .periodic => 0 | .enterReady => 1

def guardSourceCode : GuardSource → Nat
  | .curtain => 0 | .stopKey => 1

def sweepEndCode : SweepEnd → Nat
  | .passDone => 0 | .countReached => 1 | .closed => 2 | .exhausted => 3 | .stopped => 4 | .guard => 5
  | .halted => 6 | .settings => 7 | .dismounted => 8 | .budget => 9

def frameStatusCode : FrameStatus → Nat
  | .planned => 0 | .exposing => 1 | .confirming => 2 | .taken => 3 | .cut => 4 | .torn => 5 | .refused => 6
  | .unconfirmed => 7 | .cameraNotReady => 8 | .withdrawn => 9

def cameraCode : Camera → Nat
  | .left => 0 | .right => 1

def sideCode : Side → Nat
  | .left => 0 | .right => 1

def faceKindCode : Face → Nat
  | .verso _ => 0 | .recto _ => 1 | .board => 2

/-- The leaf index of a face, none for BOARD. -/
def Face.leaf? : Face → Option Nat
  | .verso l => some l
  | .recto l => some l
  | .board => none

def lightOwnerCode : LightOwner → Nat
  | .exposure => 0 | .preview => 1

def lightEndCode : LightEnd → Nat
  | .pulseEnd => 0 | .cut => 1 | .budget => 2

def budgetSourceCode : BudgetSource → Nat
  | .metering => 0 | .setBudget => 1

def previewEndCode : PreviewEnd → Nat
  | .request => 0 | .turn => 1 | .capture => 2 | .dismount => 3 | .guard => 4 | .halt => 5 | .settings => 6
  | .budget => 7 | .restart => 8

def sweepStateCode : SweepState → Nat
  | .idle => 0 | .walking => 1 | .waitCamera => 2 | .exposing => 3 | .confirming => 4 | .draining => 5

def slotStageCode : SlotStage → Nat
  | .waitCamera => 0 | .exposing => 1 | .confirming => 2

def holderCode : Holder → Nat
  | .free => 0 | .planned => 1 | .exposureSlot => 2 | .completed => 3 | .verdict => 4

/-- The answer of a coverage booking (R42). -/
inductive CoverageAnswer where
  | new | already | board
deriving DecidableEq, Repr

def coverageAnswerCode : CoverageAnswer → Nat
  | .new => 0 | .already => 1 | .board => 2

/-- The target byte of a sweep mode in a reply or notice, 255 when absent. -/
def sweepTarget (m : SweepMode) : List Byte := be 1 (targetCode m)

/-- The result byte of a reply (R188); 19 is not used. -/
def resultCode : Result → Nat
  | .ok => 0 | .accepted => 1 | .linkBusy => 2 | .badFrame => 3 | .unknownRequest => 4 | .notPermitted => 5
  | .badArgument => 6 | .mode => 7 | .noVolume => 8 | .noSlot => 9 | .noExtent => 10 | .duplicate => 11
  | .state => 12 | .stale => 13 | .held => 14 | .notCleared => 15 | .leafBounds => 16 | .cradleBusy => 17
  | .openingBusy => 18 | .guard => 20 | .doseBudget => 21 | .settingsFault => 22 | .noDescriptors => 23
  | .planBusy => 24 | .planEmpty => 25 | .notInVerdict => 26 | .framesOpen => 27 | .incomplete => 28

/-- The bytes of a reply frame (R188): start byte, tag, code, result, body length, body, check byte. -/
def Reply.bytes (r : Reply) : List Byte :=
  let core := r.tag :: r.code :: BitVec.ofNat 8 (resultCode r.result) :: BitVec.ofNat 8 r.body.length :: r.body
  0xA5#8 :: (core ++ [checkByte core])

/-- The bytes of a LINK_BUSY reply (R186, R188). -/
def BusyReply.bytes (b : BusyReply) : List Byte :=
  Reply.bytes { tag := b.tag, code := b.code, result := .linkBusy, body := [] }

/-! ### Recurring groups -/

/-- The guard levels: curtain live and latch, stop key live and latch. -/
def guardLevels (g : Guards) : List Byte :=
  flag g.curtainBroken ++ flag g.curtainLatch ++ flag g.stopPressed ++ flag g.stopLatch

/-- A plan entry record of 7 bytes. -/
def planEntryBytes : Option PlanEntry → List Byte
  | none => be 1 0 ++ be 1 0 ++ be 1 0 ++ be 2 0 ++ be 2 0
  | some e => be 1 1 ++ be 1 (camerasCode e.cameras) ++ be 1 e.bank ++ be 2 e.level ++ be 2 e.duration

/-- An approval of 4 bytes. -/
def approvalBytes : Option Approval → List Byte
  | none => be 1 255 ++ be 1 0 ++ be 2 0
  | some a => be 1 a.slot ++ be 1 a.generation ++ be 2 a.leaf

/-- A slot and a custody generation; none is slot 255 with generation 0. -/
def volumeBytes : Option VolumeName → List Byte
  | none => be 1 255 ++ be 1 0
  | some v => be 1 v.slot ++ be 1 v.generation

/-- The eight counts in the order of SWEEP ENDED. -/
def countsBytes (c : SweepCounts) : List Byte :=
  be 4 c.built ++ be 4 c.taken ++ be 4 c.refused ++ be 4 c.cut ++ be 4 c.torn ++ be 4 c.unconfirmed ++
    be 4 c.cameraNotReady ++ be 4 c.withdrawn

/-- The gauge values of 8 bytes. -/
def gaugeBytes (g : GaugeValues) : List Byte :=
  be 2 g.baseline ++ be 2 g.reading ++ be 2 g.delta ++ opt1 (g.pick.map pickClassCode) ++
    be 1 ((if g.baselineSaturated then 1 else 0) + (if g.readingSaturated then 2 else 0))

/-! ### Records -/

/-- The custody entry of READ CUSTODY, 81 bytes. -/
def custodyEntryBytes (slot : Nat) (e : CustodyEntry) : List Byte :=
  be 1 slot ++ be 1 (entryStateCode e.state) ++ be 1 e.generation ++ be 4 e.sequence ++
    shelfMarkBytes e.shelfMark ++ designationBytes e.designation ++ be 4 e.accession ++ be 2 e.leafCount ++
    be 2 e.extentBase ++ flag e.clearance.isSome ++
    be 1 ((e.clearance.map (·.handlingClass)).getD 0) ++ be 1 ((e.clearance.map (·.angleLimit)).getD 0) ++
    be 4 ((e.clearance.map (·.faceBudget)).getD 0) ++ be 1 e.required.toNat ++ flag e.hold.isSome ++
    be 1 (holdCauseCode e.hold) ++ flag e.waiver.isSome ++ be 1 (e.waiver.getD 0) ++ be 2 e.reference ++
    be 4 e.turns ++ be 2 e.framesAccepted ++ be 2 e.framesOpen ++ be 2 e.leavesComplete ++ be 6 e.doseTotal ++
    be 2 e.damageMarks

/-- The custody receipt of RELEASE, 64 bytes (R23). -/
def receiptBytes (e : CustodyEntry) (withheld : Nat) : List Byte :=
  shelfMarkBytes e.shelfMark ++ designationBytes e.designation ++ be 4 e.accession ++ be 4 e.sequence ++
    be 2 e.leafCount ++ be 2 e.leavesComplete ++ be 2 withheld ++ be 2 e.framesAccepted ++ be 6 e.doseTotal ++
    be 4 e.turns ++ be 2 e.damageMarks ++ flag e.waiver.isSome ++ be 1 (e.waiver.getD 0)

/-- A LIST CUSTODY record, 44 bytes (R24). -/
def listRecordBytes (slot : Nat) (e : CustodyEntry) : List Byte :=
  be 1 slot ++ be 1 e.generation ++ be 1 (entryStateCode e.state) ++ shelfMarkBytes e.shelfMark ++
    designationBytes e.designation ++ flag e.hold.isSome ++ be 2 e.framesOpen ++ be 2 e.extentBase ++
    be 2 e.leafCount

/-- The leaf record of READ LEAF, 24 bytes (R47). -/
def leafRecordBytes (slot : Nat) (e : CustodyEntry) (leaf : Nat) (r : LeafRecord)
    (complete versoVisible rectoVisible current : Bool) : List Byte :=
  be 1 slot ++ be 1 e.generation ++ be 2 leaf ++ be 2 (e.extentBase + leaf) ++ be 1 (markCode r.mark) ++
    be 2 r.turnCount ++ be 4 r.verso.dose ++ be 1 r.verso.coverage.toNat ++ be 2 r.verso.framesOpen ++
    be 4 r.recto.dose ++ be 1 r.recto.coverage.toNat ++ be 2 r.recto.framesOpen ++
    be 1 ((if complete then 1 else 0) + (if versoVisible then 2 else 0) + (if rectoVisible then 4 else 0) +
      (if current then 8 else 0))

/-- The frame record of TAKE FRAMES, 26 bytes (section 11.6); an absent field behind a clear presence weight takes
its absent fill, 65535 or 0 in four bytes. -/
def frameRecordBytes (index : Nat) (d : Descriptor) : List Byte :=
  be 1 index ++ be 1 d.generation ++ be 1 d.volume.slot ++ be 1 d.volume.generation ++ be 2 d.opening ++
    be 1 (cameraCode d.camera) ++ be 1 (faceKindCode d.face) ++ opt2 d.face.leaf? ++ be 1 d.bank ++
    be 2 d.level ++ be 2 d.duration ++ be 1 d.planEntry ++ be 1 (frameStatusCode d.status) ++
    be 1 ((if d.frameNumber.isSome then 1 else 0) + (if d.measured.isSome then 2 else 0)) ++
    opt2 d.frameNumber ++ be 4 ((d.measured.map (·.dose)).getD 0) ++ opt2 (d.measured.map (·.meanIrradiance))

/-! ### Notices -/

/-- The kind code of a notice (section 11.6). -/
def Notice.kind : Notice → Nat
  | .custodyChanged .. => 1
  | .volumeMounted .. => 2
  | .volumeDismounted .. => 3
  | .turnEnded .. => 4
  | .turnHeld .. => 5
  | .turnFault .. => 6
  | .pickConfirmNeeded .. => 7
  | .sweepEnded .. => 8
  | .framesWaiting .. => 9
  | .budgetReached .. => 10
  | .guardTripped .. => 11
  | .modeChanged .. => 12
  | .settingsChanged .. => 13
  | .restarted .. => 14

/-- The body of a notice (section 11.6). -/
def Notice.body : Notice → List Byte
  | .custodyChanged slot generation state sequence =>
    be 1 slot ++ be 1 generation ++ be 1 (entryStateCode state) ++ be 4 sequence
  | .volumeMounted slot generation opening angleLimit =>
    be 1 slot ++ be 1 generation ++ be 2 opening ++ be 1 angleLimit
  | .volumeDismounted slot generation => be 1 slot ++ be 1 generation
  | .turnEnded result done opening leaf gauge =>
    be 1 (turnResultCode result) ++ be 1 done ++ be 2 opening ++ opt2 leaf ++ gaugeBytes gauge
  | .turnHeld cause operation done gauge =>
    be 1 (stopCauseCode cause) ++ be 1 (operationCode operation) ++ be 1 done ++ gaugeBytes gauge
  | .turnFault cause operation done leaf gauge =>
    be 1 (faultCauseCode cause) ++ be 1 (operationCode operation) ++ be 1 done ++ opt2 leaf ++ gaugeBytes gauge
  | .pickConfirmNeeded slot leaf baseline reading delta =>
    be 1 slot ++ be 2 leaf ++ be 2 baseline ++ be 2 reading ++ be 2 delta
  | .sweepEnded reason mode slot generation opening counts =>
    be 1 (sweepEndCode reason) ++ be 1 (sweepModeCode mode) ++ sweepTarget mode ++ be 1 slot ++
      be 1 generation ++ be 2 opening ++ countsBytes counts
  | .framesWaiting count => be 2 count
  | .budgetReached slot generation leaf side dose budget source owner ending =>
    be 1 slot ++ be 1 generation ++ be 2 leaf ++ be 1 (sideCode side) ++ be 4 dose ++ be 4 budget ++
      be 1 (budgetSourceCode source) ++ be 1 (lightOwnerCode owner) ++ be 1 (lightEndCode ending)
  | .guardTripped source mode => be 1 (guardSourceCode source) ++ be 1 (modeCode mode)
  | .modeChanged old new cause => be 1 (modeCode old) ++ be 1 (modeCode new) ++ be 1 (modeCauseCode cause)
  | .settingsChanged old new source lastSum =>
    be 1 (settingsStateCode old) ++ be 1 (settingsStateCode new) ++ be 1 (settingsSourceCode source) ++
      be 4 lastSum
  | .restarted old volume returned =>
    be 1 (modeCode old) ++ be 1 (resetKindCode .restart) ++ volumeBytes volume ++ be 2 returned

/-- A notice record of a TAKE NOTICES reply: kind code, body length, body. -/
def Notice.record (n : Notice) : List Byte := be 1 n.kind ++ be 1 n.body.length ++ n.body

/-! ### The status record of READ STATUS, 101 bytes (R183) -/

/-- What a hold keeps, as an operation: the turn's phase, or SETTLING (R68). -/
def Cradle.heldOperation (c : Cradle) : Option Operation :=
  c.hold.bind fun h =>
    match h.work with
    | .settling => some .settling
    | .turn => c.turn.map fun t => .phase t.phase

/-- Station and settings groups. -/
def statusStation (s : State) : List Byte :=
  be 1 (modeCode s.station.mode) ++ be 1 (resetKindCode s.station.lastReset) ++
    be 1 (settingsStateCode s.settings.state) ++ be 4 s.settings.lastSum

/-- Cradle group. -/
def statusCradle (c : Cradle) : List Byte :=
  be 1 (cradleStateCode c.state) ++
    (match c.drive with
      | .moving => be 1 0 ++ be 1 255
      | .stopped cause => be 1 1 ++ be 1 (stopCauseCode cause)) ++
    opt1 (c.hold.map fun h => stopCauseCode h.cause) ++ opt1 (c.heldOperation.map operationCode) ++
    opt1 (c.fault.map fun f => faultCauseCode f.cause) ++
    opt1 (c.fault.bind fun f => f.phase.map phaseCode) ++
    opt1 (c.turn.map fun t => phaseCode t.phase) ++ opt1 (c.turn.map (·.step)) ++
    opt1 (c.turn.map fun t => directionCode t.direction) ++ opt1 (c.turn.map (·.count)) ++
    opt1 (c.turn.map (·.done)) ++ opt1 (c.turn.map (·.effectiveClass)) ++ be 2 c.opening ++
    volumeBytes c.mounted

/-- Lighting group. -/
def statusLighting (l : Lights) : List Byte :=
  (match litBank l.banks with
    | none => be 1 255 ++ be 1 255 ++ be 2 65535
    | some (bank, level, owner) => be 1 bank ++ be 1 (lightOwnerCode owner) ++ be 2 level) ++
    flag l.preview.isSome ++ be 2 (l.preview.getD 0) ++ opt1 (l.lastEnd.map previewEndCode)

/-- Metering group; the intervals are those of an exposure in progress. -/
def statusMetering (m : Meter) : List Byte :=
  flag m.running.isSome ++ opt1 (m.running.map (·.bank)) ++
    opt1 (m.running.map fun r => lightOwnerCode r.owner) ++ be 2 m.irradiance ++
    (match m.running, m.exposure with
      | some ⟨_, .exposure⟩, some a => be 1 a.charged ++ be 1 a.planned
      | _, _ => be 1 255 ++ be 1 255)

/-- Sweep group. -/
def statusSweep (w : Sweep) : List Byte :=
  be 1 (sweepStateCode w.state) ++ be 1 (sweepModeCode w.mode) ++ sweepTarget w.mode ++
    opt1 (w.stage.map slotStageCode) ++ flag w.buildPending ++ countsBytes w.counts ++
    opt1 (w.lastEnd.map sweepEndCode)

/-- The status record. -/
def statusBytes (s : State) : List Byte :=
  statusStation s ++ statusCradle s.cradle ++ guardLevels s.guards ++ statusLighting s.lights ++
    statusMetering s.meter ++ statusSweep s.walker.sweep ++ be 2 s.frames.free.length ++
    be 2 s.frames.planned.length ++ be 2 s.frames.completed.length ++ be 2 s.frames.verdict.length ++
    flag s.walker.left.ready ++ be 2 s.walker.left.counter ++ flag s.walker.right.ready ++
    be 2 s.walker.right.counter ++ be 2 (freeRecords s.custody.leaves) ++
    be 2 (((longestRun s.custody.leaves).map (·.2)).getD 0) ++ opt2 ((longestRun s.custody.leaves).map (·.1))

end Sys2Proof.Machine
end

