-- ==== Sys2Proof/Machine/Ops.lean ====
section
/-! DEFINITION. Ops: the elementary operations the meanings share: notices and their delivery, requests and
replies at a link port, custody entries and leaf records, and the bookings of the Custody Unit. -/

namespace Sys2Proof.Machine

/-! ### Notices (R190) -/

/-- A block posts a notice within its event (R190); it joins the queues at the end of the event (`flush`). -/
def State.post (n : Notice) (s : State) : State := s.onOutbox fun out => out ++ [n]

/-- A notice joins a queue, or is discarded with the notices-lost flag set when the queue holds 32 (R190). -/
def Port.push (n : Notice) (p : Port) : Port :=
  if p.notices.length < Config.noticeDepth then { p with notices := p.notices ++ [n] } else { p with lost := true }

/-- The notices of one event routed to a link join its queue in the order of their kinds (R190, R191). -/
def Port.receive (out : List Notice) (link : Link) (p : Port) : Port :=
  ((inOrderOfKind out).filter fun n => n.routed link).foldl (fun q n => q.push n) p

/-- The posted notices are placed on the queues of the links that receive their kinds (R190). -/
def State.flush (s : State) : State :=
  (s.onLinks fun l =>
    { conservation := l.conservation.receive s.outbox .conservation
      capture := l.capture.receive s.outbox .capture
      accounting := l.accounting.receive s.outbox .accounting }).onOutbox fun _ => []

/-- The end of an event that began in `before`: FRAMES WAITING when COMPLETED went from empty to not empty (R134),
then the delivery of every notice posted. -/
def State.finish (before after : State) : State :=
  (if before.frames.completed = [] ∧ after.frames.completed ≠ [] then
    after.post (.framesWaiting after.frames.completed.length)
  else after).flush

/-- One event, taken whole. -/
def event (f : State → State) (s : State) : Host.Outcome State Fault Refusal := .next (s.finish (f s))

/-! ### Link ports (R185, R186, R187) -/

/-- Rewrite the port of one link. -/
def State.onPort (link : Link) (f : Port → Port) (s : State) : State :=
  s.onLinks fun l =>
    match link with
    | .conservation => { l with conservation := f l.conservation }
    | .capture => { l with capture := f l.capture }
    | .accounting => { l with accounting := f l.accounting }

/-- The answer of a request: its result and reply body, and the state it leaves. -/
structure Served where
  state  : State
  result : Result
  body   : List Byte

/-- Answer without changing anything in the owning block. -/
def refuse (result : Result) (body : List Byte) (s : State) : Served := ⟨s, result, body⟩

/-- Answer OK. -/
def okay (body : List Byte) (s : State) : Served := ⟨s, .ok, body⟩

/-- Answer ACCEPTED, for an operation that takes time (R186). -/
def accepted (body : List Byte) (s : State) : Served := ⟨s, .accepted, body⟩

/-- The pending request of a link is answered: its reply echoes the tag and the request code (R188) and is being
sent until REPLY SENT. -/
def State.reply (link : Link) (tag code : Byte) (result : Result) (body : List Byte) (s : State) : State :=
  s.onPort link fun p =>
    { p with request := some (.answered { tag := tag, code := code, result := result, body := body }) }

/-- A frame completes while a request is pending on its link: LINK_BUSY, echoing tag and code, waits behind the
pending request's reply; when a LINK_BUSY already waits or is being sent the frame is discarded (R186). -/
def State.busyFrame (link : Link) (tag code : Byte) (s : State) : State :=
  s.onPort link fun p =>
    match p.busy with
    | none => { p with busy := some { tag := tag, code := code, sending := false } }
    | some _ => p

/-- A frame has completed on a link: LINK_BUSY while a request is pending; discarded without a reply while a
LINK_BUSY is being sent (R186, log 15); else it is checked (R187). -/
def State.arrive (link : Link) (tag code : Byte) (check : State → State) (s : State) : State :=
  if (s.port link).request.isSome then s.busyFrame link tag code
  else if (s.port link).busy.isSome then s
  else check s

/-- The code byte of a request command. -/
def codeByte (c : Instr) : Byte := BitVec.ofNat 8 ((requestCode c).getD 0)

/-- The owning block takes a request and answers it within that taking (R186). -/
def State.answer (c : Instr) (o : Origin) (take : State → Served) (s : State) : State :=
  let served := take s
  served.state.reply o.link o.tag (codeByte c) served.result served.body

/-- The request a link port holds and has not yet handed on is this one. -/
def State.holdsRequest (c : Instr) (o : Origin) (s : State) : Bool :=
  (s.port o.link).request == some (.untaken c)

/-- Reception at a link port becomes what it is given (R185). -/
def State.receiving (link : Link) (reception : Reception) (s : State) : State :=
  s.onPort link fun p => { p with reception := reception }

/-- The link-level checks 3 and 4 of R187 on a request whose frame is right, and its taking (R186). -/
def State.vet (c : Instr) (o : Origin) (take : State → Served) (s : State) : State :=
  if codePermitted ((requestCode c).getD 0) o.link = false then
    s.reply o.link o.tag (codeByte c) .notPermitted []
  else if linkRangeOk c = false then s.reply o.link o.tag (codeByte c) .badArgument []
  else s.answer c o take

/-- A request command (log 1). When its link port holds this request untaken, the owning block takes it. Otherwise
the command is the completion of a right frame that carries the request: discarded while the port discards bytes
(R185), met as any frame is while a request is pending or a LINK_BUSY is sent (R186), and else checked and taken
at once. -/
def State.serve (c : Instr) (o : Origin) (take : State → Served) (s : State) : State :=
  if s.holdsRequest c o then s.answer c o take
  else if (s.port o.link).reception = .discarding then s
  else (s.receiving o.link .outside).arrive o.link o.tag (codeByte c) fun s => s.vet c o take

/-- A request command, as one event. -/
def request (c : Instr) (o : Origin) (take : State → Served) (s : State) :
    Host.Outcome State Fault Refusal :=
  event (fun s => s.serve c o take) s

/-! ### Custody entries and leaf records -/

/-- Rewrite the custody entry of a slot. -/
def State.onEntry (slot : Nat) (f : CustodyEntry → CustodyEntry) (s : State) : State :=
  s.onCustody fun c => { c with entries := Vec.edit c.entries slot f }

/-- Rewrite the record at an index of the store; a free record stays free (R28). -/
def LeafStore.edit (i : Nat) (f : LeafRecord → LeafRecord) (st : LeafStore) : LeafStore :=
  st.map fun p => if p.1 = i then (p.1, f p.2) else p

/-- Records b..b+l−1 are put in use with their set-up values (R28, R30). -/
def LeafStore.allocate (b l : Nat) (st : LeafStore) : LeafStore :=
  st.filter (fun p => decide (p.1 < b)) ++ (List.range l).map (fun i => (b + i, LeafRecord.fresh)) ++
    st.filter (fun p => decide (b + l ≤ p.1))

/-- Records b..b+l−1 return to the free store and give up all they held (R28, R30). -/
def LeafStore.release (b l : Nat) (st : LeafStore) : LeafStore :=
  st.filter fun p => decide (p.1 < b) || decide (b + l ≤ p.1)

/-- Rewrite the leaf records of the store. -/
def State.onLeaves (f : LeafStore → LeafStore) (s : State) : State :=
  s.onCustody fun c => { c with leaves := f c.leaves }

/-- Rewrite one leaf record of the volume in a slot. -/
def State.onLeaf (slot leaf : Nat) (f : LeafRecord → LeafRecord) (s : State) : State :=
  s.onLeaves (LeafStore.edit ((s.entry slot).extentBase + leaf) f)

/-- Rewrite one face record of a leaf record. -/
def LeafRecord.onSide (side : Side) (f : FaceRecord → FaceRecord) (r : LeafRecord) : LeafRecord :=
  match side with
  | .left => { r with verso := f r.verso }
  | .right => { r with recto := f r.recto }

/-- Rewrite the record of a face of the volume in a slot; a BOARD has none (R35). -/
def State.onFace (slot : Nat) (face : Face) (f : FaceRecord → FaceRecord) (s : State) : State :=
  match face with
  | .verso leaf => s.onLeaf slot leaf (LeafRecord.onSide .left f)
  | .recto leaf => s.onLeaf slot leaf (LeafRecord.onSide .right f)
  | .board => s

/-- The record of a face of the volume in a slot, none for a BOARD. -/
def State.faceRecord (s : State) (slot : Nat) (face : Face) : Option FaceRecord :=
  match face with
  | .verso leaf => some (s.leaf slot leaf).verso
  | .recto leaf => some (s.leaf slot leaf).recto
  | .board => none

/-! ### Bookings of the Custody Unit -/

/-- A hold claim on the MOUNTED entry (R12); it replaces any earlier cause. -/
def State.claimHold (cause : HoldCause) (s : State) : State :=
  match s.mountedSlot with
  | none => s
  | some slot => s.onEntry slot fun e => { e with hold := some cause }

/-- The Cradle Unit books a turned leaf of the MOUNTED entry (R18, R34). -/
def State.bookTurn (leaf : Nat) (s : State) : State :=
  match s.mountedSlot with
  | none => s
  | some slot =>
    (s.onEntry slot fun e => { e with turns := wrapSucc 4294967296 e.turns }).onLeaf slot leaf fun r =>
      { r with turnCount := satAdd 65535 r.turnCount 1 }

/-- A take from FREE books frames open on the entry and on the face, unless it is BOARD (R19, R33). -/
def State.bookFrame (slot : Nat) (face : Face) (s : State) : State :=
  (s.onEntry slot fun e => { e with framesOpen := e.framesOpen + 1 }).onFace slot face fun r =>
    { r with framesOpen := r.framesOpen + 1 }

/-- A return to FREE releases the booking (R19, R33). -/
def State.releaseFrame (slot : Nat) (face : Face) (s : State) : State :=
  (s.onEntry slot fun e => { e with framesOpen := e.framesOpen - 1 }).onFace slot face fun r =>
    { r with framesOpen := r.framesOpen - 1 }

/-- A charge claim (R21, R111): `charge` du to each visible leaf face, and their sum to the dose total. -/
def State.chargeFaces (charge : Nat) (s : State) : State :=
  match s.mountedSlot with
  | none => s
  | some slot =>
    let faces := s.visible
    let s := faces.foldl
      (fun s v => s.onLeaf slot v.leaf (LeafRecord.onSide v.side fun r => { r with dose := r.dose + charge })) s
    s.onEntry slot fun e => { e with doseTotal := e.doseTotal + charge * faces.length }

/-- Replace a leaf's mark and adjust damage marks and leaves complete (R40). -/
def State.setMark (slot leaf : Nat) (mark : LeafMark) (s : State) : State :=
  let e := s.entry slot
  let old := s.leaf slot leaf
  let new := { old with mark := mark }
  let was := leafComplete e.required old
  let now := leafComplete e.required new
  (s.onLeaf slot leaf fun r => { r with mark := mark }).onEntry slot fun e =>
    { e with
      damageMarks :=
        if mark = .damaged ∧ old.mark ≠ .damaged then e.damageMarks + 1
        else if old.mark = .damaged ∧ mark ≠ .damaged then e.damageMarks - 1
        else e.damageMarks
      leavesComplete :=
        if now && !was then e.leavesComplete + 1
        else if was && !now then e.leavesComplete - 1
        else e.leavesComplete }

/-- A coverage booking (R42): the band joins the face's set; on NEW frames accepted rises by one and completeness
is adjusted (R44). -/
def State.bookCoverage (slot : Nat) (face : Face) (band : Nat) (s : State) : CoverageAnswer × State :=
  match face.leaf?, s.faceRecord slot face with
  | some leaf, some record =>
    if record.coverage.getLsbD band then (.already, s)
    else
      let required := (s.entry slot).required
      let was := leafComplete required (s.leaf slot leaf)
      let t := s.onFace slot face fun r => { r with coverage := r.coverage ||| BitVec.ofNat 8 (2 ^ band) }
      let now := leafComplete required (t.leaf slot leaf)
      (.new, t.onEntry slot fun e =>
        { e with
          framesAccepted := e.framesAccepted + 1
          leavesComplete := if now && !was then e.leavesComplete + 1 else e.leavesComplete })
  | _, _ => (.board, s)

end Sys2Proof.Machine
end

