-- ==== Sys2Proof/Machine/Motion.lean ====
section
/-! DEFINITION. Motion: the Cradle Unit and the Leaf Gauge at work: angle moves, the phases of one leaf, turn
faults, trips, recovery, the gauge gate and the classification of a pick (chapters 3 and 4). -/

namespace Sys2Proof.Machine

/-! ### Updates of parts of the cradle record -/

def State.onTurn (f : TurnRecord → TurnRecord) (s : State) : State :=
  s.onCradle fun c => { c with turn := c.turn.map f }
def State.onTimers (f : CradleTimers → CradleTimers) (s : State) : State :=
  s.onCradle fun c => { c with timers := f c.timers }
def State.onOutputs (f : Outputs → Outputs) (s : State) : State :=
  s.onCradle fun c => { c with outputs := f c.outputs }
def State.onSensors (f : Sensors → Sensors) (s : State) : State :=
  s.onCradle fun c => { c with sensors := f c.sensors }
def State.toCradle (state : CradleState) (s : State) : State := s.onCradle fun c => { c with state := state }

/-- The effective class of the turn in progress (R55). -/
def State.effectiveClass (s : State) : Nat := (s.cradle.turn.map (·.effectiveClass)).getD 1

/-- The leaves of the turn in progress booked so far; 0 for an angle move. -/
def State.doneCount (s : State) : Nat := (s.cradle.turn.map (·.done)).getD 0

/-- ARM REST is true and WAND DOWN is false: the mechanism is at rest (R60, R65, R72). -/
def Sensors.atRest (m : Sensors) : Bool := m.armRest && !m.wandDown

/-- All drives stop where they stand. -/
def Outputs.stopped (o : Outputs) : Outputs :=
  { o with angleDrive := .stopped, armDrive := .stopped, wandDrive := .stopped }

/-! ### The gauge gate (R77) -/

/-- A gate starts: COUNTING with its purpose, count 0, timer in full with the gauge gate word (R77). -/
def State.startGate (purpose : GatePurpose) (s : State) : State :=
  s.onGauge fun g =>
    { g with gate := some purpose, count := 0, countSaturated := false, timer := some s.gateTime }

/-- The gate becomes IDLE and its count is discarded; the record keeps its values (R77). -/
def Gauge.idle (g : Gauge) : Gauge := { g with gate := none, count := 0, countSaturated := false, timer := none }

/-- A gate in progress is abandoned (R77). -/
def State.abandonGate (s : State) : State := s.onGauge Gauge.idle

/-- One cycle of the oscillator (R77). DEDUCED: a gate is marked saturated when its count has reached 65535 (log 12). -/
def Gauge.cycle (g : Gauge) : Gauge :=
  if g.gate = none then g
  else
    { g with count := satAdd 65535 g.count 1, countSaturated := g.countSaturated || decide (65535 ≤ g.count + 1) }

/-- The class of a pick from the reading, the delta and the leaf reference (R79). -/
def classify (saturated : Bool) (reference delta : Nat) : PickClass :=
  if saturated then .saturated
  else if reference = 0 then .unknown
  else if delta < reference / 2 then .nothing
  else if delta < 3 * reference / 2 then .single
  else .double

/-- The reference after a SINGLE (R80). -/
def adaptReference (reference delta : Nat) : Nat :=
  if (7 * reference + delta) / 8 = 0 then 1 else (7 * reference + delta) / 8

/-! ### Turn faults (R66) -/

/-- A turn fault (R66), in a phase. After VACUUM_LOST the leaf is no longer on the wand. -/
def State.turnFault (cause : FaultCause) (phase : Phase) (s : State) : State :=
  let s := if cause = .vacuumLost then s.onTurn fun t => { t with leafOnWand := false } else s
  let s := s.onOutputs fun o =>
    { o with armDrive := .stopped, wandDrive := .stopped, airKnife := none,
             vacuumOpen := s.cradle.leafOnWand }
  let s := s.onTimers fun t => { CradleTimers.stopped with angle := t.angle }
  let s := s.abandonGate.onCradle fun c =>
    { c with state := .fault, hold := none, fault := some { cause := cause, phase := some phase } }
  (s.claimHold .turnFault).post
    (.turnFault cause (.phase phase) s.doneCount s.cradle.currentLeaf s.gauge.values)

/-- A fall of VACUUM HELD in FAULT with the leaf on the wand (R67). -/
def State.vacuumLostInFault (s : State) : State :=
  let phase := s.cradle.fault.bind (·.phase)
  let s := s.onTurn fun t => { t with leafOnWand := false }
  let s := (s.onOutputs fun o => { o with vacuumOpen := false }).onCradle fun c =>
    { c with fault := some { cause := .vacuumLost, phase := phase } }
  (s.claimHold .turnFault).post
    (.turnFault .vacuumLost (.phase (phase.getD .carry)) s.doneCount s.cradle.currentLeaf s.gauge.values)

/-! ### The end of a turn -/

/-- The turn ends: its record is discarded, the cradle is OPEN_READY and TURN ENDED is posted (R56, R65, R72). -/
def State.endTurn (result : TurnResult) (leaf : Option Nat) (s : State) : State :=
  (s.onCradle fun c => { c with turn := none, state := .openReady }).post
    (.turnEnded result s.doneCount s.cradle.opening leaf s.gauge.values)

/-! ### The phases of one leaf (R60 to R65) -/

/-- The phase and step of the current leaf. -/
def State.toPhase (phase : Phase) (step : Nat) (s : State) : State :=
  s.onTurn fun t => { t with phase := phase, step := step }

/-- Outputs of BASELINE: wand up, arm at rest, vacuum closed, air knife off (section 3.5). -/
def Outputs.baseline (o : Outputs) : Outputs :=
  { o with wandDrive := .up, armDrive := .toRest none, vacuumOpen := false, airKnife := none }

/-- BASELINE step 2: the gauge runs one gate with the empty wand (R60). -/
def State.baselineGate (s : State) : State :=
  ((s.onTimers fun t => { t with lift := none }).toPhase .baseline 2).startGate .baseline

/-- BASELINE step 1 tests its condition (R60). -/
def State.baselineTest (s : State) : State :=
  if s.cradle.sensors.atRest then s.baselineGate else s

/-- BASELINE begins (R60). -/
def State.enterBaseline (s : State) : State :=
  let s := (s.onOutputs Outputs.baseline).toPhase .baseline 1
  (s.onTimers fun t => { t with lift := some (s.liftTime s.effectiveClass) }).baselineTest

/-- A leaf starts at the current opening, by the mark it bears now (R56). -/
def State.startLeaf (s : State) : State :=
  match s.mountedSlot, s.cradle.currentLeaf with
  | some slot, some leaf =>
    let begun := fun (s : State) => (s.onTurn fun t => { t with retriesUsed := 0, lastClass := none }).enterBaseline
    match (s.leaf slot leaf).mark with
    | .normal => begun s
    | .withheld => begun s
    | .foldout | .damaged =>
      if s.cradle.approval = some { slot := slot, generation := (s.entry slot).generation, leaf := leaf } then
        begun (s.onCradle fun c => { c with approval := none })
      else s.endTurn .approvalRequired (some leaf)
  | _, _ => s

/-- LIFT begins: air knife on, wand down, lift timer (R61, step 1). DEDUCED: a WAND DOWN that stands is not taken (log 9). -/
def State.enterLift (s : State) : State :=
  let c := s.effectiveClass
  ((s.onOutputs fun o => { o with airKnife := some (s.airLevel c), wandDrive := .down }).onTimers fun t =>
    { t with lift := some (s.liftTime c) }).toPhase .lift 1

/-- LIFT step 2: the vacuum valve is opened (R61). -/
def State.liftOpen (s : State) : State :=
  (s.onOutputs fun o => { o with vacuumOpen := true }).toPhase .lift 2

/-- LIFT step 3: the leaf is on the wand and the wand is driven up (R49, R61). -/
def State.liftRaise (s : State) : State :=
  ((s.onOutputs fun o => { o with wandDrive := .up }).onTurn fun t => { t with leafOnWand := true }).toPhase
    .lift 3

/-- LIFT step 4: the lift timer stops and the gauge runs one gate (R61). -/
def State.liftGate (s : State) : State :=
  ((s.onTimers fun t => { t with lift := none }).toPhase .lift 4).startGate .lift

/-- PICK_CONFIRM: the leaf hangs on the raised wand and the pick confirm timer runs (R62). -/
def State.enterPickConfirm (s : State) : State :=
  ((s.onOutputs fun o => { o with wandDrive := .up, vacuumOpen := true }).onTimers fun t =>
    { t with pickConfirm := some s.pickConfirmTime }).toPhase .pickConfirm 1

/-- The end of a DROP (R63). -/
def State.resolveDrop (s : State) : State :=
  match s.cradle.turn with
  | none => s
  | some t =>
    match t.drop with
    | .rejected => s.enterBaseline
    | .unconfirmed => s.turnFault .noConfirm .drop
    | .counted =>
      let s := s.onTurn fun t => { t with retriesUsed := t.retriesUsed + 1 }
      if t.retriesUsed + 1 ≤ s.retries t.effectiveClass then s.enterBaseline
      else if t.lastClass = some .nothing then s.turnFault .pickNone .drop
      else s.turnFault .pickDouble .drop

/-- DROP tests its condition: VACUUM HELD false and WAND DOWN false (R63). -/
def State.dropTest (s : State) : State :=
  if s.cradle.sensors.vacuumHeld = false ∧ s.cradle.sensors.wandDown = false then
    (s.onTimers fun t => { t with lift := none }).resolveDrop
  else s

/-- DROP begins: vacuum closed, air knife off, wand up; the leaf is no longer on the wand (R63). -/
def State.enterDrop (kind : DropKind) (s : State) : State :=
  let s := (s.onOutputs fun o => { o with vacuumOpen := false, airKnife := none, wandDrive := .up }).onTurn
    fun t => { t with leafOnWand := false, drop := kind }
  ((s.toPhase .drop 1).onTimers fun t => { t with pickConfirm := none, lift := some (s.liftTime s.effectiveClass) }).dropTest

/-- The settle time expires (R65): the opening moves, the leaf is booked, and the turn ends or the next leaf starts. -/
def State.settleEnd (s : State) : State :=
  match s.cradle.turn, s.cradle.currentLeaf with
  | some t, some leaf =>
    let s := (s.onTimers fun t => { t with settle := none }).bookTurn leaf
    let s := s.onCradle fun c =>
      { c with
        opening := match t.direction with
          | .forward => c.opening + 1
          | .back => c.opening - 1
        turn := some { t with done := t.done + 1, retriesUsed := 0 } }
    if t.done + 1 = t.count then s.endTurn .complete none else s.startLeaf
  | _, _ => s

/-- SETTLE begins; a settle time of 0 expires in the event that enters it (R65). -/
def State.enterSettle (s : State) : State :=
  let time := s.settleTime s.effectiveClass
  let s := ((s.onOutputs fun o => { o with armDrive := .stopped, wandDrive := .stopped }).toPhase .settle 1).onTimers
    fun t => { t with carry := none, settle := some time }
  if time = 0 then s.settleEnd else s

/-- RETURN tests its condition (R65). -/
def State.returnTest (s : State) : State := if s.cradle.sensors.atRest then s.enterSettle else s

/-- RETURN begins: wand up, arm toward rest at the carry speed, carry timer (R65). DEDUCED: its condition is tested at a
change, not here (log 9). -/
def State.enterReturn (s : State) : State :=
  let c := s.effectiveClass
  ((s.onOutputs fun o => { o with wandDrive := .up, armDrive := .toRest (some (s.carrySpeed c)) }).onTimers
    fun t => { t with lay := none, carry := some (s.carryTime c) }).toPhase .returning 1

/-- LAY step 2: the vacuum valve is closed and the leaf is no longer on the wand (R49, R64). -/
def State.layRelease (s : State) : State :=
  ((s.onOutputs fun o => { o with vacuumOpen := false }).onTurn fun t => { t with leafOnWand := false }).toPhase
    .lay 2

/-- LAY begins, the arm drive stopped: wand down, lay timer (R64, step 1). DEDUCED: a WAND DOWN that stands is not taken
(log 9). -/
def State.enterLay (s : State) : State :=
  ((s.onOutputs fun o => { o with armDrive := .stopped, wandDrive := .down }).onTimers fun t =>
    { t with carry := none, lay := some (s.layTime s.effectiveClass) }).toPhase .lay 1

/-- CARRY begins: arm toward the far side at the carry speed, wand up, vacuum open, carry timer (R64). DEDUCED: an ARM FAR
that stands is not taken (log 9). -/
def State.enterCarry (s : State) : State :=
  let c := s.effectiveClass
  ((s.onOutputs fun o =>
    { o with armDrive := .toFar (s.carrySpeed c), wandDrive := .up, vacuumOpen := true }).onTimers fun t =>
    { t with pickConfirm := none, carry := some (s.carryTime c) }).toPhase .carry 1

/-! ### The expiry of a gate (R61, R78, R79, R80) -/

/-- The record after a BASELINE gate (R78). -/
def Gauge.takeBaseline (g : Gauge) : Gauge :=
  { g.idle with
    baseline := g.count, baselineSaturated := g.countSaturated, reading := 0, readingSaturated := false, delta := 0,
    pick := none }

/-- The delta of a reading (R79). -/
def gaugeDelta (baseline reading : Nat) : Nat := if reading < baseline then baseline - reading else 0

/-- The record after a LIFT gate against a leaf reference (R79). -/
def Gauge.takeReading (reference : Nat) (g : Gauge) : Gauge :=
  let delta := gaugeDelta g.baseline g.count
  { g.idle with
    reading := g.count, readingSaturated := g.countSaturated, delta := delta,
    pick := some (classify g.countSaturated reference delta) }

/-- After a LIFT gate the leaf goes on by its class (R61). -/
def State.afterLift (slot : Nat) (pick : PickClass) (s : State) : State :=
  let s := (s.onOutputs fun o => { o with airKnife := none }).onTurn fun t => { t with lastClass := some pick }
  match pick with
  | .single => s.enterCarry
  | .nothing => s.enterDrop .counted
  | .double => s.enterDrop .counted
  | .saturated => s.enterDrop .counted
  | .unknown =>
    s.enterPickConfirm.post
      (.pickConfirmNeeded slot (s.cradle.currentLeaf.getD 0) s.gauge.baseline s.gauge.reading s.gauge.delta)

/-- A LIFT gate expires (R79): the reading is classified against the reference of the MOUNTED entry, a SINGLE adapts
it (R80), and the leaf goes on by its class (R61). -/
def State.liftGateEnd (slot : Nat) (s : State) : State :=
  let reference := (s.entry slot).reference
  let s := s.onGauge (Gauge.takeReading reference)
  let pick := s.gauge.pick.getD .unknown
  let s :=
    if pick = .single then
      s.onEntry slot fun e => { e with reference := adaptReference reference s.gauge.delta }
    else s
  s.afterLift slot pick

/-- A gauge gate expires; a gate counts in TURNING alone, and with no gate counting nothing happens (log 3). -/
def State.gateEnd (s : State) : State :=
  if s.cradle.state ≠ .turning then s
  else
    match s.gauge.gate, s.mountedSlot with
    | some .baseline, _ => (s.onGauge Gauge.takeBaseline).enterLift
    | some .lift, some slot => s.liftGateEnd slot
    | _, _ => s

/-! ### Angle moves (R50 to R53) -/

/-- The angle limit of the MOUNTED entry. -/
def State.angleLimit (s : State) : Nat := ((s.mountedSlot.map fun i => (s.entry i).angleLimit)).getD Config.flatAngle

/-- SETTLING tests arrival: the angle sensor reads within 2 degrees of the limit (R50). -/
def State.settlingTest (s : State) : State :=
  match s.mountedSlot with
  | none => s
  | some slot =>
    let limit := (s.entry slot).angleLimit
    if s.cradle.sensors.angle ≤ limit + Config.angleTolerance ∧
        limit ≤ s.cradle.sensors.angle + Config.angleTolerance then
      (((s.onOutputs fun o => { o with angleDrive := .holding limit }).onTimers fun t =>
        { t with angle := none }).toCradle .openReady).post
        (.volumeMounted slot (s.entry slot).generation s.cradle.opening limit)
    else s

/-- SETTLING drives the plates toward the limit under the angle timer, and tests arrival (R50, R52). -/
def State.driveSettling (s : State) : State :=
  (((s.onOutputs fun o => { o with angleDrive := .toward s.angleLimit }).onTimers fun t =>
    { t with angle := some (s.angleTime s.cradle.moveClass) }).toCradle .settling).settlingTest

/-- SETTLING begins under the mounted entry's class (R50); it is stopped at its start by a broken or latched
curtain (R53). -/
def State.beginSettling (s : State) : State :=
  let c := ((s.mountedSlot.map fun i => (s.entry i).handlingClass)).getD 1
  let s := s.onCradle fun k => { k with moveClass := c }
  if s.guards.clear then s.driveSettling
  else
    (s.onCradle fun k => { k with state := .holding, hold := some { cause := .guard, work := .settling } }).post
      (.turnHeld .guard .settling 0 s.gauge.values)

/-- PARKING posts a notice, unless it began at a device reset, which its parked volume none tells (R51, R53). DEDUCED:
this holds of the notices that R52 and R68 name without that exception too (log 29). -/
def State.postParking (n : Notice) (s : State) : State := if s.cradle.parked = none then s else s.post n

/-- PARKING tests arrival: 178 degrees or more, ARM REST true, WAND DOWN false (R51). DEDUCED: a PARKING whose drive is
STOPPED is not tested; it arrives at the RESUME that drives it again, at the earliest (R70, log 31). -/
def State.parkingTest (s : State) : State :=
  if s.cradle.drive = .moving ∧ Config.flatAngle ≤ s.cradle.sensors.angle + Config.angleTolerance ∧
      s.cradle.sensors.atRest then
    let t := ((s.onOutputs Outputs.stopped).onTimers fun t => { t with angle := none }).onCradle fun c =>
      { c with state := .parked, parked := none }
    match s.cradle.parked with
    | none => t
    | some v => t.post (.volumeDismounted v.slot v.generation)
  else s

/-- PARKING drives the plates toward 180 degrees, the wand up and the arm to rest, and tests arrival (R51, R52). -/
def State.driveParking (s : State) : State :=
  ((s.onOutputs fun _ =>
    { angleDrive := .toward Config.flatAngle, armDrive := .toRest none, wandDrive := .up, vacuumOpen := false,
      airKnife := none }).onCradle fun c =>
    { c with state := .parking, drive := .moving,
             timers := { c.timers with angle := some (s.angleTime c.moveClass) } }).parkingTest

/-- PARKING begins under a class with its parked volume, none at a device reset (R51); it is stopped at its start by a
broken or latched curtain, with TURN HELD (R53). -/
def State.beginParking (handlingClass : Nat) (parked : Option VolumeName) (s : State) : State :=
  let s := s.onCradle fun c => { c with moveClass := handlingClass, parked := parked, state := .parking }
  if s.guards.clear then s.driveParking
  else
    ((s.onOutputs fun o => { o.stopped with vacuumOpen := false, airKnife := none }).onCradle fun c =>
      { c with drive := .stopped .guard, timers := .stopped }).postParking
      (.turnHeld .guard .parking 0 s.gauge.values)

/-- The angle timer expires (R52); with no angle timer running nothing happens (log 3). -/
def State.angleTimeout (s : State) : State :=
  if s.cradle.timers.angle = none then s
  else
    match s.cradle.state with
    | .settling =>
      let s := ((s.onOutputs fun o => { o with angleDrive := .stopped }).onTimers fun t =>
        { t with angle := none }).onCradle fun c =>
        { c with state := .fault, fault := some { cause := .angleTimeout, phase := none } }
      (s.claimHold .turnFault).post (.turnFault .angleTimeout .settling 0 none s.gauge.values)
    | .parking =>
      ((s.onOutputs Outputs.stopped).onCradle fun c =>
        { c with drive := .stopped .angleTimeout, timers := { c.timers with angle := none } }).postParking
        (.turnFault .angleTimeout .parking 0 none s.gauge.values)
    | _ => s

/-! ### Trips (R68, R69) -/

/-- A trip event at the Cradle Unit: a guard trip, the entry to HALTED or a settings fault (R68, R69). -/
def State.cradleTrip (cause : StopCause) (s : State) : State :=
  match s.cradle.state with
  | .turning =>
    let phase := (s.cradle.turn.map (·.phase)).getD .baseline
    let s := (s.onOutputs fun o =>
      { o with armDrive := .stopped, wandDrive := .stopped, airKnife := none,
               vacuumOpen := s.cradle.leafOnWand }).abandonGate
    (s.onCradle fun c =>
      { c with state := .holding, hold := some { cause := cause, work := .turn },
               timers := { CradleTimers.stopped with angle := c.timers.angle } }).post
      (.turnHeld cause (.phase phase) s.doneCount s.gauge.values)
  | .settling =>
    ((s.onOutputs fun o => { o with angleDrive := .stopped }).onCradle fun c =>
      { c with state := .holding, hold := some { cause := cause, work := .settling },
               timers := { c.timers with angle := none } }).post
      (.turnHeld cause .settling 0 s.gauge.values)
  | .parking =>
    if s.cradle.drive = .moving then
      ((s.onOutputs Outputs.stopped).onCradle fun c =>
        { c with drive := .stopped cause, timers := { c.timers with angle := none } }).postParking
        (.turnHeld cause .parking 0 s.gauge.values)
    else s
  | _ => s

/-! ### RESUME (R70) -/

/-- Outputs of LIFT after its step 2: air knife on, vacuum open, the wand as given. -/
def State.liftOutputs (wand : WandDrive) (s : State) : State :=
  s.onOutputs fun o =>
    { o with airKnife := some (s.airLevel s.effectiveClass), wandDrive := wand, vacuumOpen := true }

/-- The lift timer starts in full. -/
def State.startLiftTimer (s : State) : State :=
  s.onTimers fun t => { t with lift := some (s.liftTime s.effectiveClass) }

/-- The held step of a turn is begun again: outputs driven, the awaited condition tested at once, the timer in
full, a new gate where it waits for one (R70). -/
def State.resumeStep (t : TurnRecord) (s : State) : State :=
  let m := s.cradle.sensors
  match t.phase, t.step with
  | .baseline, 2 => (s.onOutputs Outputs.baseline).startGate .baseline
  | .baseline, _ => s.enterBaseline
  | .lift, 1 => let s := s.enterLift; if m.wandDown then s.liftOpen else s
  | .lift, 2 => let s := (s.liftOutputs .down).startLiftTimer; if m.vacuumHeld then s.liftRaise else s
  | .lift, 3 => let s := (s.liftOutputs .up).startLiftTimer; if m.wandDown then s else s.liftGate
  | .lift, _ => (s.liftOutputs .up).startGate .lift
  | .pickConfirm, _ => s.enterPickConfirm
  | .drop, _ => s.enterDrop t.drop
  | .carry, _ => let s := s.enterCarry; if m.armFar then s.enterLay else s
  | .lay, 1 => let s := s.enterLay; if m.wandDown then s.layRelease else s
  | .lay, _ =>
    let s := (s.onOutputs fun o => { o with wandDrive := .down, vacuumOpen := false }).onTimers fun t =>
      { t with lay := some (s.layTime s.effectiveClass) }
    if m.vacuumHeld then s else s.enterReturn
  | .returning, _ => s.enterReturn.returnTest
  | .settle, _ => s.enterSettle

/-- Held work is entered again (R70); the answer is the operation resumed. -/
def State.resumeWork (s : State) : Operation × State :=
  match s.cradle.state, (s.cradle.hold.map HoldRecord.work), s.cradle.turn with
  | .holding, some .turn, some t =>
    (.phase t.phase, (s.onCradle fun c => { c with hold := none, state := .turning }).resumeStep t)
  | .holding, _, _ => (.settling, (s.onCradle fun c => { c with hold := none }).driveSettling)
  | _, _, _ => (.parking, s.driveParking)

/-! ### Recovery (R72) -/

/-- A recovery ends when ARM REST is true and WAND DOWN is false (R72). -/
def State.recoveryTest (s : State) : State :=
  match s.cradle.state, s.cradle.target with
  | .recovering, some target =>
    if s.cradle.sensors.atRest then
      let leaf := s.cradle.currentLeaf.getD 0
      let t :=
        if target = s.cradle.opening then s
        else (s.bookTurn leaf).onTurn fun t => { t with done := t.done + 1 }
      let t := (t.onOutputs fun o => { o with armDrive := .stopped, wandDrive := .stopped }).onCradle fun c =>
        { c with opening := target, target := none, timers := { c.timers with recovery := none } }
      t.endTurn .recovered none
    else s
  | _, _ => s

/-- An accepted RECOVER TURN on a turn (R72): the mechanism goes to rest toward the opening named. -/
def State.beginRecovery (target : Nat) (s : State) : State :=
  ((s.onTurn fun t => { t with leafOnWand := false }).onCradle fun c =>
    { c with
      state := .recovering, hold := none, fault := none, target := some target,
      outputs :=
        { c.outputs with vacuumOpen := false, airKnife := none, wandDrive := .up,
                         armDrive := .toRest (some (s.carrySpeed 1)) },
      timers := { c.timers with recovery := some (s.carryTime 1) } }).recoveryTest

/-- The recovery timer expires before rest is reached (R72); it runs in RECOVERING alone. -/
def State.recoveryTimeout (s : State) : State :=
  if s.cradle.state = .recovering ∧ s.cradle.timers.recovery ≠ none then
    (s.onCradle fun c => { c with target := none }).turnFault .timeout .returning
  else s

/-! ### A sensor changes (R49); a level that a phase, step or state does not await changes nothing -/

/-- The current phase and step of a turn in TURNING. -/
def Cradle.turningStep (c : Cradle) : Option (Phase × Nat) :=
  if c.state = .turning then c.turn.map fun t => (t.phase, t.step) else none

/-- WAND DOWN has changed to a level. -/
def State.wandDownTaken (level : Bool) (s : State) : State :=
  match s.cradle.state, s.cradle.turningStep with
  | .parking, _ => s.parkingTest
  | .recovering, _ => s.recoveryTest
  | _, some (.baseline, 1) => s.baselineTest
  | _, some (.lift, 1) => if level then s.liftOpen else s
  | _, some (.lift, 3) => if level then s else s.liftGate
  | _, some (.drop, _) => s.dropTest
  | _, some (.lay, 1) => if level then s.layRelease else s
  | _, some (.returning, _) => s.returnTest
  | _, _ => s

/-- VACUUM HELD has changed to a level (R61, R63, R64, R66, R67, R69). -/
def State.vacuumHeldTaken (level : Bool) (s : State) : State :=
  if level = false ∧ s.cradle.leafOnWand ∧ (s.cradle.state = .turning ∨ s.cradle.state = .holding) then
    s.turnFault .vacuumLost ((s.cradle.turn.map (·.phase)).getD .carry)
  else if level = false ∧ s.cradle.leafOnWand ∧ s.cradle.state = .fault then s.vacuumLostInFault
  else
    match s.cradle.turningStep with
    | some (.lift, 2) => if level then s.liftRaise else s
    | some (.drop, _) => s.dropTest
    | some (.lay, 2) => if level then s else s.enterReturn
    | _ => s

/-- ARM FAR has changed to a level (R64). -/
def State.armFarTaken (level : Bool) (s : State) : State :=
  match s.cradle.turningStep with
  | some (.carry, _) => if level then s.enterLay else s
  | _ => s

/-- ARM REST has changed to a level. -/
def State.armRestTaken (s : State) : State :=
  match s.cradle.state, s.cradle.turningStep with
  | .parking, _ => s.parkingTest
  | .recovering, _ => s.recoveryTest
  | _, some (.baseline, 1) => s.baselineTest
  | _, some (.returning, _) => s.returnTest
  | _, _ => s

/-- The angle sensor has changed (R50, R51). -/
def State.angleTaken (s : State) : State :=
  match s.cradle.state with
  | .settling => s.settlingTest
  | .parking => s.parkingTest
  | _ => s

end Sys2Proof.Machine
end

