-- ==== Sys2Proof/Machine/Sweeping.lean ====
section
/-! DEFINITION. Sweeping: the Lighting Unit, the Dose Meter, the Frame Queue Manager and the Sweep Walker at work:
put-outs, projection and charge, moves between holders, the life of an exposure and the ends of a sweep
(chapters 5 to 8). -/

namespace Sys2Proof.Machine

/-! ### Light (R91, R95) -/

/-- A bank becomes LIT; the Dose Meter starts metering with that bank and owner (R91, R110). -/
def State.lightUp (bank level : Nat) (owner : LightOwner) (s : State) : State :=
  (s.onLights fun l => { l with banks := Vec.put l.banks bank (.lit level owner) }).onMeter fun m =>
    { m with running := some { bank := bank, owner := owner } }

/-- The lit bank goes OFF; metering becomes IDLE and the current irradiance 0 (R95, R110). A dark station is left
as it is. -/
def State.putOut (s : State) : State :=
  match litBank s.lights.banks with
  | none => s
  | some (bank, _, _) =>
    (s.onLights fun l => { l with banks := Vec.put l.banks bank .off }).onMeter fun m =>
      { m with running := none, irradiance := 0 }

/-- A lit preview ends with a cause (R95, R96). -/
def State.endPreview (cause : PreviewEnd) (s : State) : State :=
  if s.lights.preview = none then s
  else s.putOut.onLights fun l => { l with preview := none, lastEnd := some cause }

/-- The owner of the light, none while the station is dark. -/
def State.lightOwner (s : State) : Option LightOwner := (litBank s.lights.banks).map (·.2.2)

/-! ### Irradiance, charge and projection (R109, R111, R117, R118) -/

/-- The calibrated irradiance of a raw reading under a gain and an offset (R109). -/
def calibrated (raw : Nat) (gain offset : Int) : Nat :=
  (max 0 (min 65535 ((raw : Int) * (32768 + gain) / 32768 + offset))).toNat

/-- The charge of an interval (R111). -/
def chargeOf (irradiance weight : Nat) : Nat := irradiance * weight / 16

/-- The projected dose of an exposure (R117). -/
def projectedDose (nominal level duration weight : Nat) : Nat :=
  duration / 10 * chargeOf (nominal * level / 1023) weight

/-- What the Dose Meter hands the Sweep Walker after a projection (R118): PASS with the projected dose, or FAIL with
it, the first failing face, that face's recorded dose and the budget. -/
inductive Projection where
  | pass (projected : Nat)
  | fail (projected : Nat) (face : VisibleFace) (recorded budget : Nat)
deriving DecidableEq, Repr

/-- The answer is PASS. -/
def Projection.passes : Projection → Bool
  | .pass _ => true
  | .fail .. => false

/-- The projection of a bank, level and duration (R117, R118): PASS when every visible face stays at or below the
budget, else FAIL with the first that does not, LEFT before RIGHT. -/
def State.projection (bank level duration : Nat) (s : State) : Projection :=
  let p := projectedDose (s.calibration bank 0).toNat level duration (s.calibration bank 3).toNat
  match s.mountedSlot with
  | none => .pass p
  | some slot =>
    let e := s.entry slot
    match s.visible.find? fun v => decide (e.budget < s.custody.doseOf e v + p) with
    | none => .pass p
    | some v => .fail p v (s.custody.doseOf e v) e.budget

/-! ### Descriptors and queues (R128 to R133) -/

/-- Rewrite descriptor `index`. -/
def State.onFrame (index : Nat) (f : Descriptor → Descriptor) (s : State) : State :=
  s.onFrames fun q => { q with pool := Vec.edit q.pool index f }

/-- Rewrite the descriptors of a list. -/
def State.onEach (indices : List Nat) (f : Descriptor → Descriptor) (s : State) : State :=
  indices.foldl (fun s i => s.onFrame i f) s

def State.onSweep (f : Sweep → Sweep) (s : State) : State := s.onWalker fun w => { w with sweep := f w.sweep }
def State.onCounts (f : SweepCounts → SweepCounts) (s : State) : State :=
  s.onSweep fun w => { w with counts := f w.counts }
def State.onCamera (camera : Camera) (f : CameraPort → CameraPort) (s : State) : State :=
  s.onWalker fun w =>
    match camera with
    | .left => { w with left := f w.left }
    | .right => { w with right := f w.right }

/-- Rewrite both camera ports. -/
def State.onCameras (f : CameraPort → CameraPort) (s : State) : State :=
  s.onWalker fun w => { w with left := f w.left, right := f w.right }

/-- Rewrite the ports of the cameras of a list. -/
def State.onEachCamera (cameras : List Camera) (f : CameraPort → CameraPort) (s : State) : State :=
  cameras.foldl (fun s c => s.onCamera c f) s

/-- A sweep count is raised, saturating (R143). -/
def count32 (x k : Nat) : Nat := satAdd 4294967295 x k

/-- A take from FREE (R130): the head of FREE, its generation increased, its fields written with status PLANNED,
its frames-open booking made, appended to PLANNED. -/
def State.takeFromFree (volume : VolumeName) (opening : Nat) (camera : Camera) (face : Face) (entry : Nat)
    (e : PlanEntry) (s : State) : State :=
  match s.frames.free with
  | [] => s
  | index :: rest =>
    let s := s.onFrame index fun d =>
      { generation := wrapSucc 16 d.generation, volume := volume, opening := opening, camera := camera,
        face := face, bank := e.bank, level := e.level, duration := e.duration, planEntry := entry,
        status := .planned, frameNumber := none, measured := none }
    let s := s.onFrames fun q => { q with free := rest, planned := q.planned ++ [index] }
    (s.bookFrame volume.slot face).onCounts fun c => { c with built := count32 c.built 1 }

/-- The descriptors of plan entry `index` are built, LEFT before RIGHT, at the current opening of the MOUNTED
entry (R130, R146). -/
def State.buildEntry (index : Nat) (s : State) : State :=
  match s.mountedVolume, s.walker.planAt index with
  | some v, some e =>
    let n := s.cradle.opening
    let l := (s.entry v.slot).leafCount
    (cameraSetList e.cameras).foldl (fun s camera => s.takeFromFree v n camera (faceSeen l n camera) index e) s
  | _, _ => s

/-- The head of PLANNED goes into the exposure slot, with the next when it is of the same plan entry and the other
camera; a descriptor leaves PLANNED only while the slot is empty (R132). -/
def State.fillSlot (s : State) : State :=
  match s.frames.slot, s.frames.planned with
  | _ :: _, _ => s
  | [], [] => s
  | [], [a] => s.onFrames fun q => { q with planned := [], slot := [a] }
  | [], a :: b :: rest =>
    if (s.frame a).planEntry = (s.frame b).planEntry ∧ (s.frame a).camera ≠ (s.frame b).camera then
      s.onFrames fun q => { q with planned := rest, slot := [a, b] }
    else s.onFrames fun q => { q with planned := b :: rest, slot := [a] }

/-- Every descriptor of the slot takes a final status and goes to COMPLETED, LEFT before RIGHT (R132). -/
def State.completeSlot (status : FrameStatus) (s : State) : State :=
  (s.onEach s.frames.slot fun d => { d with status := status }).onFrames fun q =>
    { q with slot := [], completed := q.completed ++ q.slot }

/-- One descriptor of the slot takes a final status and goes to COMPLETED (R132). -/
def State.completeOne (index : Nat) (status : FrameStatus) (s : State) : State :=
  (s.onFrame index fun d => { d with status := status }).onFrames fun q =>
    { q with slot := q.slot.filter (· ≠ index), completed := q.completed ++ [index] }

/-- Diversion: PLANNED goes to COMPLETED as WITHDRAWN, in order (R133). -/
def State.divert (s : State) : State :=
  let n := s.frames.planned.length
  ((s.onEach s.frames.planned fun d => { d with status := .withdrawn }).onFrames fun q =>
    { q with planned := [], completed := q.completed ++ q.planned }).onCounts fun c =>
    { c with withdrawn := count32 c.withdrawn n }

/-- A descriptor returns to FREE by a verdict (R131). -/
def State.returnToFree (index : Nat) (s : State) : State :=
  (s.onFrames fun q =>
    { q with verdict := q.verdict.filter (· ≠ index), free := q.free ++ [index] }).releaseFrame
    (s.frame index).volume.slot (s.frame index).face

/-! ### The exposure in the slot -/

/-- The cameras concerned by the exposure in the slot (R144). -/
def State.slotCameras (s : State) : List Camera := s.frames.slot.map fun i => (s.frame i).camera

/-- Every camera concerned is READY (R149). -/
def State.camerasReady (s : State) : Bool := s.slotCameras.all fun c => (s.walker.port c).ready

/-- Both triggers are lowered. -/
def State.lowerTriggers (s : State) : State := s.onCameras fun p => { p with trigger := false }

/-- Every ready and confirm timer is stopped. -/
def State.stopCameraTimers (s : State) : State :=
  s.onCameras fun p => { p with readyTimer := none, confirmTimer := none }

/-- The measured record of an exposure, absent when no interval was charged (R116). -/
def ExposureAccumulator.measured (a : ExposureAccumulator) : Option Measured :=
  if a.charged = 0 then none
  else some { dose := a.dose, meanIrradiance := a.irradianceSum / a.charged }

/-- The Dose Meter hands the measured record to each descriptor of the slot (R116). -/
def State.handMeasured (s : State) : State :=
  s.onEach s.frames.slot fun d => { d with measured := s.meter.exposure.bind (·.measured) }

/-- The slot stage, and the state with it unless the sweep is DRAINING (R148, R150, R151). -/
def State.toStage (stage : SlotStage) (state : SweepState) (s : State) : State :=
  s.onSweep fun w =>
    { w with stage := some stage, state := if w.state = .draining then .draining else state }

/-! ### The end of a sweep (R157) -/

/-- The ends that tear (R157). -/
def SweepEnd.tears : SweepEnd → Bool
  | .stopped => true
  | .guard => true
  | .halted => true
  | .settings => true
  | .dismounted => true
  | .passDone => false
  | .countReached => false
  | .closed => false
  | .exhausted => false
  | .budget => false

/-- The tear of the exposure slot (R157, step 1): a lit exposure is put out and keeps its measured record (R95, R116). -/
def State.tearSlot (s : State) : State :=
  if s.frames.slot = [] then s
  else
    let s := if s.lightOwner = some .exposure then s.handMeasured.putOut else s
    let n := s.frames.slot.length
    (s.lowerTriggers.stopCameraTimers.completeSlot .torn).onCounts fun c => { c with torn := count32 c.torn n }

/-- The end procedure of a sweep (R157, R158). -/
def State.endSweep (reason : SweepEnd) (s : State) : State :=
  let s := (if reason.tears then s.tearSlot else s).divert
  let s := s.onSweep fun w =>
    { w with buildPending := false, stage := none, state := .idle, lastEnd := some reason }
  let w := s.walker.sweep
  s.post (.sweepEnded reason w.mode ((w.volume.map (·.slot)).getD 255) ((w.volume.map (·.generation)).getD 0)
    (w.opening.getD 0) w.counts)

/-- An event from outside ends an active sweep (R159); an IDLE sweep is left as it is. -/
def State.sweepTrip (reason : SweepEnd) (s : State) : State :=
  if s.walker.sweep.state = .idle then s else s.endSweep reason

/-! ### Going on when the slot empties (R155, R156) -/

/-- Every descriptor the sweep built is REFUSED, and no exposure was lit (R155, R156). -/
def Sweep.allRefused (w : Sweep) : Bool := !w.started && w.counts.refused == w.counts.built

/-- The next build of a COUNT or OPEN sweep (R147), and the start of its exposure; or a wait with the build
pending while FREE holds fewer descriptors than the entry needs. -/
def State.nextBuild (start : State → State) (s : State) : State :=
  let w := s.walker
  if w.cameraCount w.sweep.nextEntry ≤ s.frames.free.length then
    let s := s.buildEntry w.sweep.nextEntry
    start (s.onSweep fun w' =>
      { w' with buildPending := false,
                nextEntry := if w.sweep.nextEntry + 1 < w.planLength then w.sweep.nextEntry + 1 else 0 })
  else s.onSweep fun w' => { w' with buildPending := true, state := .walking, stage := none }

/-- The sweep runs out: it ends with reason BUDGET when every descriptor it built is REFUSED, else with the one given
(R155, R156). -/
def State.runOut (reason : SweepEnd) (s : State) : State :=
  s.endSweep (if s.walker.sweep.allRefused then .budget else reason)

/-- An exposure that leaves the slot without having been lit lengthens the run without start (R156). -/
def State.countStart (lit : Bool) (s : State) : State :=
  if lit then s else s.onSweep fun w => { w with runWithoutStart := w.runWithoutStart + 1 }

/-- A COUNT or OPEN sweep goes on with its next build unless a whole plan passed without a start (R156). -/
def State.buildOrEnd (start : State → State) (s : State) : State :=
  if s.walker.planLength ≤ s.walker.sweep.runWithoutStart then s.runOut .exhausted else s.nextBuild start

/-- A sweep in WALKING goes on by its mode, or ends (R155, R156). -/
def State.goOnByMode (start : State → State) (lit : Bool) (s : State) : State :=
  match s.walker.sweep.mode with
  | .pass => if s.frames.planned = [] then s.runOut .passDone else start s
  | .count target =>
    if target ≤ s.walker.sweep.counts.taken then (s.countStart lit).endSweep .countReached
    else (s.countStart lit).buildOrEnd start
  | .opened => (s.countStart lit).buildOrEnd start

/-- The exposure slot has emptied (R155, R156, R160): the sweep ends, or the next exposure starts. `lit` says
whether the exposure that left the slot was lit. -/
def State.goOn (start : State → State) (lit : Bool) (s : State) : State :=
  if s.walker.sweep.state = .draining then s.endSweep .closed
  else (s.onSweep fun w => { w with state := .walking, stage := none }).goOnByMode start lit

/-- The slot's descriptors become REFUSED and go to COMPLETED (R148, R150). -/
def State.refuseSlot (s : State) : State :=
  let n := s.frames.slot.length
  (s.completeSlot .refused).onCounts fun c => { c with refused := count32 c.refused n }

/-- A granted light request (R150): the bank is LIT with owner EXPOSURE, the accumulator is set up (R114), the
descriptors are EXPOSING, the triggers are raised. -/
def State.grantLight (d : Descriptor) (s : State) : State :=
  let s := (s.lightUp d.bank d.level .exposure).onMeter fun m =>
    { m with exposure := some { planned := d.duration / 10, charged := 0, dose := 0, irradianceSum := 0 } }
  let s := s.onEach s.frames.slot fun d => { d with status := .exposing }
  let s := s.onEachCamera s.slotCameras fun p => { p with trigger := true }
  (s.toStage .exposing .exposing).onSweep fun w => { w with started := true, runWithoutStart := 0 }

/-- The light request of the exposure in the slot (R94, R150), the ready timers stopped. -/
def State.requestLight (goOn : State → State) (s : State) : State :=
  let s := s.onCameras fun p => { p with readyTimer := none }
  match s.frames.slot with
  | [] => s
  | a :: _ =>
    if s.lightRefusal = none then s.grantLight (s.frame a) else goOn s.refuseSlot

/-- The wait for the cameras begins (R149): the light is asked for at once when they are READY, else the ready
timer of each camera concerned starts. -/
def State.awaitCameras (goOn : State → State) (s : State) : State :=
  let s := s.toStage .waitCamera .waitCamera
  if s.camerasReady then s.requestLight goOn
  else
    s.onEachCamera s.slotCameras fun p => { p with readyTimer := some s.cameraReadyTime }

/-- The walker starts the exposure at the head of PLANNED (R148). The first argument bounds how many exposures may
be started and refused within the one event; `startBound` is always enough (log 19). -/
def State.startExposure : Nat → State → State
  | 0, s => s
  | bound + 1, s =>
    let s := s.fillSlot
    match s.frames.slot with
    | [] => s
    | a :: _ =>
      let d := s.frame a
      let next := State.goOn (State.startExposure bound) false
      match s.projection d.bank d.level d.duration with
      | .pass _ => s.awaitCameras next
      | .fail .. => next s.refuseSlot

/-- More exposures than one event can start: each takes a descriptor of PLANNED, or, in COUNT and OPEN, moves the
run without start toward the plan length (R155, R156). -/
def State.startBound (s : State) : Nat := s.frames.planned.length + s.walker.planLength + 2

/-- Start the exposure at the head of PLANNED. -/
def State.start (s : State) : State := s.startExposure s.startBound

/-- Go on after the slot has emptied. -/
def State.slotEmptied (lit : Bool) (s : State) : State := s.goOn State.start lit

/-- A pending build is made, with the start of its exposure, once FREE holds enough descriptors (R147). -/
def State.tryPendingBuild (s : State) : State :=
  if s.walker.sweep.buildPending then s.nextBuild State.start else s

/-! ### Ends of the light (R112, R120, R151, R154) -/

/-- PULSE_END (R151): the bank goes out, the measured record is handed on, the descriptors are CONFIRMING and the
confirm timer of each camera concerned starts. -/
def State.pulseEnd (s : State) : State :=
  let s := s.handMeasured.putOut.lowerTriggers
  let s := s.onEach s.frames.slot fun d => { d with status := .confirming }
  let s := s.onEachCamera s.slotCameras fun p => { p with confirmTimer := some s.cameraConfirmTime }
  s.toStage .confirming .confirming

/-- CUT (R154): the bank goes out, the descriptors are CUT and go to COMPLETED, and the walker goes on. -/
def State.cutExposure (s : State) : State :=
  let s := s.handMeasured.putOut.lowerTriggers
  let n := s.frames.slot.length
  State.slotEmptied true ((s.completeSlot .cut).onCounts fun c => { c with cut := count32 c.cut n })

/-- BUDGET REACHED for each face of a list, LEFT before RIGHT (R113). -/
def State.postBudget (slot : Nat) (faces : List VisibleFace) (source : BudgetSource) (owner : LightOwner)
    (ending : LightEnd) (s : State) : State :=
  let e := s.entry slot
  faces.foldl
    (fun s v =>
      s.post (.budgetReached slot e.generation v.leaf v.side (s.custody.doseOf e v) e.budget source owner ending))
    s

/-- The exposure accumulator after a charged interval (R114). -/
def ExposureAccumulator.add (charge irradiance : Nat) (a : ExposureAccumulator) : ExposureAccumulator :=
  { a with
    charged := a.charged + 1, dose := a.dose + charge, irradianceSum := a.irradianceSum + irradiance }

/-- The preview accumulator after a charged interval (R115). -/
def PreviewAccumulator.add (charge : Nat) (a : PreviewAccumulator) : PreviewAccumulator :=
  { a with charged := satAdd 4294967295 a.charged 1, dose := a.dose + charge }

/-- The Dose Meter's accumulators take a charged interval (R114, R115). -/
def Meter.add (owner : LightOwner) (charge irradiance : Nat) (m : Meter) : Meter :=
  match owner with
  | .exposure => { m with irradiance := irradiance, exposure := m.exposure.map (·.add charge irradiance) }
  | .preview => { m with irradiance := irradiance, preview := m.preview.map (·.add charge) }

/-- All planned intervals of the exposure are charged (R112). -/
def Meter.pulseDone (m : Meter) : Bool := (m.exposure.map fun a => a.charged == a.planned).getD false

/-- A metering interval expires with a raw reading (R109 to R114); while metering is IDLE nothing happens (log 3). -/
def State.meterExpiry (raw : Nat) (s : State) : State :=
  match s.meter.running, s.mountedSlot with
  | none, _ => s
  | some _, none => s
  | some run, some slot =>
    let irradiance := calibrated raw (s.calibration run.bank 1) (s.calibration run.bank 2)
    let charge := chargeOf irradiance (s.calibration run.bank 3).toNat
    let budget := (s.entry slot).budget
    let below := s.visible.filter fun v => decide (s.custody.doseOf (s.entry slot) v < budget)
    let s := (s.chargeFaces charge).onMeter (Meter.add run.owner charge irradiance)
    let crossed := below.filter fun v => decide (budget ≤ s.custody.doseOf (s.entry slot) v)
    let reached := s.faceAtBudget ≠ none
    match run.owner with
    | .exposure =>
      if s.meter.pulseDone then (s.postBudget slot crossed .metering .exposure .pulseEnd).pulseEnd
      else if reached then (s.postBudget slot crossed .metering .exposure .cut).cutExposure
      else s
    | .preview =>
      if reached then (s.postBudget slot crossed .metering .preview .budget).endPreview .budget else s

/-- A SET BUDGET on the MOUNTED entry has replaced the budget while a bank is lit (R120): faces at or above it are
posted and the light is put out. -/
def State.budgetChanged (slot : Nat) (s : State) : State :=
  let faces := s.visible.filter fun v => decide ((s.entry slot).budget ≤ s.custody.doseOf (s.entry slot) v)
  match s.lightOwner with
  | none => s
  | some .exposure =>
    if faces = [] then s else (s.postBudget slot faces .setBudget .exposure .cut).cutExposure
  | some .preview =>
    if faces = [] then s else (s.postBudget slot faces .setBudget .preview .budget).endPreview .budget

/-! ### Camera events (R149, R152, R153) -/

/-- The descriptor of a camera in the slot with status CONFIRMING (R152). -/
def State.confirming (camera : Camera) (s : State) : Option Nat :=
  s.frames.slot.find? fun i => (s.frame i).camera == camera && (s.frame i).status == .confirming

/-- The walker goes on when the slot is now empty (R152, R153). -/
def State.goOnIfEmpty (s : State) : State := if s.frames.slot = [] then s.slotEmptied true else s

/-- READY has changed at a camera port: tested in WAIT_CAMERA for a camera concerned (R149). -/
def State.readyTaken (camera : Camera) (s : State) : State :=
  if s.walker.sweep.stage = some .waitCamera ∧ camera ∈ s.slotCameras ∧ s.camerasReady then
    s.requestLight (State.slotEmptied false)
  else s

/-- A rising DONE edge (R152). -/
def State.doneTaken (camera : Camera) (s : State) : State :=
  let s := s.onCamera camera fun p => { p with counter := wrapSucc 65536 p.counter }
  match s.confirming camera with
  | none => s
  | some index =>
    let number := (s.walker.port camera).counter
    let s := s.onCamera camera fun p => { p with confirmTimer := none }
    let s := (s.onFrame index fun d => { d with frameNumber := some number }).completeOne index .taken
    (s.onCounts fun c => { c with taken := count32 c.taken 1 }).goOnIfEmpty

/-- A camera ready timer expires (R149); the first expiry acts for both, and a timer that is not running or a slot
no longer in WAIT_CAMERA changes nothing. -/
def State.readyTimeout (camera : Camera) (s : State) : State :=
  if (s.walker.port camera).readyTimer ≠ none ∧ s.walker.sweep.stage = some .waitCamera then
    let s := s.onCameras fun p => { p with readyTimer := none }
    let n := s.frames.slot.length
    State.slotEmptied false ((s.completeSlot .cameraNotReady).onCounts fun c =>
      { c with cameraNotReady := count32 c.cameraNotReady n })
  else s

/-- A camera confirm timer expires (R153). -/
def State.confirmTimeout (camera : Camera) (s : State) : State :=
  if (s.walker.port camera).confirmTimer = none then s
  else
    let s := s.onCamera camera fun p => { p with confirmTimer := none }
    match s.confirming camera with
    | none => s
    | some index =>
      ((s.completeOne index .unconfirmed).onCounts fun c =>
        { c with unconfirmed := count32 c.unconfirmed 1 }).goOnIfEmpty

/-! ### Events that reach light, capture and motion together -/

/-- The station goes dark by a trip, a halt or a settings fault (R100, R159): an active sweep ends and tears its
exposure, a preview ends with its cause. -/
def State.stopLightAndSweep (sweep : SweepEnd) (preview : PreviewEnd) (s : State) : State :=
  ((s.sweepTrip sweep).endPreview preview).putOut

/-- A curtain trip (R85), the latch having been set. -/
def State.curtainTrip (s : State) : State := (s.stopLightAndSweep .guard .guard).cradleTrip .guard

/-- A change of mode, with MODE CHANGED (R175). -/
def State.setMode (mode : Mode) (cause : ModeCause) (s : State) : State :=
  (s.onStation fun t => { t with mode := mode }).post (.modeChanged s.station.mode mode cause)

/-- The entry of the station to HALTED (R178). -/
def State.enterHalted (cause : ModeCause) (s : State) : State :=
  ((s.setMode .halted cause).stopLightAndSweep .halted .halt).cradleTrip .halt

/-- A settings fault (R171). -/
def State.settingsFault (source : SettingsSource) (s : State) : State :=
  ((s.stopLightAndSweep .settings .settings).cradleTrip .settings).post
    (.settingsChanged .good .fault source s.settings.lastSum)

end Sys2Proof.Machine
end

