-- ==== Sys2Proof/Machine/CustodyRequests.lean ====
section
/-! DEFINITION. CustodyRequests: the requests of the custody table (chapter 1). -/

namespace Sys2Proof.Machine

/-- The first checks of the requests that name a slot and a generation and act on any volume in custody: STALE,
then STATE on a FREE entry (R3). -/
def State.named (slot generation : Nat) (act : CustodyEntry → Served) (s : State) : Served :=
  let e := s.entry slot
  if e.generation ≠ generation then refuse .stale [] s
  else if e.state = .free then refuse .state [] s
  else act e

/-! ### CHECK IN -/

/-- The custody sequence after one has been given (R4). -/
def sequenceAfter (n : Nat) : Nat := if n = 4294967295 then 1 else n + 1

/-- The entry of a new check-in (R7). -/
def CustodyEntry.staged (generation sequence : Nat) (shelfMark : List Byte) (designation : Option (List Byte))
    (accession leafCount base : Nat) : CustodyEntry :=
  { CustodyEntry.free generation with
    state := .staged, sequence := sequence, shelfMark := shelfMark, designation := designation,
    accession := accession, leafCount := leafCount, extentBase := base }

/-- A CHECK IN that has passed its checks (R7). -/
def checkInAt (slot base : Nat) (shelfMark : List Byte) (designation : Option (List Byte))
    (accession leafCount : Nat) (s : State) : Served :=
  let generation := wrapSucc 256 (s.entry slot).generation
  let sequence := s.custody.nextSequence
  let t := s.onCustody fun c =>
    { entries :=
        Vec.edit c.entries slot fun _ => .staged generation sequence shelfMark designation accession leafCount base
      leaves := LeafStore.allocate base leafCount c.leaves
      nextSequence := sequenceAfter sequence }
  okay (be 1 slot ++ be 1 generation ++ be 4 sequence ++ be 2 base)
    (t.post (.custodyChanged slot generation .staged sequence))

/-- CHECK IN at the Custody Unit: checks 2 to 4 of R6, then R7. -/
def takeCheckIn (shelfMark : List Byte) (designation : Option (List Byte)) (accession leafCount : Nat)
    (s : State) : Served :=
  match s.holderOfIdentity shelfMark designation, s.lowestFree, firstFit leafCount s.custody.leaves with
  | some slot, _, _ => refuse .duplicate (be 1 slot ++ be 1 (s.entry slot).generation) s
  | none, none, _ => refuse .noSlot [] s
  | none, some _, none => refuse .noExtent [] s
  | none, some slot, some base => checkInAt slot base shelfMark designation accession leafCount s

def execCheckIn (o : Origin) (shelfMark : List Byte) (designation : Option (List Byte))
    (accession leafCount : Nat) (s : State) : Host.Outcome State Fault Refusal :=
  request (.checkIn o shelfMark designation accession leafCount) o
    (takeCheckIn shelfMark designation accession leafCount) s

/-! ### Clearance, budget, holds and waivers -/

/-- SET HANDLING (R8): on a STAGED entry alone. -/
def takeSetHandling (slot generation handlingClass angleLimit faceBudget : Nat) (s : State) : Served :=
  let e := s.entry slot
  if e.generation ≠ generation then refuse .stale [] s
  else if e.state ≠ .staged then refuse .state [] s
  else
    okay [] (s.onEntry slot fun e =>
      { e with
        clearance := some { handlingClass := handlingClass, angleLimit := angleLimit, faceBudget := faceBudget } })

def execSetHandling (o : Origin) (slot generation handlingClass angleLimit faceBudget : Nat) (s : State) :
    Host.Outcome State Fault Refusal :=
  request (.setHandling o slot generation handlingClass angleLimit faceBudget) o
    (takeSetHandling slot generation handlingClass angleLimit faceBudget) s

/-- The face budget of an entry's clearance is replaced (R9). -/
def CustodyEntry.withBudget (faceBudget : Nat) (e : CustodyEntry) : CustodyEntry :=
  { e with clearance := e.clearance.map fun c => { c with faceBudget := faceBudget } }

/-- SET BUDGET (R9); on the MOUNTED entry the Dose Meter compares within the request (R120). -/
def takeSetBudget (slot generation faceBudget : Nat) (s : State) : Served :=
  s.named slot generation fun e =>
    if e.clearance = none then refuse .notCleared [] s
    else
      let t := s.onEntry slot (CustodyEntry.withBudget faceBudget)
      okay (be 4 faceBudget) (if e.state = .mounted then t.budgetChanged slot else t)

def execSetBudget (o : Origin) (slot generation faceBudget : Nat) (s : State) :
    Host.Outcome State Fault Refusal :=
  request (.setBudget o slot generation faceBudget) o (takeSetBudget slot generation faceBudget) s

/-- HOLD (R10). -/
def takeHold (slot generation : Nat) (s : State) : Served :=
  s.named slot generation fun _ =>
    okay [] (s.onEntry slot fun e => { e with hold := some .conservation })

def execHold (o : Origin) (slot generation : Nat) (s : State) : Host.Outcome State Fault Refusal :=
  request (.hold o slot generation) o (takeHold slot generation) s

/-- UNHOLD (R11). -/
def takeUnhold (slot generation : Nat) (s : State) : Served :=
  s.named slot generation fun _ => okay [] (s.onEntry slot fun e => { e with hold := none })

def execUnhold (o : Origin) (slot generation : Nat) (s : State) : Host.Outcome State Fault Refusal :=
  request (.unhold o slot generation) o (takeUnhold slot generation) s

/-- WAIVE (R13). -/
def takeWaive (slot generation reason : Nat) (s : State) : Served :=
  s.named slot generation fun _ => okay [] (s.onEntry slot fun e => { e with waiver := some reason })

def execWaive (o : Origin) (slot generation reason : Nat) (s : State) : Host.Outcome State Fault Refusal :=
  request (.waive o slot generation reason) o (takeWaive slot generation reason) s

/-! ### Mounting and dismounting -/

/-- The effect of an accepted MOUNT (R15): the entry is MOUNTED at the starting opening and SETTLING begins. -/
def State.mountAt (slot generation opening : Nat) (s : State) : State :=
  ((s.onEntry slot fun e => { e with state := .mounted }).onCradle fun c =>
    { c with mounted := some ⟨slot, generation⟩, opening := opening }).beginSettling

/-- MOUNT (R14, R15). -/
def takeMount (slot generation opening : Nat) (s : State) : Served :=
  let e := s.entry slot
  if s.station.mode ≠ .ready then refuse .mode [] s
  else if e.generation ≠ generation then refuse .stale [] s
  else if e.state ≠ .staged then refuse .state [] s
  else if e.clearance = none then refuse .notCleared [] s
  else if e.hold ≠ none then refuse .held [] s
  else if s.mountedSlot ≠ none then refuse .state [] s
  else if s.cradle.state ≠ .parked then refuse .cradleBusy [] s
  else if s.settings.state ≠ .good then refuse .settingsFault [] s
  else if e.leafCount < opening then refuse .leafBounds (be 2 e.leafCount) s
  else
    accepted (be 1 slot ++ be 1 generation ++ be 2 opening ++ be 1 e.angleLimit)
      (s.mountAt slot generation opening)

def execMount (o : Origin) (slot generation opening : Nat) (s : State) : Host.Outcome State Fault Refusal :=
  request (.mount o slot generation opening) o (takeMount slot generation opening) s

/-- Turn, hold and fault records are discarded without a notice (R17, R75). -/
def Cradle.discardWork (c : Cradle) : Cradle := { c with turn := none, hold := none, fault := none }

/-- The MOUNTED entry leaves the cradle: it becomes STAGED, the mounted volume is none, and PARKING begins under
the entry's class with that entry as parked volume (R17, R51, R75). -/
def State.parkMounted (slot : Nat) (s : State) : State :=
  let e := s.entry slot
  ((s.onEntry slot fun e => { e with state := .staged }).onCradle fun c =>
    { c with mounted := none }).beginParking e.handlingClass (some ⟨slot, e.generation⟩)

/-- The effect of an accepted DISMOUNT, in the order of R17. -/
def State.dismount (slot : Nat) (s : State) : State :=
  let s := (s.sweepTrip .dismounted).endPreview .dismount
  (s.onCradle fun c => { c.discardWork with approval := none }).parkMounted slot

/-- DISMOUNT (R16, R17). -/
def takeDismount (slot generation : Nat) (s : State) : Served :=
  let e := s.entry slot
  if s.station.mode ≠ .ready then refuse .mode [] s
  else if e.generation ≠ generation then refuse .stale [] s
  else if e.state ≠ .mounted then refuse .state [] s
  else if s.cradle.state ≠ .openReady ∧ s.cradle.atRestInHold = false then refuse .cradleBusy [] s
  else accepted (be 1 slot ++ be 1 generation) (s.dismount slot)

def execDismount (o : Origin) (slot generation : Nat) (s : State) : Host.Outcome State Fault Refusal :=
  request (.dismount o slot generation) o (takeDismount slot generation) s

/-! ### RELEASE -/

/-- The extent returns to the free store and the entry takes the defaults of R1, its generation unchanged; CUSTODY
CHANGED is posted (R23). -/
def State.releaseEntry (slot : Nat) (s : State) : State :=
  let e := s.entry slot
  (s.onCustody fun c =>
    { c with
      entries := Vec.edit c.entries slot fun e => .free e.generation
      leaves := LeafStore.release e.extentBase e.leafCount c.leaves }).post
    (.custodyChanged slot e.generation .free e.sequence)

/-- RELEASE (R22, R23). -/
def takeRelease (slot generation : Nat) (s : State) : Served :=
  let e := s.entry slot
  if e.generation ≠ generation then refuse .stale [] s
  else if e.state ≠ .staged then refuse .state [] s
  else if e.hold ≠ none then refuse .held [] s
  else if e.framesOpen ≠ 0 then refuse .framesOpen (be 2 e.framesOpen) s
  else if e.leavesComplete ≠ e.leafCount ∧ e.waiver = none then
    refuse .incomplete (be 2 e.leavesComplete) s
  else okay (receiptBytes e (s.custody.countWithheld e)) (s.releaseEntry slot)

def execRelease (o : Origin) (slot generation : Nat) (s : State) : Host.Outcome State Fault Refusal :=
  request (.release o slot generation) o (takeRelease slot generation) s

/-! ### Reading the table -/

/-- The non-FREE slots at or above a first slot, in slot order (R24). -/
def State.usedSlots (s : State) (firstSlot : Nat) : List Nat :=
  (List.range 8).filter fun i => decide (firstSlot ≤ i) && (s.entry i).state != .free

/-- LIST CUSTODY (R24): up to 4 records, then the continuation slot. -/
def takeListCustody (firstSlot : Nat) (s : State) : Served :=
  let shown := (s.usedSlots firstSlot).take 4
  okay
    (be 1 shown.length ++ (shown.flatMap fun i => listRecordBytes i (s.entry i)) ++
      opt1 ((s.usedSlots firstSlot).drop 4).head?) s

def execListCustody (o : Origin) (firstSlot : Nat) (s : State) : Host.Outcome State Fault Refusal :=
  request (.listCustody o firstSlot) o (takeListCustody firstSlot) s

/-- READ CUSTODY (R25). -/
def takeReadCustody (slot : Nat) (s : State) : Served := okay (custodyEntryBytes slot (s.entry slot)) s

def execReadCustody (o : Origin) (slot : Nat) (s : State) : Host.Outcome State Fault Refusal :=
  request (.readCustody o slot) o (takeReadCustody slot) s

end Sys2Proof.Machine
end

