-- ==== Sys2Proof/Machine/CaptureRequests.lean ====
section
/-! DEFINITION. CaptureRequests: the requests of the frame queues, the plan and the sweep (chapters 7 and 8). -/

namespace Sys2Proof.Machine

/-! ### TAKE FRAMES and the verdicts -/

/-- TAKE FRAMES (R135). -/
def takeTakeFrames (largest : Nat) (s : State) : Served :=
  let taken := s.frames.completed.take largest
  let left := s.frames.completed.drop largest
  okay
    (be 1 taken.length ++ (taken.flatMap fun i => frameRecordBytes i (s.frame i)) ++ be 2 left.length)
    (s.onFrames fun q => { q with completed := left, verdict := q.verdict ++ taken })

def execTakeFrames (o : Origin) (largest : Nat) (s : State) : Host.Outcome State Fault Refusal :=
  request (.takeFrames o largest) o (takeTakeFrames largest) s

/-- Checks 1 and 2 of both verdicts (R136). -/
def State.inVerdict (index generation : Nat) (act : Served) (s : State) : Served :=
  if (s.frame index).generation ≠ generation then refuse .stale (be 1 (s.frame index).generation) s
  else if s.frames.holder index ≠ .verdict then
    refuse .notInVerdict (be 1 (holderCode (s.frames.holder index))) s
  else act

/-- A verdict returns its descriptor to FREE, which is an event at a walker with a pending build (R131, R147). -/
def State.freeByVerdict (index : Nat) (s : State) : State := (s.returnToFree index).tryPendingBuild

/-- The reply of ACCEPT FRAME, read after the request (R137, log 20). -/
def acceptReply (index generation : Nat) (d : Descriptor) (answer : CoverageAnswer) (s : State) : List Byte :=
  let e := s.entry d.volume.slot
  be 1 index ++ be 1 generation ++ be 1 (coverageAnswerCode answer) ++ be 1 d.volume.slot ++
    be 2 e.framesAccepted ++ be 2 e.leavesComplete ++ be 2 e.framesOpen ++
    opt2 ((s.faceRecord d.volume.slot d.face).map (·.framesOpen))

/-- ACCEPT FRAME (R136, R137): the coverage booking, then the return to FREE. -/
def takeAcceptFrame (index generation : Nat) (s : State) : Served :=
  s.inVerdict index generation
    (let d := s.frame index
     if d.status ≠ .taken then refuse .state (be 1 (frameStatusCode d.status)) s
     else
       let booked := s.bookCoverage d.volume.slot d.face d.bank
       let t := booked.2.freeByVerdict index
       okay (acceptReply index generation d booked.1 t) t)

def execAcceptFrame (o : Origin) (index generation : Nat) (s : State) : Host.Outcome State Fault Refusal :=
  request (.acceptFrame o index generation) o (takeAcceptFrame index generation) s

/-- REJECT FRAME (R136, R138). -/
def takeRejectFrame (index generation : Nat) (s : State) : Served :=
  s.inVerdict index generation
    (let d := s.frame index
     let t := s.freeByVerdict index
     okay
       (be 1 index ++ be 1 generation ++ be 1 (frameStatusCode d.status) ++ be 1 d.volume.slot ++
         be 2 (t.entry d.volume.slot).framesOpen) t)

def execRejectFrame (o : Origin) (index generation : Nat) (s : State) : Host.Outcome State Fault Refusal :=
  request (.rejectFrame o index generation) o (takeRejectFrame index generation) s

/-! ### The plan -/

/-- SET PLAN ENTRY (R141). -/
def takeSetPlanEntry (index : Nat) (cameras : CameraSet) (bank level duration : Nat) (s : State) : Served :=
  if s.walker.sweep.state ≠ .idle then refuse .planBusy [] s
  else
    let entry : Option PlanEntry := some { cameras := cameras, bank := bank, level := level, duration := duration }
    okay (be 1 index ++ planEntryBytes entry ++ planEntryBytes (s.walker.planAt index))
      (s.onWalker fun w => { w with plan := Vec.put w.plan index entry })

def execSetPlanEntry (o : Origin) (index : Nat) (cameras : CameraSet) (bank level duration : Nat) (s : State) :
    Host.Outcome State Fault Refusal :=
  request (.setPlanEntry o index cameras bank level duration) o
    (takeSetPlanEntry index cameras bank level duration) s

/-- SET PLAN LENGTH (R142). -/
def takeSetPlanLength (length : Nat) (s : State) : Served :=
  if s.walker.sweep.state ≠ .idle then refuse .planBusy [] s
  else
    match s.walker.lowestUnset length with
    | some index => refuse .state (be 1 index) s
    | none =>
      okay (be 1 s.walker.planLength ++ be 1 length) (s.onWalker fun w => { w with planLength := length })

def execSetPlanLength (o : Origin) (length : Nat) (s : State) : Host.Outcome State Fault Refusal :=
  request (.setPlanLength o length) o (takeSetPlanLength length) s

/-- READ PLAN (R142). -/
def takeReadPlan (index : Nat) (s : State) : Served :=
  okay (planEntryBytes (s.walker.planAt index) ++ be 1 s.walker.planLength) s

def execReadPlan (o : Origin) (index : Nat) (s : State) : Host.Outcome State Fault Refusal :=
  request (.readPlan o index) o (takeReadPlan index) s

/-! ### CAPTURE OPENING -/

/-- The descriptors the first build of a mode needs (R145). -/
def Walker.firstNeed (mode : SweepMode) (w : Walker) : Nat :=
  match mode with
  | .pass => w.passNeed
  | .count _ => w.cameraCount 0
  | .opened => w.cameraCount 0

/-- The sweep record at acceptance (R143). -/
def Sweep.opened (mode : SweepMode) (volume : VolumeName) (opening : Nat) : Sweep :=
  { Sweep.initial with state := .walking, mode := mode, volume := some volume, opening := some opening }

/-- The first build of a mode (R146). -/
def State.firstBuild (mode : SweepMode) (s : State) : State :=
  let first := fun (s : State) =>
    (s.buildEntry 0).onSweep fun w => { w with nextEntry := if s.walker.planLength = 1 then 0 else 1 }
  match mode with
  | .pass => (List.range s.walker.planLength).foldl (fun s i => s.buildEntry i) s
  | .count _ => first s
  | .opened => first s

/-- A lit preview ends, the sweep record is set up and the first build is made (R146). -/
def State.openSweep (mode : SweepMode) (volume : VolumeName) (s : State) : State :=
  ((s.endPreview .capture).onSweep fun _ => .opened mode volume s.cradle.opening).firstBuild mode

/-- CAPTURE OPENING (R145, R146). The reply counts the first build (log 21). -/
def takeCaptureOpening (mode : SweepMode) (s : State) : Served :=
  if s.station.mode ≠ .ready then refuse .mode [] s
  else
    match s.mountedSlot with
    | none => refuse .noVolume [] s
    | some slot =>
      let e := s.entry slot
      let need := s.walker.firstNeed mode
      if e.hold ≠ none then refuse .held [] s
      else if s.settings.state ≠ .good then refuse .settingsFault [] s
      else if s.cradle.state ≠ .openReady then refuse .cradleBusy [] s
      else if s.walker.sweep.state ≠ .idle then refuse .openingBusy [] s
      else if s.guards.clear = false then refuse .guard [] s
      else if s.walker.planLength = 0 then refuse .planEmpty [] s
      else if s.frames.free.length < need then
        refuse .noDescriptors (be 2 s.frames.free.length ++ be 1 need) s
      else
        let t := s.openSweep mode ⟨slot, e.generation⟩
        accepted
          (be 1 (sweepModeCode mode) ++ sweepTarget mode ++ be 1 slot ++ be 1 e.generation ++
            be 2 s.cradle.opening ++ be 1 need ++ be 2 t.frames.free.length) t.start

def execCaptureOpening (o : Origin) (mode : SweepMode) (s : State) : Host.Outcome State Fault Refusal :=
  request (.captureOpening o mode) o (takeCaptureOpening mode) s

/-! ### CLOSE OPENING, STOP SWEEP -/

/-- A close taken outside DRAINING (R160): PLANNED is diverted; an empty slot ends the sweep, else it drains. -/
def State.closeSweep (s : State) : State :=
  let t := s.divert
  if s.frames.slot = [] then t.endSweep .closed else t.onSweep fun w => { w with state := .draining }

/-- CLOSE OPENING (R160). -/
def takeCloseOpening (s : State) : Served :=
  if s.walker.sweep.state = .idle then refuse .state [] s
  else if s.walker.sweep.state = .draining then okay (be 1 (sweepStateCode .draining) ++ be 1 0) s
  else
    okay (be 1 (sweepStateCode s.closeSweep.walker.sweep.state) ++ be 1 s.frames.planned.length) s.closeSweep

def execCloseOpening (o : Origin) (s : State) : Host.Outcome State Fault Refusal :=
  request (.closeOpening o) o takeCloseOpening s

/-- STOP SWEEP (R161). -/
def takeStopSweep (s : State) : Served :=
  if s.walker.sweep.state = .idle then refuse .state [] s
  else okay (countsBytes (s.endSweep .stopped).walker.sweep.counts) (s.endSweep .stopped)

def execStopSweep (o : Origin) (s : State) : Host.Outcome State Fault Refusal :=
  request (.stopSweep o) o takeStopSweep s

end Sys2Proof.Machine
end

