-- ==== Sys2Proof/Machine/CradleRequests.lean ====
section
/-! DEFINITION. CradleRequests: the requests of the Cradle Unit, the Leaf Gauge and the Guard Monitor
(chapters 3 and 4). -/

namespace Sys2Proof.Machine

/-! ### TURN -/

/-- The turn stays within the volume for its whole count (R54, check 8). -/
def turnInBounds (direction : Direction) (count opening leafCount : Nat) : Bool :=
  match direction with
  | .forward => decide (opening + count ≤ leafCount)
  | .back => decide (count ≤ opening)

/-- The turn record of an accepted TURN (R55). -/
def TurnRecord.start (direction : Direction) (count effectiveClass : Nat) : TurnRecord where
  direction := direction
  count := count
  done := 0
  effectiveClass := effectiveClass
  retriesUsed := 0
  phase := .baseline
  step := 1
  leafOnWand := false
  lastClass := none
  drop := .counted

/-- The effect of an accepted TURN (R55): a lit preview ends, the turn record is built, the first leaf starts. -/
def State.beginTurn (direction : Direction) (count effectiveClass : Nat) (s : State) : State :=
  ((s.endPreview .turn).onCradle fun c =>
    { c with state := .turning, turn := some (.start direction count effectiveClass) }).startLeaf

/-- TURN (R54, R55). -/
def takeTurn (direction : Direction) (count requestedClass : Nat) (s : State) : Served :=
  if s.station.mode ≠ .ready then refuse .mode [] s
  else
    match s.mountedSlot with
    | none => refuse .noVolume [] s
    | some slot =>
      let e := s.entry slot
      let effectiveClass := min requestedClass e.handlingClass
      if e.hold ≠ none then refuse .held [] s
      else if s.settings.state ≠ .good then refuse .settingsFault [] s
      else if s.cradle.state ≠ .openReady then refuse .cradleBusy [] s
      else if s.walker.sweep.state ≠ .idle then refuse .openingBusy [] s
      else if s.guards.clear = false then refuse .guard [] s
      else if turnInBounds direction count s.cradle.opening e.leafCount = false then
        refuse .leafBounds (be 2 e.leafCount) s
      else
        accepted (be 1 (directionCode direction) ++ be 1 count ++ be 1 effectiveClass ++ be 2 s.cradle.opening)
          (s.beginTurn direction count effectiveClass)

def execTurn (o : Origin) (direction : Direction) (count requestedClass : Nat) (s : State) :
    Host.Outcome State Fault Refusal :=
  request (.turn o direction count requestedClass) o (takeTurn direction count requestedClass) s

/-! ### APPROVE TURN, RESUME, RECOVER TURN, CLEAR REFERENCE -/

/-- APPROVE TURN (R57). -/
def takeApproveTurn (slot generation leaf : Nat) (s : State) : Served :=
  s.named slot generation fun e =>
    if e.leafCount ≤ leaf then refuse .leafBounds (be 2 e.leafCount) s
    else
      let approval : Option Approval := some { slot := slot, generation := generation, leaf := leaf }
      okay (approvalBytes approval ++ approvalBytes s.cradle.approval)
        (s.onCradle fun c => { c with approval := approval })

def execApproveTurn (o : Origin) (slot generation leaf : Nat) (s : State) : Host.Outcome State Fault Refusal :=
  request (.approveTurn o slot generation leaf) o (takeApproveTurn slot generation leaf) s

/-- The cradle has work that RESUME can continue: HOLDING, or PARKING with the drive STOPPED (R70). -/
def Cradle.resumable (c : Cradle) : Bool := c.state == .holding || (c.state == .parking && c.drive != .moving)

/-- RESUME (R70). -/
def takeResume (s : State) : Served :=
  if s.cradle.resumable = false then refuse .state [] s
  else if s.station.mode ≠ .ready then refuse .mode [] s
  else if s.settings.state ≠ .good then refuse .settingsFault [] s
  else if s.guards.clear = false then refuse .guard [] s
  else okay (be 1 (operationCode s.resumeWork.1)) s.resumeWork.2

def execResume (o : Origin) (s : State) : Host.Outcome State Fault Refusal := request (.resume o) o takeResume s

/-- The openings RECOVER TURN may name (R71): the present one, and with a turn record the next in its direction. -/
def recoveryAllowed (turn : Option TurnRecord) (opening target : Nat) : Bool :=
  target == opening ||
    match turn with
    | none => false
    | some { direction := .forward, .. } => target == opening + 1
    | some { direction := .back, .. } => target + 1 == opening

/-- RECOVER TURN can act: FAULT, or HOLDING with a turn record (R71, check 1). -/
def Cradle.recoverable (c : Cradle) : Bool := c.state == .fault || (c.state == .holding && c.turn.isSome)

/-- The leaf count of the MOUNTED entry, 0 with none. -/
def State.mountedLeafCount (s : State) : Nat := (s.mountedSlot.map fun i => (s.entry i).leafCount).getD 0

/-- An accepted RECOVER TURN (R72): with no turn record the fault is an ANGLE_TIMEOUT, and SETTLING begins again. -/
def State.recoverTo (opening : Nat) (s : State) : State :=
  if s.cradle.turn = none then (s.onCradle fun c => { c with fault := none }).beginSettling
  else s.beginRecovery opening

/-- RECOVER TURN (R71, R72). -/
def takeRecoverTurn (opening : Nat) (s : State) : Served :=
  if s.cradle.recoverable = false then refuse .state [] s
  else if recoveryAllowed s.cradle.turn s.cradle.opening opening = false then
    refuse .leafBounds (be 2 s.mountedLeafCount) s
  else if s.guards.clear = false then refuse .guard [] s
  else okay [] (s.recoverTo opening)

def execRecoverTurn (o : Origin) (opening : Nat) (s : State) : Host.Outcome State Fault Refusal :=
  request (.recoverTurn o opening) o (takeRecoverTurn opening) s

/-- CLEAR REFERENCE (R73). -/
def takeClearReference (slot generation : Nat) (s : State) : Served :=
  s.named slot generation fun e =>
    okay (be 2 e.reference) (s.onEntry slot fun e => { e with reference := 0 })

def execClearReference (o : Origin) (slot generation : Nat) (s : State) : Host.Outcome State Fault Refusal :=
  request (.clearReference o slot generation) o (takeClearReference slot generation) s

/-! ### CONFIRM PICK, REJECT PICK -/

/-- The cradle is TURNING in PICK_CONFIRM (R62). -/
def Cradle.inPickConfirm (c : Cradle) : Bool :=
  c.state == .turning && (c.turn.map (·.phase)) == some .pickConfirm

/-- The checks shared by CONFIRM PICK and REJECT PICK: STATE, then STALE (R81, R82). -/
def State.picked (slot leaf : Nat) (act : Served) (s : State) : Served :=
  if s.cradle.inPickConfirm = false then refuse .state [] s
  else if s.mountedSlot ≠ some slot ∨ s.cradle.currentLeaf ≠ some leaf then refuse .stale [] s
  else act

/-- CONFIRM PICK (R62, R81). -/
def takeConfirmPick (slot leaf : Nat) (s : State) : Served :=
  s.picked slot leaf
    (okay (be 2 s.gauge.delta ++ be 2 (s.entry slot).reference)
      ((s.onEntry slot fun e => { e with reference := s.gauge.delta }).enterCarry))

def execConfirmPick (o : Origin) (slot leaf : Nat) (s : State) : Host.Outcome State Fault Refusal :=
  request (.confirmPick o slot leaf) o (takeConfirmPick slot leaf) s

/-- REJECT PICK (R62, R82): a DROP that does not count against the retries. -/
def takeRejectPick (slot leaf : Nat) (s : State) : Served :=
  s.picked slot leaf (okay [] (s.enterDrop .rejected))

def execRejectPick (o : Origin) (slot leaf : Nat) (s : State) : Host.Outcome State Fault Refusal :=
  request (.rejectPick o slot leaf) o (takeRejectPick slot leaf) s

/-! ### ACK GUARD -/

/-- ACK GUARD (R86); the reply carries the guard levels on OK and on GUARD. -/
def takeAckGuard (s : State) : Served :=
  if s.guards.curtainBroken then refuse .guard (guardLevels s.guards) s
  else
    let t := s.onGuards fun g => { g with curtainLatch := false }
    okay (guardLevels t.guards) t

def execAckGuard (o : Origin) (s : State) : Host.Outcome State Fault Refusal :=
  request (.ackGuard o) o takeAckGuard s

end Sys2Proof.Machine
end

