-- ==== Sys2Proof/Machine/StationRequests.lean ====
section
/-! DEFINITION. StationRequests: the requests of the Settings Store and of Station Control (chapters 9 and 10). -/

namespace Sys2Proof.Machine

/-! ### SET SETTING, READ SETTING -/

/-- SET SETTING (R168); the reply carries the sum after the write. -/
def takeSetSetting (index : Nat) (value : Word) (s : State) : Served :=
  if s.station.mode ≠ .maintenance then refuse .mode [] s
  else
    let words := Vec.put s.settings.words index value
    okay
      (be 1 index ++ be 4 (s.word index).toNat ++ be 4 value.toNat ++ be 4 (settingsSum words))
      (s.onSettings fun t => { t with words := words })

def execSetSetting (o : Origin) (index : Nat) (value : Word) (s : State) : Host.Outcome State Fault Refusal :=
  request (.setSetting o index value) o (takeSetSetting index value) s

/-- READ SETTING (R169). -/
def takeReadSetting (index : Nat) (s : State) : Served :=
  okay
    (be 1 index ++ be 4 (s.word index).toNat ++ flag (settingSigned index) ++
      flag (settingInRange index (s.word index)) ++ be 1 (settingsStateCode s.settings.state) ++
      be 4 s.settings.lastSum) s

def execReadSetting (o : Origin) (index : Nat) (s : State) : Host.Outcome State Fault Refusal :=
  request (.readSetting o index) o (takeReadSetting index) s

/-! ### ENTER READY, ENTER MAINTENANCE, HALT, CLEAR HALT -/

/-- A verification that passes makes the settings GOOD; a change from FAULT is posted (R172, R173). -/
def State.settingsGood (source : SettingsSource) (sum : Nat) (s : State) : State :=
  let t := s.onSettings fun t => { t with state := .good, lastSum := sum }
  if s.settings.state = .fault then t.post (.settingsChanged .fault .good source sum) else t

/-- The stop key's latch is cleared while the key is RELEASED (R88, R176). -/
def Guards.clearStopLatch (g : Guards) : Guards := if g.stopPressed then g else { g with stopLatch := false }

/-- ENTER READY (R173, R176). -/
def takeEnterReady (s : State) : Served :=
  let sum := settingsSum s.settings.words
  if s.station.mode ≠ .maintenance then refuse .mode [] s
  else if sum ≠ Config.goodSum then refuse .settingsFault (be 1 0 ++ be 4 sum) s
  else
    match firstOutOfRange s.settings.words with
    | some index => refuse .settingsFault (be 1 1 ++ be 4 index) s
    | none =>
      let t := ((s.settingsGood .enterReady sum).onGuards Guards.clearStopLatch).setMode .ready .enterReady
      okay
        (be 1 (modeCode t.station.mode) ++ be 1 (settingsStateCode t.settings.state) ++ be 4 t.settings.lastSum ++
          guardLevels t.guards) t

def execEnterReady (o : Origin) (s : State) : Host.Outcome State Fault Refusal :=
  request (.enterReady o) o takeEnterReady s

/-- ENTER MAINTENANCE (R177). -/
def takeEnterMaintenance (s : State) : Served :=
  if s.station.mode = .maintenance then refuse .mode [] s
  else if s.mountedSlot ≠ none then refuse .state [] s
  else okay (be 1 (modeCode .maintenance)) (s.setMode .maintenance .enterMaintenance)

def execEnterMaintenance (o : Origin) (s : State) : Host.Outcome State Fault Refusal :=
  request (.enterMaintenance o) o takeEnterMaintenance s

/-- HALT (R178). -/
def takeHalt (s : State) : Served :=
  match s.station.mode with
  | .maintenance => refuse .mode [] s
  | .halted => okay (be 1 (modeCode .halted)) s
  | .ready => okay (be 1 (modeCode .halted)) (s.enterHalted .halt)

def execHalt (o : Origin) (s : State) : Host.Outcome State Fault Refusal := request (.halt o) o takeHalt s

/-- CLEAR HALT (R179). -/
def takeClearHalt (s : State) : Served :=
  if s.station.mode ≠ .halted then refuse .mode [] s
  else if s.guards.stopPressed then refuse .guard [] s
  else if s.settings.state ≠ .good then refuse .settingsFault [] s
  else
    let t := (s.onGuards fun g => { g with stopLatch := false }).setMode .ready .clearHalt
    okay (be 1 (modeCode t.station.mode) ++ guardLevels t.guards) t

def execClearHalt (o : Origin) (s : State) : Host.Outcome State Fault Refusal :=
  request (.clearHalt o) o takeClearHalt s

/-! ### RESTART -/

/-- RESTART is refused: a turn, a SETTLING or a recovery runs, or a leaf is on the wand in HOLDING or FAULT
(R75, R180). -/
def Cradle.refusesRestart (c : Cradle) : Bool :=
  c.state == .turning || c.state == .settling || c.state == .recovering ||
    ((c.state == .holding || c.state == .fault) && c.leafOnWand)

/-- The descriptors outside FREE, in index order (R129). -/
def Frames.outside (f : Frames) : List Nat := (List.range 256).filter fun i => f.holder i != .free

/-- Every descriptor is in FREE, the returning ones appended in index order (R129). -/
def Frames.restart (f : Frames) : Frames where
  pool := f.pool
  free := f.free ++ f.outside
  planned := []
  slot := []
  completed := []
  verdict := []

/-- Every frames open of a leaf record becomes 0 (R19, R26). -/
def LeafRecord.noFrames (r : LeafRecord) : LeafRecord :=
  { r with verso := { r.verso with framesOpen := 0 }, recto := { r.recto with framesOpen := 0 } }

/-- Every frames open of the Custody Unit becomes 0; all else is kept (R26, R28). -/
def Custody.noFrames (c : Custody) : Custody :=
  { c with
    entries := Vec.each c.entries fun e => { e with framesOpen := 0 }
    leaves := c.leaves.map fun p => (p.1, p.2.noFrames) }

/-- The notice queue is emptied and the notices-lost flag cleared (R182). -/
def Port.emptied (p : Port) : Port := { p with notices := [], lost := false }

/-- The three notice queues are emptied (R182). -/
def Links.emptied (l : Links) : Links where
  conservation := l.conservation.emptied
  capture := l.capture.emptied
  accounting := l.accounting.emptied

/-- The sweep record after a RESTART (R143). -/
def Sweep.restart (w : Sweep) : Sweep :=
  { w with state := .idle, stage := none, buildPending := false, lastEnd := none }

/-- A camera port after a RESTART (R144). -/
def CameraPort.restart (p : CameraPort) : CameraPort :=
  { p with trigger := false, readyTimer := none, confirmTimer := none }

/-- The walker after a RESTART: plan and counters kept (R140, R143, R144, R162). -/
def Walker.restart (w : Walker) : Walker :=
  { w with sweep := w.sweep.restart, left := w.left.restart, right := w.right.restart }

/-- The Dose Meter after a RESTART: the preview accumulator kept (R107). -/
def Meter.restart (m : Meter) : Meter := { m with running := none, irradiance := 0, exposure := none }

/-- A RESTART at every block but the mounted volume, the notices and the mode: the light is out (R104), the meter
IDLE, every descriptor in FREE, the sweep IDLE, the approval slot empty, the notice queues empty (R181). -/
def State.restartBlocks (s : State) : State :=
  let s := (s.endPreview .restart).putOut.onMeter Meter.restart
  let s := ((s.onFrames Frames.restart).onCustody Custody.noFrames).onWalker Walker.restart
  (s.onCradle fun c => { c.discardWork with approval := none }).onLinks Links.emptied

/-- A MOUNTED entry is held with cause RESTART and parked (R26, R75). DEDUCED: where its PARKING arrives in the event
of the restart, VOLUME DISMOUNTED takes its place by the order of R190, before MODE CHANGED (log 30). -/
def State.restartMounted (s : State) : State :=
  match s.mountedSlot with
  | none => s
  | some slot => (s.onEntry slot fun e => { e with hold := some .restart }).parkMounted slot

/-- The mode and last reset kind after a RESTART, with RESTARTED and MODE CHANGED (R181, R182). -/
def State.restartStation (returned : Nat) (volume : Option VolumeName) (s : State) : State :=
  let old := s.station.mode
  let t := (s.post (.restarted old volume returned)).onStation fun t => { t with lastReset := .restart }
  if old = .maintenance then t else t.setMode .maintenance .restart

/-- The effect of an accepted RESTART (R181, R182). -/
def State.restart (s : State) : State :=
  s.restartBlocks.restartMounted.restartStation s.frames.outside.length s.mountedVolume

/-- RESTART (R180). -/
def takeRestart (s : State) : Served :=
  if s.cradle.refusesRestart then refuse .cradleBusy [] s
  else
    okay (be 1 (modeCode s.station.mode) ++ volumeBytes s.mountedVolume ++ be 2 s.frames.outside.length) s.restart

def execRestart (o : Origin) (s : State) : Host.Outcome State Fault Refusal :=
  request (.restart o) o takeRestart s

/-! ### READ STATUS -/

/-- READ STATUS (R183). -/
def takeReadStatus (s : State) : Served := okay (statusBytes s) s

def execReadStatus (o : Origin) (s : State) : Host.Outcome State Fault Refusal :=
  request (.readStatus o) o takeReadStatus s

end Sys2Proof.Machine
end

