-- ==== Sys2Proof/Machine/InputEvents.lean ====
section
/-! DEFINITION. InputEvents: the changes of the guard, mechanism and camera inputs, the oscillator, and an upset of
the settings store. A change to the level that already stands changes nothing (log 5). -/

namespace Sys2Proof.Machine

/-! ### Guards -/

/-- The curtain input changes to BROKEN (R84, R85): the latch is set and the trip delivered; GUARD TRIPPED is posted
when the latch was clear. -/
def State.curtainBreaks (s : State) : State :=
  let t := (s.onGuards fun g => { g with curtainBroken := true, curtainLatch := true }).curtainTrip
  if s.guards.curtainLatch then t else t.post (.guardTripped .curtain t.station.mode)

def execCurtainBroken (s : State) : Host.Outcome State Fault Refusal :=
  event (fun s => if s.guards.curtainBroken then s else s.curtainBreaks) s

/-- CURTAIN CLEAR (R84): the live level alone changes. -/
def execCurtainClear (s : State) : Host.Outcome State Fault Refusal :=
  event (State.onGuards fun g => { g with curtainBroken := false }) s

/-- The stop key changes to PRESSED (R87): the latch is set; in READY the station becomes HALTED; GUARD TRIPPED is
posted when the latch was clear, with the mode after the press. -/
def State.stopKeyPressed (s : State) : State :=
  let t := s.onGuards fun g => { g with stopPressed := true, stopLatch := true }
  let t := if s.station.mode = .ready then t.enterHalted .stopKey else t
  if s.guards.stopLatch then t else t.post (.guardTripped .stopKey t.station.mode)

def execStopKeyPress (s : State) : Host.Outcome State Fault Refusal :=
  event (fun s => if s.guards.stopPressed then s else s.stopKeyPressed) s

/-- STOP KEY RELEASE (R87): the live level alone changes. -/
def execStopKeyRelease (s : State) : Host.Outcome State Fault Refusal :=
  event (State.onGuards fun g => { g with stopPressed := false }) s

/-! ### The mechanism (R49) -/

/-- ANGLE CHANGE (R50, R51). -/
def execAngleChange (degrees : Nat) (s : State) : Host.Outcome State Fault Refusal :=
  event
    (fun s =>
      if s.cradle.sensors.angle = degrees then s
      else (s.onSensors fun m => { m with angle := degrees }).angleTaken) s

/-- WAND DOWN CHANGE (R51, R60, R61, R63, R64, R65, R72). -/
def execWandDownChange (level : Bool) (s : State) : Host.Outcome State Fault Refusal :=
  event
    (fun s =>
      if s.cradle.sensors.wandDown = level then s
      else (s.onSensors fun m => { m with wandDown := level }).wandDownTaken level) s

/-- VACUUM HELD CHANGE (R61, R63, R64, R66, R67, R69). -/
def execVacuumHeldChange (level : Bool) (s : State) : Host.Outcome State Fault Refusal :=
  event
    (fun s =>
      if s.cradle.sensors.vacuumHeld = level then s
      else (s.onSensors fun m => { m with vacuumHeld := level }).vacuumHeldTaken level) s

/-- ARM FAR CHANGE (R64). -/
def execArmFarChange (level : Bool) (s : State) : Host.Outcome State Fault Refusal :=
  event
    (fun s =>
      if s.cradle.sensors.armFar = level then s
      else (s.onSensors fun m => { m with armFar := level }).armFarTaken level) s

/-- ARM REST CHANGE (R51, R60, R65, R72). -/
def execArmRestChange (level : Bool) (s : State) : Host.Outcome State Fault Refusal :=
  event
    (fun s =>
      if s.cradle.sensors.armRest = level then s
      else (s.onSensors fun m => { m with armRest := level }).armRestTaken) s

/-- OSCILLATOR CYCLE (R77). -/
def execOscillatorCycle (s : State) : Host.Outcome State Fault Refusal := event (State.onGauge Gauge.cycle) s

/-! ### The cameras -/

/-- CAMERA READY CHANGE (R149). -/
def execCameraReadyChange (camera : Camera) (level : Bool) (s : State) : Host.Outcome State Fault Refusal :=
  event
    (fun s =>
      if (s.walker.port camera).ready = level then s
      else (s.onCamera camera fun p => { p with ready := level }).readyTaken camera) s

/-- DONE EDGE (R152). -/
def execDoneEdge (camera : Camera) (s : State) : Host.Outcome State Fault Refusal :=
  event (State.doneTaken camera) s

/-! ### The settings store -/

/-- STORE UPSET (R165): a word changes outside SET SETTING; the verification finds it later (R170). -/
def execStoreUpset (index : Nat) (value : Word) (s : State) : Host.Outcome State Fault Refusal :=
  event (State.onSettings fun t => { t with words := Vec.put t.words index value }) s

end Sys2Proof.Machine
end

