-- ==== Sys2Proof/Machine/LeafRequests.lean ====
section
/-! DEFINITION. LeafRequests: the requests of the leaf register (chapter 2). -/

namespace Sys2Proof.Machine

/-- The reply of MARK LEAF, read after the change (R40). -/
def markReply (slot leaf : Nat) (old mark : LeafMark) (s : State) : List Byte :=
  let e := s.entry slot
  be 2 leaf ++ be 1 (markCode old) ++ be 1 (markCode mark) ++ flag (leafComplete e.required (s.leaf slot leaf)) ++
    be 2 e.leavesComplete ++ be 2 e.damageMarks

/-- MARK LEAF (R39, R40). -/
def takeMarkLeaf (slot generation leaf : Nat) (mark : LeafMark) (s : State) : Served :=
  s.named slot generation fun e =>
    if e.leafCount ≤ leaf then refuse .leafBounds (be 2 e.leafCount) s
    else if s.isCurrentLeaf slot leaf then refuse .cradleBusy [] s
    else
      let t := s.setMark slot leaf mark
      okay (markReply slot leaf (s.leaf slot leaf).mark mark t) t

def execMarkLeaf (o : Origin) (slot generation leaf : Nat) (mark : LeafMark) (s : State) :
    Host.Outcome State Fault Refusal :=
  request (.markLeaf o slot generation leaf mark) o (takeMarkLeaf slot generation leaf mark) s

/-- SET REQUIREMENT (R45): the set is replaced and leaves complete recounted. -/
def takeSetRequirement (slot generation : Nat) (bands : BandSet) (s : State) : Served :=
  s.named slot generation fun e =>
    let complete := s.custody.countComplete e bands
    okay (be 1 bands.toNat ++ be 2 complete)
      (s.onEntry slot fun e => { e with required := bands, leavesComplete := complete })

def execSetRequirement (o : Origin) (slot generation : Nat) (bands : BandSet) (s : State) :
    Host.Outcome State Fault Refusal :=
  request (.setRequirement o slot generation bands) o (takeSetRequirement slot generation bands) s

/-- A face of a leaf of the volume in a slot is a visible leaf face (R35, R47). -/
def State.isVisible (s : State) (slot leaf : Nat) (side : Side) : Bool :=
  (s.entry slot).state == .mounted && decide ((⟨leaf, side⟩ : VisibleFace) ∈ s.visible)

/-- READ LEAF (R47). -/
def takeReadLeaf (slot leaf : Nat) (s : State) : Served :=
  let e := s.entry slot
  if e.state = .free then refuse .state [] s
  else if e.leafCount ≤ leaf then refuse .leafBounds (be 2 e.leafCount) s
  else
    let r := s.leaf slot leaf
    okay
      (leafRecordBytes slot e leaf r (leafComplete e.required r) (s.isVisible slot leaf .left)
        (s.isVisible slot leaf .right) (s.isCurrentLeaf slot leaf)) s

def execReadLeaf (o : Origin) (slot leaf : Nat) (s : State) : Host.Outcome State Fault Refusal :=
  request (.readLeaf o slot leaf) o (takeReadLeaf slot leaf) s

end Sys2Proof.Machine
end

