-- ==== Sys2Proof/Machine/LightRequests.lean ====
section
/-! DEFINITION. LightRequests: PREVIEW ON and PREVIEW OFF (chapter 5). -/

namespace Sys2Proof.Machine

/-- Bank 0 is LIT by the preview at a level, and the preview record is ON with it (R96, R98). -/
def Lights.previewAt (level : Nat) (l : Lights) : Lights :=
  { l with banks := Vec.put l.banks 0 (.lit level .preview), preview := some level }

/-- The preview begins (R98): metering starts (R91) and the preview accumulator is set up for the visible faces
(R115). -/
def State.startPreview (slot level : Nat) (s : State) : State :=
  (s.onLights (Lights.previewAt level)).onMeter fun m =>
    { m with
      running := some { bank := 0, owner := .preview }
      preview :=
        some { charged := 0, dose := 0, volume := ⟨slot, (s.entry slot).generation⟩, faces := s.visible } }

/-- A granted PREVIEW ON (R98): a lit preview changes its level, metering and accumulated dose kept. -/
def State.grantPreview (slot level : Nat) (s : State) : State :=
  if s.lights.preview = none then s.startPreview slot level else s.onLights (Lights.previewAt level)

/-- The DOSE_BUDGET refusal body of PREVIEW ON (R97). -/
def doseBudgetBytes (slot : Nat) (v : VisibleFace) (s : State) : List Byte :=
  be 1 slot ++ be 2 v.leaf ++ be 1 (sideCode v.side) ++ be 4 (s.custody.doseOf (s.entry slot) v) ++
    be 4 (s.entry slot).budget

/-- PREVIEW ON (R97, R98). -/
def takePreviewOn (level : Nat) (s : State) : Served :=
  if s.station.mode ≠ .ready then refuse .mode [] s
  else
    match s.mountedSlot with
    | none => refuse .noVolume [] s
    | some slot =>
      if s.settings.state ≠ .good then refuse .settingsFault [] s
      else if s.cradle.state ≠ .openReady then refuse .cradleBusy [] s
      else if s.walker.sweep.state ≠ .idle then refuse .openingBusy [] s
      else if s.guards.clear = false then refuse .guard [] s
      else
        match s.faceAtBudget with
        | some v => refuse .doseBudget (doseBudgetBytes slot v s) s
        | none =>
          if s.previewCap < level then refuse .badArgument [] s
          else okay (be 2 level) (s.grantPreview slot level)

def execPreviewOn (o : Origin) (level : Nat) (s : State) : Host.Outcome State Fault Refusal :=
  request (.previewOn o level) o (takePreviewOn level) s

/-- The end report of the preview accumulator (R99, R115). DESIGN CHOICE: with the accumulator absent the intervals
charged and the dose, of four bytes each, are sent as 0 with a face count of 0 (log 22). -/
def previewReport : Option PreviewAccumulator → List Byte
  | none => be 4 0 ++ be 4 0 ++ be 1 0
  | some a =>
    be 4 a.charged ++ be 4 a.dose ++ be 1 a.faces.length ++
      a.faces.flatMap fun v => be 1 a.volume.slot ++ be 2 v.leaf ++ be 1 (sideCode v.side)

/-- PREVIEW OFF (R99). -/
def takePreviewOff (s : State) : Served :=
  let t := s.endPreview .request
  okay
    (flag s.lights.preview.isSome ++ opt1 (t.lights.lastEnd.map previewEndCode) ++ previewReport t.meter.preview) t

def execPreviewOff (o : Origin) (s : State) : Host.Outcome State Fault Refusal :=
  request (.previewOff o) o takePreviewOff s

end Sys2Proof.Machine
end

