-- ==== Sys2Proof/Machine/LinkCommands.lean ====
section
/-! DEFINITION. LinkCommands: the frames of the station links, TAKE NOTICES, and the device reset (chapter 11,
R175). -/

namespace Sys2Proof.Machine

/-! ### DEVICE_RESET -/

/-- A camera port after a device reset: READY follows its input (R144, log 7). -/
def CameraPort.afterReset (p : CameraPort) : CameraPort := { CameraPort.initial with ready := p.ready }

/-- Every block at its reset values; the levels of the inputs and the waiting commands stand (log 7), and a guard
latch is set where its input is BROKEN or PRESSED at the reset (R84, R87). All drives are stopped (R48). -/
def State.cleared (s : State) : State where
  station := State.reset.station
  settings := State.reset.settings
  custody := State.reset.custody
  cradle :=
    { State.reset.cradle with
      timers := .stopped
      sensors := s.cradle.sensors
      outputs := { angleDrive := .stopped, armDrive := .stopped, wandDrive := .stopped, vacuumOpen := false, airKnife := none } }
  gauge := State.reset.gauge
  guards :=
    { curtainBroken := s.guards.curtainBroken, curtainLatch := s.guards.curtainBroken,
      stopPressed := s.guards.stopPressed, stopLatch := s.guards.stopPressed }
  lights := State.reset.lights
  meter := State.reset.meter
  frames := State.reset.frames
  walker :=
    { State.reset.walker with left := s.walker.left.afterReset, right := s.walker.right.afterReset }
  links := State.reset.links
  outbox := []
  pending := s.pending

/-- DEVICE RESET (R1, R4, R28, R48, R51, R53, R76, R84, R87, R90, R96, R107, R126, R129, R140, R143, R144, R165,
R170, R175, R185, R190, R193): every block at its reset values, and PARKING begins under class 1 with no parked
volume and no notice. -/
def execDeviceReset (s : State) : Host.Outcome State Fault Refusal :=
  .next (s.cleared.beginParking 1 none)

/-! ### REQUEST_FRAME_COMPLETE -/

/-- The request of a link is pending and waits to be taken by its owning block (R186, R187). -/
def State.holdRequest (link : Link) (c : Instr) (s : State) : State :=
  s.onPort link fun p => { p with request := some (.untaken c) }

/-- The link-level checks of R187 on a whole frame; each failure is answered with no body. -/
def State.checkFrame (link : Link) (tag code : Byte) (body : List Byte) (check : Byte) (s : State) : State :=
  if byteSum (frameCore tag code body ++ [check]) ≠ 0 then s.reply link tag code .badFrame []
  else if codeKnown code.toNat = false then s.reply link tag code .unknownRequest []
  else if codePermitted code.toNat link = false then s.reply link tag code .notPermitted []
  else
    match decodeBody { link := link, tag := tag } code.toNat body with
    | none => s.reply link tag code .badArgument []
    | some c => s.holdRequest link c

/-- A whole frame, or one ended at a body length of 251..255, which the port answers with BAD_FRAME before it
discards bytes (R185). -/
def State.takeFrame (link : Link) (frame : Frame) (s : State) : State :=
  match frame with
  | .whole tag code body check =>
    (s.receiving link .outside).arrive link tag code fun s => s.checkFrame link tag code body check
  | .overlong tag code _ =>
    (s.receiving link .discarding).arrive link tag code fun s => s.reply link tag code .badFrame []

/-- REQUEST FRAME COMPLETE (R185, R186, R187). A port that discards bytes receives no frame (log 17). -/
def execRequestFrameComplete (link : Link) (frame : Frame) (s : State) : Host.Outcome State Fault Refusal :=
  event (fun s => if (s.port link).reception = .discarding then s else s.takeFrame link frame) s

/-! ### REPLY_SENT, LINK_IDLE_TIMEOUT, START_BYTE -/

/-- The last byte of the reply being sent has gone (R186): a LINK_BUSY reply in sending is done; else an answered
request stops being pending and a waiting LINK_BUSY reply follows. With no reply in sending nothing happens. -/
def Port.replySent (p : Port) : Port :=
  match p.busy, p.request with
  | some { sending := true, .. }, _ => { p with busy := none }
  | busy, some (.answered _) =>
    { p with request := none, busy := busy.map fun b => { b with sending := true } }
  | _, _ => p

/-- REPLY SENT (R186). -/
def execReplySent (link : Link) (s : State) : Host.Outcome State Fault Refusal :=
  event (State.onPort link Port.replySent) s

/-- LINK IDLE TIMEOUT (R185): a partial frame is abandoned without a reply, and discarding ends. -/
def execLinkIdleTimeout (link : Link) (s : State) : Host.Outcome State Fault Refusal :=
  event (State.receiving link .outside) s

/-- START BYTE (R185): outside a frame it begins one. -/
def execStartByte (link : Link) (s : State) : Host.Outcome State Fault Refusal :=
  event (fun s => if (s.port link).reception = .outside then s.receiving link .inFrame else s) s

/-! ### TAKE NOTICES -/

/-- How many notices a reply takes from the head of a queue: at most `largest`, and no more than fit in `room`
bytes (R192). -/
def noticesTaken : Nat → Nat → List Notice → Nat
  | 0, _, _ => 0
  | _, _, [] => 0
  | largest + 1, room, n :: rest =>
    if n.record.length ≤ room then noticesTaken largest (room - n.record.length) rest + 1 else 0

/-- The bytes of a reply body that notice records may take: 250 less the count, the flag and the number left. -/
abbrev noticeRoom : Nat := Config.longestBody - 3

/-- TAKE NOTICES at its link port (R192). -/
def takeNotices (link : Link) (largest : Nat) (s : State) : Served :=
  let p := s.port link
  let n := noticesTaken largest noticeRoom p.notices
  okay
    (be 1 n ++ flag p.lost ++ be 1 (p.notices.length - n) ++ (p.notices.take n).flatMap Notice.record)
    (s.onPort link fun p => { p with notices := p.notices.drop n, lost := false })

def execTakeNotices (o : Origin) (largest : Nat) (s : State) : Host.Outcome State Fault Refusal :=
  request (.takeNotices o largest) o (takeNotices o.link largest) s

end Sys2Proof.Machine
end

