-- ==== Sys2Proof/Machine/TimerEvents.lean ====
section
/-! DEFINITION. TimerEvents: the expiries of the timers, and the pending build. An expiry whose timer does not run
changes nothing (log 3). -/

namespace Sys2Proof.Machine

/-! ### The Cradle Unit and the Leaf Gauge -/

/-- ANGLE TIMER EXPIRY (R52). -/
def execAngleTimerExpiry (s : State) : Host.Outcome State Fault Refusal := event State.angleTimeout s

/-- An expiry of a timer of the turn in progress acts while the turn is TURNING and the timer runs (R59). -/
def State.turnExpiry (running : CradleTimers → Option Nat) (act : State → State) (s : State) : State :=
  if s.cradle.state = .turning ∧ running s.cradle.timers ≠ none then act s else s

/-- A phase timeout faults the turn with TIMEOUT in its phase (R59, R66). -/
def State.phaseTimeout (s : State) : State :=
  s.turnFault .timeout ((s.cradle.turn.map (·.phase)).getD .baseline)

/-- LIFT TIMEOUT (R59): in BASELINE, LIFT or DROP. -/
def execLiftTimeout (s : State) : Host.Outcome State Fault Refusal :=
  event (State.turnExpiry (·.lift) State.phaseTimeout) s

/-- CARRY TIMEOUT (R59): in CARRY or RETURN. -/
def execCarryTimeout (s : State) : Host.Outcome State Fault Refusal :=
  event (State.turnExpiry (·.carry) State.phaseTimeout) s

/-- LAY TIMEOUT (R59): in LAY. -/
def execLayTimeout (s : State) : Host.Outcome State Fault Refusal :=
  event (State.turnExpiry (·.lay) State.phaseTimeout) s

/-- SETTLE TIMER EXPIRY (R65). -/
def execSettleTimerExpiry (s : State) : Host.Outcome State Fault Refusal :=
  event (State.turnExpiry (·.settle) State.settleEnd) s

/-- PICK CONFIRM TIMEOUT (R62): a DROP that ends in a NO_CONFIRM fault. -/
def execPickConfirmTimeout (s : State) : Host.Outcome State Fault Refusal :=
  event (State.turnExpiry (·.pickConfirm) (State.enterDrop .unconfirmed)) s

/-- RECOVERY TIMER EXPIRY (R72). -/
def execRecoveryTimerExpiry (s : State) : Host.Outcome State Fault Refusal := event State.recoveryTimeout s

/-- GAUGE GATE EXPIRY (R77, R78, R79). -/
def execGaugeGateExpiry (s : State) : Host.Outcome State Fault Refusal := event State.gateEnd s

/-! ### The Dose Meter and the camera ports -/

/-- METERING INTERVAL EXPIRY with the raw reading sampled (R109 to R112, log 26). -/
def execMeteringIntervalExpiry (raw : BitVec 16) (s : State) : Host.Outcome State Fault Refusal :=
  event (State.meterExpiry raw.toNat) s

/-- CAMERA READY TIMEOUT (R149). -/
def execCameraReadyTimeout (camera : Camera) (s : State) : Host.Outcome State Fault Refusal :=
  event (State.readyTimeout camera) s

/-- CAMERA CONFIRM TIMEOUT (R153). -/
def execCameraConfirmTimeout (camera : Camera) (s : State) : Host.Outcome State Fault Refusal :=
  event (State.confirmTimeout camera) s

/-! ### The Settings Store -/

/-- A verification's sum becomes the last sum; the state found is delivered when it differs (R170, R171, R172). -/
def State.verify (s : State) : State :=
  let sum := settingsSum s.settings.words
  let t := s.onSettings fun t => { t with lastSum := sum }
  match stateOfSum sum, s.settings.state with
  | .good, .fault => t.settingsGood .periodic sum
  | .fault, .good => (t.onSettings fun t => { t with state := .fault }).settingsFault .periodic
  | .good, .good => t
  | .fault, .fault => t

/-- VERIFICATION TIMER EXPIRY (R170). -/
def execVerificationTimerExpiry (s : State) : Host.Outcome State Fault Refusal := event State.verify s

/-! ### The Sweep Walker -/

/-- PENDING BUILD (R147): once FREE holds enough descriptors, the build and the start of its exposure are made. -/
def execPendingBuild (s : State) : Host.Outcome State Fault Refusal := event State.tryPendingBuild s

end Sys2Proof.Machine
end

