-- ==== Sys2Proof/Machine/Dispatch.lean ====
section
/-! DEFINITION. Dispatch: one arm per command. -/

namespace Sys2Proof.Machine

def exec (i : Instr) (s : State) : Host.Outcome State Fault Refusal :=
  match i with
  | .deviceReset => Sys2Proof.Machine.execDeviceReset s
  | .requestFrameComplete link frame => Sys2Proof.Machine.execRequestFrameComplete link frame s
  | .replySent link => Sys2Proof.Machine.execReplySent link s
  | .linkIdleTimeout link => Sys2Proof.Machine.execLinkIdleTimeout link s
  | .checkIn o shelfMark designation accession leafCount => Sys2Proof.Machine.execCheckIn o shelfMark designation accession leafCount s
  | .setHandling o slot generation handlingClass angleLimit faceBudget => Sys2Proof.Machine.execSetHandling o slot generation handlingClass angleLimit faceBudget s
  | .setBudget o slot generation faceBudget => Sys2Proof.Machine.execSetBudget o slot generation faceBudget s
  | .hold o slot generation => Sys2Proof.Machine.execHold o slot generation s
  | .unhold o slot generation => Sys2Proof.Machine.execUnhold o slot generation s
  | .waive o slot generation reason => Sys2Proof.Machine.execWaive o slot generation reason s
  | .mount o slot generation opening => Sys2Proof.Machine.execMount o slot generation opening s
  | .dismount o slot generation => Sys2Proof.Machine.execDismount o slot generation s
  | .release o slot generation => Sys2Proof.Machine.execRelease o slot generation s
  | .listCustody o firstSlot => Sys2Proof.Machine.execListCustody o firstSlot s
  | .readCustody o slot => Sys2Proof.Machine.execReadCustody o slot s
  | .markLeaf o slot generation leaf mark => Sys2Proof.Machine.execMarkLeaf o slot generation leaf mark s
  | .setRequirement o slot generation bands => Sys2Proof.Machine.execSetRequirement o slot generation bands s
  | .readLeaf o slot leaf => Sys2Proof.Machine.execReadLeaf o slot leaf s
  | .turn o direction count requestedClass => Sys2Proof.Machine.execTurn o direction count requestedClass s
  | .approveTurn o slot generation leaf => Sys2Proof.Machine.execApproveTurn o slot generation leaf s
  | .resume o => Sys2Proof.Machine.execResume o s
  | .recoverTurn o opening => Sys2Proof.Machine.execRecoverTurn o opening s
  | .clearReference o slot generation => Sys2Proof.Machine.execClearReference o slot generation s
  | .confirmPick o slot leaf => Sys2Proof.Machine.execConfirmPick o slot leaf s
  | .rejectPick o slot leaf => Sys2Proof.Machine.execRejectPick o slot leaf s
  | .ackGuard o => Sys2Proof.Machine.execAckGuard o s
  | .previewOn o level => Sys2Proof.Machine.execPreviewOn o level s
  | .previewOff o => Sys2Proof.Machine.execPreviewOff o s
  | .takeFrames o largest => Sys2Proof.Machine.execTakeFrames o largest s
  | .acceptFrame o index generation => Sys2Proof.Machine.execAcceptFrame o index generation s
  | .rejectFrame o index generation => Sys2Proof.Machine.execRejectFrame o index generation s
  | .setPlanEntry o index cameras bank level duration => Sys2Proof.Machine.execSetPlanEntry o index cameras bank level duration s
  | .setPlanLength o length => Sys2Proof.Machine.execSetPlanLength o length s
  | .readPlan o index => Sys2Proof.Machine.execReadPlan o index s
  | .captureOpening o mode => Sys2Proof.Machine.execCaptureOpening o mode s
  | .closeOpening o => Sys2Proof.Machine.execCloseOpening o s
  | .stopSweep o => Sys2Proof.Machine.execStopSweep o s
  | .setSetting o index value => Sys2Proof.Machine.execSetSetting o index value s
  | .readSetting o index => Sys2Proof.Machine.execReadSetting o index s
  | .enterReady o => Sys2Proof.Machine.execEnterReady o s
  | .enterMaintenance o => Sys2Proof.Machine.execEnterMaintenance o s
  | .halt o => Sys2Proof.Machine.execHalt o s
  | .clearHalt o => Sys2Proof.Machine.execClearHalt o s
  | .restart o => Sys2Proof.Machine.execRestart o s
  | .readStatus o => Sys2Proof.Machine.execReadStatus o s
  | .takeNotices o largest => Sys2Proof.Machine.execTakeNotices o largest s
  | .curtainBroken => Sys2Proof.Machine.execCurtainBroken s
  | .curtainClear => Sys2Proof.Machine.execCurtainClear s
  | .stopKeyPress => Sys2Proof.Machine.execStopKeyPress s
  | .stopKeyRelease => Sys2Proof.Machine.execStopKeyRelease s
  | .angleChange degrees => Sys2Proof.Machine.execAngleChange degrees s
  | .wandDownChange level => Sys2Proof.Machine.execWandDownChange level s
  | .vacuumHeldChange level => Sys2Proof.Machine.execVacuumHeldChange level s
  | .armFarChange level => Sys2Proof.Machine.execArmFarChange level s
  | .armRestChange level => Sys2Proof.Machine.execArmRestChange level s
  | .cameraReadyChange camera level => Sys2Proof.Machine.execCameraReadyChange camera level s
  | .doneEdge camera => Sys2Proof.Machine.execDoneEdge camera s
  | .storeUpset index value => Sys2Proof.Machine.execStoreUpset index value s
  | .angleTimerExpiry => Sys2Proof.Machine.execAngleTimerExpiry s
  | .liftTimeout => Sys2Proof.Machine.execLiftTimeout s
  | .carryTimeout => Sys2Proof.Machine.execCarryTimeout s
  | .layTimeout => Sys2Proof.Machine.execLayTimeout s
  | .settleTimerExpiry => Sys2Proof.Machine.execSettleTimerExpiry s
  | .pickConfirmTimeout => Sys2Proof.Machine.execPickConfirmTimeout s
  | .recoveryTimerExpiry => Sys2Proof.Machine.execRecoveryTimerExpiry s
  | .gaugeGateExpiry => Sys2Proof.Machine.execGaugeGateExpiry s
  | .meteringIntervalExpiry raw => Sys2Proof.Machine.execMeteringIntervalExpiry raw s
  | .cameraReadyTimeout camera => Sys2Proof.Machine.execCameraReadyTimeout camera s
  | .cameraConfirmTimeout camera => Sys2Proof.Machine.execCameraConfirmTimeout camera s
  | .verificationTimerExpiry => Sys2Proof.Machine.execVerificationTimerExpiry s
  | .pendingBuild => Sys2Proof.Machine.execPendingBuild s
  | .startByte link => Sys2Proof.Machine.execStartByte link s
  | .oscillatorCycle => Sys2Proof.Machine.execOscillatorCycle s

end Sys2Proof.Machine
end

