-- ==== Sys2Proof/Machine/Step.lean ====
section
/-! DEFINITION. Step: the command at the front of the queue is taken, whole (log 2). -/

namespace Sys2Proof.Machine

/-- One step: the front command runs on the state with the queue's rest; on an empty queue the part idles. -/
def step (s : State) : Host.Outcome State Fault Refusal :=
  match s.pending with
  | [] => .next s
  | c :: rest => exec c (s.withPending rest)

/-- The state with the command a table word spells at the front of its queue; the table gives no row any bits, so
no word spells one and the state is unchanged. -/
def State.withFetchWord (s : State) (nbits w : Nat) : State :=
  match decodeTableWord nbits w with
  | none => s
  | some c => s.withPending (c :: s.pending)

end Sys2Proof.Machine
end

