-- ==== Sys2Proof/Safety.lean ====
section
/-! DEFINITION. Safety: the words the statements use: a port that takes a request, a state between two commands,
and the invariants of the part. -/

namespace Sys2Proof

/-- The link and tag of a request command; an event that no link sends has none. -/
def Instr.origin : Instr → Option Origin
  | .checkIn o .. => some o
  | .setHandling o .. => some o
  | .setBudget o .. => some o
  | .hold o .. => some o
  | .unhold o .. => some o
  | .waive o .. => some o
  | .mount o .. => some o
  | .dismount o .. => some o
  | .release o .. => some o
  | .listCustody o .. => some o
  | .readCustody o .. => some o
  | .markLeaf o .. => some o
  | .setRequirement o .. => some o
  | .readLeaf o .. => some o
  | .turn o .. => some o
  | .approveTurn o .. => some o
  | .resume o => some o
  | .recoverTurn o .. => some o
  | .clearReference o .. => some o
  | .confirmPick o .. => some o
  | .rejectPick o .. => some o
  | .ackGuard o => some o
  | .previewOn o .. => some o
  | .previewOff o => some o
  | .takeFrames o .. => some o
  | .acceptFrame o .. => some o
  | .rejectFrame o .. => some o
  | .setPlanEntry o .. => some o
  | .setPlanLength o .. => some o
  | .readPlan o .. => some o
  | .captureOpening o .. => some o
  | .closeOpening o => some o
  | .stopSweep o => some o
  | .setSetting o .. => some o
  | .readSetting o .. => some o
  | .enterReady o => some o
  | .enterMaintenance o => some o
  | .halt o => some o
  | .clearHalt o => some o
  | .restart o => some o
  | .readStatus o => some o
  | .takeNotices o .. => some o
  | _ => none

/-- The commands that change reception, the pending request or the LINK_BUSY of a link port: those of its own line, and a
device reset. -/
def Instr.touchesPort (link : Link) : Instr → Bool
  | .deviceReset => true
  | .requestFrameComplete l _ => l == link
  | .replySent l => l == link
  | .linkIdleTimeout l => l == link
  | .startByte l => l == link
  | c => c.origin.map (·.link) == some link

namespace Machine

/-! ### Between two commands -/

/-- No notice waits for the end of its event. Every step leaves the part so. -/
abbrev State.quiet (s : State) : Prop := s.outbox = []

/-- A link port that takes a new request: it does not discard bytes, no request is pending, no LINK_BUSY is held. -/
abbrev Port.idle (p : Port) : Prop := p.reception ≠ .discarding ∧ p.request = none ∧ p.busy = none

/-- A request is permitted on its link, its fields are in the link's ranges, and its port is idle (R186, R187). -/
abbrev State.accepts (s : State) (c : Instr) (o : Origin) : Prop :=
  s.quiet ∧ (s.port o.link).idle ∧ codePermitted ((requestCode c).getD 0) o.link = true ∧ linkRangeOk c = true

/-- As `accepts`, the ranges of the fields left open: what is out of range is answered BAD_ARGUMENT (R187). -/
abbrev State.offered (s : State) (c : Instr) (o : Origin) : Prop :=
  s.quiet ∧ (s.port o.link).idle ∧ codePermitted ((requestCode c).getD 0) o.link = true

/-- The state with no frame in reception on a request's link: its frame has just completed (R185). -/
def State.heard (o : Origin) (s : State) : State := s.receiving o.link .outside

/-- The reply of a request with this code (R188). -/
def State.answered (o : Origin) (code : Byte) (result : Result) (body : List Byte) (s : State) : State :=
  s.reply o.link o.tag code result body

/-- The state with notices joined to the queues of the links that receive their kinds, in the order of their kinds
(R190, R191). -/
def State.announced (notices : List Notice) (s : State) : State :=
  s.onLinks fun l =>
    { conservation := l.conservation.receive notices .conservation
      capture := l.capture.receive notices .capture
      accounting := l.accounting.receive notices .accounting }

/-- A request is answered with this result and body, and nothing else changes. -/
abbrev State.onlyAnswers (s : State) (c : Instr) (o : Origin) (result : Result) (body : List Byte) : Prop :=
  exec c s = .next ((s.heard o).answered o (codeByte c) result body)

/-- A request is answered with this result and body, and the effect it has on the rest of the state is this one. -/
abbrev State.answersWith (s : State) (c : Instr) (o : Origin) (result : Result) (body : List Byte)
    (effect : State → State) (notices : List Notice) : Prop :=
  exec c s = .next (((effect (s.heard o)).answered o (codeByte c) result body).announced notices)

/-- A lit preview has ended with a cause: bank 0 is out, metering IDLE, the preview record OFF (R95, R96, R110); with no
preview nothing has changed. -/
def State.previewEnded (cause : PreviewEnd) (s : State) : State :=
  if s.lights.preview = none then s
  else
    (s.onLights fun l => { banks := Vec.put l.banks 0 .off, preview := none, lastEnd := some cause }).onMeter fun m =>
      { m with running := none, irradiance := 0 }

/-- The blocks that a turn and its phases never touch. -/
abbrev State.sameButTurning (s t : State) : Prop :=
  t.station = s.station ∧ t.settings = s.settings ∧ t.guards = s.guards ∧ t.lights = s.lights ∧
    t.meter = s.meter ∧ t.frames = s.frames ∧ t.walker = s.walker ∧ t.pending = s.pending

/-- The blocks that light and capture never touch. -/
abbrev State.sameButCapture (s t : State) : Prop :=
  t.station = s.station ∧ t.settings = s.settings ∧ t.cradle = s.cradle ∧ t.gauge = s.gauge ∧
    t.guards = s.guards ∧ t.pending = s.pending

/-! ### The custody table and the leaf store -/

/-- The canonical form of the leaf store (log 14): indices strictly rising, each of the 4096 (R28). -/
abbrev LeafStore.wf (st : LeafStore) : Prop :=
  (st.map (·.1)).Pairwise (· < ·) ∧ ∀ p ∈ st, p.1 < Config.leafRecords

/-- Records b..b+l−1 are all free and within the store (R29). -/
abbrev LeafStore.freeRun (st : LeafStore) (b l : Nat) : Prop :=
  b + l ≤ Config.leafRecords ∧ ∀ i, i < l → LeafStore.get st (b + i) = none

/-- At most one entry is MOUNTED (R15). -/
abbrev State.oneMounted (s : State) : Prop :=
  ∀ i, i < 8 → ∀ j, j < 8 → (s.entry i).state = .mounted → (s.entry j).state = .mounted → i = j

/-- The counts of an entry agree with its leaf records: leaves complete (R43) and damage marks (R18). -/
abbrev State.countsAgree (s : State) (slot : Nat) : Prop :=
  (s.entry slot).leavesComplete = s.custody.countComplete (s.entry slot) (s.entry slot).required ∧
    (s.entry slot).damageMarks =
      (List.range (s.entry slot).leafCount).countP fun i => (s.leaf slot i).mark == .damaged

/-- An entry is not FREE. -/
abbrev State.inUse (s : State) (slot : Nat) : Prop := (s.entry slot).state ≠ .free

/-- The law of R28: the store is canonical; the extents of the non-FREE entries lie within it, do not overlap, and hold
exactly the records in use, whose number is the sum of the leaf counts. -/
structure State.extentsShareStore (s : State) : Prop where
  wf : LeafStore.wf s.custody.leaves
  within : ∀ i, i < 8 → s.inUse i → (s.entry i).extentBase + (s.entry i).leafCount ≤ Config.leafRecords
  apart : ∀ i, i < 8 → ∀ j, j < 8 → i ≠ j → s.inUse i → s.inUse j → ∀ k,
    (s.entry i).extentBase ≤ k → k < (s.entry i).extentBase + (s.entry i).leafCount →
    ¬ ((s.entry j).extentBase ≤ k ∧ k < (s.entry j).extentBase + (s.entry j).leafCount)
  held : ∀ k, LeafStore.get s.custody.leaves k ≠ none ↔
    ∃ i, i < 8 ∧ s.inUse i ∧ (s.entry i).extentBase ≤ k ∧ k < (s.entry i).extentBase + (s.entry i).leafCount
  count : s.custody.leaves.length =
    ((List.range 8).map fun i => if (s.entry i).state = .free then 0 else (s.entry i).leafCount).sum

/-! ### The frame pool -/

/-- Every descriptor is in exactly one of the five holders (R128). -/
abbrev Frames.whole (f : Frames) : Prop :=
  (f.free ++ f.planned ++ f.slot ++ f.completed ++ f.verdict).Perm (List.range 256)

/-! ### The notice queues -/

/-- Every notice queue holds at most 32 notices (R190). -/
abbrev State.noticesBounded (s : State) : Prop :=
  ∀ link : Link, (s.port link).notices.length ≤ Config.noticeDepth

/-! ### Light (R90, R92, R96) -/

/-- A bank is LIT. -/
def BankRecord.isLit : BankRecord → Bool
  | .off => false
  | .lit _ _ => true

/-- At most one bank is lit (R90). -/
abbrev Lights.oneLit (l : Lights) : Prop :=
  ∀ i, i < 8 → ∀ j, j < 8 → (Vec.at l.banks i .off).isLit = true → (Vec.at l.banks j .off).isLit = true → i = j

/-- The station is dark (R90). -/
abbrev Lights.dark (l : Lights) : Prop := ∀ i, i < 8 → Vec.at l.banks i .off = .off

/-- The preview record is ON exactly while bank 0 is LIT with owner PREVIEW, at the bank's level; no other bank is
lit by a preview (R96). -/
abbrev Lights.previewAgrees (l : Lights) : Prop :=
  (∀ level, l.preview = some level ↔ Vec.at l.banks 0 .off = .lit level .preview) ∧
    ∀ i, i < 8 → ∀ level, Vec.at l.banks i .off = .lit level .preview → i = 0

/-- The light of the part: what R90, R92 and R96 say of it, with what joins it to the meter and to the sweep. -/
structure State.LightSafe (s : State) : Prop where
  /-- at most one bank is lit (R90) -/
  one : s.lights.oneLit
  /-- the preview record agrees with bank 0 (R96) -/
  preview : s.lights.previewAgrees
  /-- a bank is lit only under the conditions of R92, no visible face at its budget among them -/
  conditions : litBank s.lights.banks ≠ none → s.lightRefusal = none
  /-- metering runs exactly while a bank is lit, with that bank and owner (R110) -/
  metered : s.meter.running = (litBank s.lights.banks).map fun b => { bank := b.1, owner := b.2.2 }
  /-- a bank lit for an exposure has its exposure in the slot, none of it CONFIRMING -/
  exposing : s.lightOwner = some .exposure →
    s.walker.sweep.state ≠ .idle ∧ s.walker.sweep.stage = some .exposing ∧ s.frames.slot ≠ [] ∧
      ∀ i ∈ s.frames.slot, (s.frame i).status ≠ .confirming
  /-- a preview is lit only while the sweep is IDLE -/
  framing : s.lightOwner = some .preview → s.walker.sweep.state = .idle
  /-- an IDLE sweep has no slot stage and no pending build, the exposure slot and PLANNED empty (R132) -/
  idle : s.walker.sweep.state = .idle →
    s.walker.sweep.stage = none ∧ s.walker.sweep.buildPending = false ∧ s.frames.slot = [] ∧ s.frames.planned = []
  /-- a pending build waits in WALKING with the slot empty -/
  waiting : s.walker.sweep.buildPending = true →
    s.walker.sweep.state = .walking ∧ s.walker.sweep.stage = none ∧ s.frames.slot = []
  /-- at most one entry is MOUNTED (R15) -/
  oneMounted : s.oneMounted
  /-- every descriptor and every plan entry names one of the eight banks (R90, R126, R140) -/
  banks : (∀ i, (s.frame i).bank < 8) ∧ ∀ i e, s.walker.planAt i = some e → e.bank < 8
  /-- a request that waits to be taken has passed the link-level checks (R187) -/
  checked : ∀ link c, (s.port link).request = some (.untaken c) → linkRangeOk c = true

/-! ### The notices of an event, and trips -/

/-- The notices an event hands out have reached the queues of `s` routed for them, and nothing else has changed a queue or
a notices-lost flag (R190, R191). -/
abbrev State.notified (s t : State) (notices : List Notice) : Prop :=
  ∀ link, (t.port link).notices = ((s.port link).receive notices link).notices ∧
    (t.port link).lost = ((s.port link).receive notices link).lost

/-- SWEEP ENDED of a sweep record as it stands (R158); a record with no volume or opening, which no run reaches, is told as
log 27 says. -/
def Sweep.endNotice (reason : SweepEnd) (w : Sweep) : Notice :=
  .sweepEnded reason w.mode ((w.volume.map (·.slot)).getD 255) ((w.volume.map (·.generation)).getD 0)
    (w.opening.getD 0) w.counts

/-- FRAMES WAITING, owed by an event in which COMPLETED goes from a count of 0 to a count above 0 (R134). -/
def State.framesWaiting (s t : State) : List Notice :=
  if s.frames.completed = [] ∧ t.frames.completed ≠ [] then [.framesWaiting t.frames.completed.length] else []

/-- What an event owes the capture link: FRAMES WAITING (R134), and SWEEP ENDED when it ended an active sweep (R157,
R158). -/
def State.captureNotices (s t : State) : List Notice :=
  s.framesWaiting t ++
    match s.walker.sweep.state, t.walker.sweep.state, t.walker.sweep.lastEnd with
    | .idle, _, _ => []
    | _, .idle, some reason => [t.walker.sweep.endNotice reason]
    | _, _, _ => []

/-- The measured record of the exposure that was lit, absent when no interval was charged (R116). -/
def State.measuredLight (s : State) : Option Measured :=
  s.meter.exposure.bind fun a =>
    if a.charged = 0 then none else some { dose := a.dose, meanIrradiance := a.irradianceSum / a.charged }

/-- The counts of a sweep that is torn (R157). -/
def State.tornCounts (s : State) : SweepCounts :=
  let c := s.walker.sweep.counts
  { c with
    torn := if s.frames.slot = [] then c.torn else min 4294967295 (c.torn + s.frames.slot.length)
    withdrawn := min 4294967295 (c.withdrawn + s.frames.planned.length) }

/-- A camera port when the exposure slot is torn: trigger low, timers stopped (R157); as it was when the slot is empty. -/
def State.tornPort (s : State) (p : CameraPort) : CameraPort :=
  if s.frames.slot = [] then p else { p with trigger := false, readyTimer := none, confirmTimer := none }

/-- An active sweep has ended with a reason that tears (R116, R157): the slot TORN and PLANNED WITHDRAWN in COMPLETED,
the record IDLE with its counts. -/
abbrev State.sweepTorn (s t : State) (reason : SweepEnd) : Prop :=
  t.frames.free = s.frames.free ∧ t.frames.planned = [] ∧ t.frames.slot = [] ∧
    t.frames.completed = s.frames.completed ++ s.frames.slot ++ s.frames.planned ∧
    t.frames.verdict = s.frames.verdict ∧
    (s.frames.whole →
      (∀ i ∈ s.frames.slot, t.frame i =
        { s.frame i with
          status := .torn
          measured := if s.lightOwner = some .exposure then s.measuredLight else (s.frame i).measured }) ∧
      (∀ i ∈ s.frames.planned, t.frame i = { s.frame i with status := .withdrawn }) ∧
      ∀ i, i < 256 → i ∉ s.frames.slot → i ∉ s.frames.planned → t.frame i = s.frame i) ∧
    t.walker =
      { s.walker with
        sweep :=
          { s.walker.sweep with
            state := .idle, stage := none, buildPending := false, lastEnd := some reason, counts := s.tornCounts }
        left := s.tornPort s.walker.left
        right := s.tornPort s.walker.right }

/-- The end reason of a sweep that a trip with a cause ends (R159). -/
def StopCause.sweepEnd : StopCause → SweepEnd
  | .guard => .guard
  | .halt => .halted
  | _ => .settings

/-- The end cause of a preview that a trip with a cause ends (R100). -/
def StopCause.previewEnd : StopCause → PreviewEnd
  | .guard => .guard
  | .halt => .halt
  | _ => .settings

/-- The cradle after a trip (R68, R69): a turn or a SETTLING held, a moving PARKING stopped, any other state as it was.
DEDUCED: the drives that stop with a PARKING (log 11). -/
def Cradle.trippedBy (cause : StopCause) (k : Cradle) : Cradle :=
  match k.state with
  | .turning =>
    { k with
      state := .holding, hold := some { cause := cause, work := .turn }
      timers := { CradleTimers.stopped with angle := k.timers.angle }
      outputs :=
        { k.outputs with armDrive := .stopped, wandDrive := .stopped, airKnife := none, vacuumOpen := k.leafOnWand } }
  | .settling =>
    { k with
      state := .holding, hold := some { cause := cause, work := .settling }, timers := { k.timers with angle := none }
      outputs := { k.outputs with angleDrive := .stopped } }
  | .parking =>
    if k.drive = .moving then
      { k with
        drive := .stopped cause, timers := { k.timers with angle := none }
        outputs := { k.outputs with angleDrive := .stopped, armDrive := .stopped, wandDrive := .stopped } }
    else k
  | _ => k

/-- TURN HELD of a trip that stops work at the cradle (R68), none for a PARKING of a device reset, whose parked volume is none
(R51; DEDUCED, log 29); TURNING without a turn record, which no run reaches, is told as log 25 says. -/
def State.heldNotices (s : State) (cause : StopCause) : List Notice :=
  match s.cradle.state with
  | .turning =>
    [.turnHeld cause (.phase ((s.cradle.turn.map (·.phase)).getD .baseline)) ((s.cradle.turn.map (·.done)).getD 0)
      s.gauge.values]
  | .settling => [.turnHeld cause .settling 0 s.gauge.values]
  | .parking =>
    if s.cradle.drive = .moving ∧ s.cradle.parked ≠ none then [.turnHeld cause .parking 0 s.gauge.values] else []
  | _ => []

/-- A trip has been delivered (R68, R69, R77, R95, R100, R159): the station dark and metering IDLE, a preview ended with
its cause, an active sweep ended and torn, the work at the cradle held and a running gauge gate discarded; custody and
the waiting commands as they were. -/
abbrev State.tripped (s t : State) (cause : StopCause) : Prop :=
  t.lights.dark ∧ t.lights.preview = none ∧
    t.lights.lastEnd = (if s.lights.preview = none then s.lights.lastEnd else some cause.previewEnd) ∧
    t.meter = (if s.meter.running = none then s.meter else { s.meter with running := none, irradiance := 0 }) ∧
    (s.walker.sweep.state = .idle → t.frames = s.frames ∧ t.walker = s.walker) ∧
    (s.walker.sweep.state ≠ .idle → s.sweepTorn t cause.sweepEnd) ∧
    t.cradle = s.cradle.trippedBy cause ∧
    t.gauge =
      (if s.cradle.state = .turning then { s.gauge with gate := none, count := 0, countSaturated := false, timer := none }
       else s.gauge) ∧
    t.custody = s.custody ∧ t.pending = s.pending

end Machine

end Sys2Proof
end

