-- ==== Sys2Proof/Certificates/Slice0/Obligations.lean ====
section
/-! DEFINITION. Obligations: the statements for the provers. -/

open Sys2Proof Sys2Proof.Machine

/-! ### The queue, the reset and the invariants -/

/-- The command at the front of the queue runs on the state with the queue's rest; on an empty queue the part idles
(the model's choice, log 2). -/
def Obligations.FrontCommandRuns : Prop :=
  (∀ (c : Instr) (s : State), step (s.withPending (c :: s.pending)) = exec c s) ∧
    ∀ s : State, s.pending = [] → step s = .next s

/-- Every command answers a next state, with every notice of its event delivered: no command stops the part. The waiting
commands stand, over a device reset too (the model's choice, log 2 and log 7). Reception, the pending request and the
LINK_BUSY of a link port change by the commands of its own line and by a device reset alone. -/
def Obligations.EveryCommandIsTakenWhole : Prop :=
  ∀ (c : Instr) (s : State),
    ∃ t : State, exec c s = .next t ∧ t.quiet ∧ t.pending = s.pending ∧
      ∀ link : Link, c.touchesPort link = false →
        (t.port link).reception = (s.port link).reception ∧ (t.port link).request = (s.port link).request ∧
          (t.port link).busy = (s.port link).busy

/-- The values of the blocks right after a device reset that the spec gives (R1, R4, R28, R31, R48, R52, R76, R90, R96, R107,
R126, R129, R140, R143, R144, R165, R170, R175, R185, R190). That the PARKING of the reset moves, its 30000 ms timer running,
rests on the input levels at power-on that the model chose (log 6). -/
def Obligations.ResetGivesTheSpecValues : Prop :=
  let s := State.reset
  (s.station = { mode := .maintenance, lastReset := .device }) ∧
    (∀ i, i < 70 → s.word i = 0#32) ∧ s.settings.state = .fault ∧ s.settings.lastSum = 0 ∧
    (∀ i, i < 8 → s.entry i = .free 0) ∧ s.custody.nextSequence = 1 ∧ (∀ i, LeafStore.get s.custody.leaves i = none) ∧
    freeRecords s.custody.leaves = 4096 ∧ longestRun s.custody.leaves = some (0, 4096) ∧
    s.cradle.state = .parking ∧ s.cradle.drive = .moving ∧ s.cradle.mounted = none ∧ s.cradle.opening = 0 ∧
    s.cradle.moveClass = 1 ∧ s.cradle.parked = none ∧ s.cradle.hold = none ∧ s.cradle.fault = none ∧
    s.cradle.turn = none ∧ s.cradle.approval = none ∧ s.cradle.timers.angle = some 30000 ∧
    s.gauge.gate = none ∧ s.gauge.baseline = 0 ∧ s.gauge.reading = 0 ∧ s.gauge.delta = 0 ∧ s.gauge.pick = none ∧
    s.lights.dark ∧ s.lights.preview = none ∧ s.lights.lastEnd = none ∧
    s.meter = { running := none, irradiance := 0, exposure := none, preview := none } ∧
    s.frames.free = List.range 256 ∧ (∀ i, i < 256 → (s.frame i).generation = 0) ∧ s.frames.planned = [] ∧
    s.frames.slot = [] ∧ s.frames.completed = [] ∧ s.frames.verdict = [] ∧
    (∀ i, i < 32 → s.walker.planAt i = none) ∧ s.walker.planLength = 0 ∧ s.walker.sweep.state = .idle ∧
    s.walker.sweep.lastEnd = none ∧ s.walker.sweep.counts = .zero ∧ s.walker.left.counter = 0 ∧
    s.walker.right.counter = 0 ∧ s.walker.left.trigger = false ∧ s.walker.right.trigger = false ∧
    ∀ link, s.port link = .initial

/-- The invariants of the part hold right after a device reset. -/
def Obligations.InvariantsHoldAtReset : Prop :=
  State.reset.quiet ∧ LeafStore.wf State.reset.custody.leaves ∧ State.reset.extentsShareStore ∧
    State.reset.frames.whole ∧ State.reset.oneMounted ∧ State.reset.noticesBounded ∧ State.reset.LightSafe

/-- Every step keeps the canonical form of the leaf store. -/
def Obligations.LeafStoreStaysCanonical : Prop :=
  ∀ s t : State, LeafStore.wf s.custody.leaves → step s = .next t → LeafStore.wf t.custody.leaves

/-- Every step keeps the law of R28: the extents of the non-FREE entries lie within the store, do not overlap, and
hold exactly the records in use. -/
def Obligations.ExtentsShareTheStore : Prop :=
  ∀ s t : State, s.extentsShareStore → step s = .next t → t.extentsShareStore

/-- Every step keeps the law of R128: every descriptor is in exactly one of the five holders. -/
def Obligations.DescriptorsStayInOneHolder : Prop :=
  ∀ s t : State, s.frames.whole → step s = .next t → t.frames.whole

/-- Every step keeps the law of R15 and R48: at most one custody entry is MOUNTED. -/
def Obligations.AtMostOneVolumeMounted : Prop :=
  ∀ s t : State, s.oneMounted → step s = .next t → t.oneMounted

/-- Every step keeps the law of R190: no notice queue holds more than 32 notices. -/
def Obligations.NoticeQueuesStayBounded : Prop :=
  ∀ s t : State, s.noticesBounded → step s = .next t → t.noticesBounded

/-- Every step keeps the light safe: at most one bank lit (R90), lit only under the conditions of R92, the preview
record agreeing with bank 0 (R96), metering running exactly with the light (R110); and with the light what ties it to the sweep,
so that an IDLE sweep has its exposure slot and PLANNED empty (R132). -/
def Obligations.LightStaysSafe : Prop := ∀ s t : State, s.LightSafe → step s = .next t → t.LightSafe

/-- A device reset (R175): every block at its reset values, the levels of the inputs and the waiting commands as they
stand (the model's choice, log 7), a guard latch set where its input is BROKEN or PRESSED (R84, R87), and PARKING
begun under class 1 without a notice (R48, R51): stopped at its start by a broken curtain (R53), whatever the sensors read
(the model's reading, log 10), else ended at once where the plates are flat and the mechanism is at rest, else moving under a
30000 ms angle timer (R52). -/
def Obligations.DeviceResetClearsTheStation : Prop :=
  ∀ s : State,
    let c := { State.reset.cradle with sensors := s.cradle.sensors }
    let still : Outputs :=
      { angleDrive := .stopped, armDrive := .stopped, wandDrive := .stopped, vacuumOpen := false, airKnife := none }
    exec .deviceReset s =
      .next
        { State.reset with
          cradle :=
            if s.guards.curtainBroken then
              { c with drive := .stopped .guard, timers := .stopped, outputs := still }
            else if 178 ≤ s.cradle.sensors.angle ∧ s.cradle.sensors.armRest ∧ ¬ s.cradle.sensors.wandDown then
              { c with state := .parked, timers := .stopped, outputs := still }
            else c
          guards :=
            { curtainBroken := s.guards.curtainBroken, curtainLatch := s.guards.curtainBroken,
              stopPressed := s.guards.stopPressed, stopLatch := s.guards.stopPressed }
          walker :=
            { State.reset.walker with
              left := { CameraPort.initial with ready := s.walker.left.ready }
              right := { CameraPort.initial with ready := s.walker.right.ready } }
          pending := s.pending }

/-! ### The station links -/

/-- A request that its port takes, or that its port holds, is answered within its taking: the reply echoes the tag and
the request code (R186, R188). A refusal changes nothing but the port. That one command is both the arrival of its frame on
an idle port and its taking, and the taking alone of a request that the port holds, is the model's choice (log 1). -/
def Obligations.RequestsAreAnswered : Prop :=
  ∀ (c : Instr) (o : Origin) (s : State), c.origin = some o → s.quiet →
    (s.accepts c o →
      ∃ (t : State) (result : Result) (body : List Byte), exec c s = .next t ∧
        (t.port o.link).request =
          some (.answered { tag := o.tag, code := codeByte c, result := result, body := body }) ∧
        (result ≠ .ok → result ≠ .accepted → t = (s.heard o).answered o (codeByte c) result body)) ∧
    (s.holdsRequest c o = true →
      ∃ (t : State) (result : Result) (body : List Byte), exec c s = .next t ∧
        (t.port o.link).request =
          some (.answered { tag := o.tag, code := codeByte c, result := result, body := body }) ∧
        (result ≠ .ok → result ≠ .accepted → t = s.answered o (codeByte c) result body))

/-- A whole frame completed on an idle port is checked in the order of R187, with the permission table of R189: BAD_FRAME for
a wrong sum, UNKNOWN_REQUEST outside the table, NOT_PERMITTED on a link not marked for the code, BAD_ARGUMENT for a body out of
its layout or ranges. Each failure is answered with no body and changes nothing else; a frame that passes becomes the pending
request, which its command then takes (the model's choice, log 1). -/
def Obligations.FramesAreCheckedInOrder : Prop :=
  let all : List Link := [.conservation, .capture, .accounting]
  let table : List (Nat × List Link) :=
    [(1, [.accounting]), (2, [.conservation]), (3, [.conservation]), (4, [.conservation]), (5, [.conservation]),
      (6, [.conservation]), (7, [.conservation]), (8, [.conservation]), (9, [.accounting]), (10, [.accounting]),
      (11, all), (12, [.conservation]), (13, [.capture]), (14, all), (15, [.conservation, .capture]),
      (16, [.conservation]), (17, [.conservation]), (18, [.conservation]), (19, [.conservation]),
      (20, [.conservation]), (21, [.conservation])] ++
    [(22, [.conservation]), (23, [.capture]), (24, [.conservation, .capture]), (25, [.capture]), (26, [.capture]),
      (27, [.capture]), (28, [.capture]), (29, [.capture]), (30, all), (31, [.capture]), (32, [.capture]),
      (33, [.conservation]), (34, [.conservation]), (35, all), (36, [.conservation]), (37, [.conservation]),
      (38, [.conservation]), (39, [.conservation]), (40, [.conservation]), (41, all), (42, all)]
  ∀ (link : Link) (tag code check : Byte) (body : List Byte) (s : State), s.quiet → (s.port link).idle →
    body.length ≤ 250 →
    let sum := ((tag :: code :: BitVec.ofNat 8 body.length :: (body ++ [check])).map BitVec.toNat).sum % 256
    let t := s.receiving link .outside
    let answers := fun (result : Result) =>
      exec (.requestFrameComplete link (.whole tag code body check)) s = .next (t.reply link tag code result [])
    if sum ≠ 0 then answers .badFrame
    else if code.toNat ∉ table.map (·.1) then answers .unknownRequest
    else if (table.any fun row => row.1 == code.toNat && row.2.contains link) = false then answers .notPermitted
    else
      match decodeBody { link := link, tag := tag } code.toNat body with
      | none => answers .badArgument
      | some c =>
        exec (.requestFrameComplete link (.whole tag code body check)) s =
          .next (t.onPort link fun p => { p with request := some (.untaken c) })

/-- Every request whose fields lie in the ranges of its link is read back from the body that section 11.6 lays out for
it, no field dropped; and the right frame that carries it becomes the pending request of an idle port. -/
def Obligations.EncodedRequestsReadBack : Prop :=
  ∀ (c : Instr) (o : Origin) (code : Nat), c.origin = some o → requestCode c = some code → linkRangeOk c = true →
    (encodeBody c).length ≤ 250 ∧ decodeBody o code (encodeBody c) = some c ∧
      ∀ s : State, s.accepts c o →
        exec (.requestFrameComplete o.link (encodeFrame o.tag code (encodeBody c))) s =
          .next ((s.heard o).onPort o.link fun p => { p with request := some (.untaken c) })

/-- A frame completed while a request is pending is not examined: its LINK_BUSY waits behind the pending reply; while one waits,
or is being sent, a further frame is discarded without a reply (R186, and the model's reading, log 15). REPLY SENT: the reply
of the pending request goes first and the request stops being pending, a LINK_BUSY reply follows it and does not make the
link pending, and on a port that sends nothing nothing happens (the model's reading, log 3). -/
def Obligations.BusyLinksAndRepliesAreInOrder : Prop :=
  (∀ (link : Link) (tag code check : Byte) (body : List Byte) (s : State), s.quiet → body.length ≤ 250 →
      (s.port link).reception ≠ .discarding →
      ((s.port link).request ≠ none ∨ (s.port link).busy ≠ none) →
      exec (.requestFrameComplete link (.whole tag code body check)) s =
        .next (s.onPort link fun p =>
          { p with
            reception := .outside
            busy :=
              match p.busy with
              | none => some { tag := tag, code := code, sending := false }
              | some b => some b })) ∧
  (∀ (link : Link) (s : State), s.quiet →
      let after := fun (f : Port → Port) => exec (.replySent link) s = .next (s.onPort link f)
      (∀ b, (s.port link).busy = some b → b.sending = true → after fun p => { p with busy := none }) ∧
        (∀ r, (s.port link).busy = none → (s.port link).request = some (.answered r) →
          after fun p => { p with request := none }) ∧
        (∀ b r, (s.port link).busy = some b → b.sending = false → (s.port link).request = some (.answered r) →
          after fun p => { p with request := none, busy := some { b with sending := true } }) ∧
        ((∀ r, (s.port link).request ≠ some (.answered r)) → (∀ b, (s.port link).busy = some b → b.sending = false) →
          exec (.replySent link) s = .next s))

/-- Reception (R185): a start byte outside a frame begins one, a gap of more than 50 ms abandons a partial frame or ends
the discarding, and a body length byte of 251..255 ends the frame with BAD_FRAME and begins the discarding. That a frame or a
start byte named on a discarding port, and a gap outside a frame, events that cannot happen there, change nothing is the
model's reading (log 17, log 3). -/
def Obligations.ReceptionFollowsTheLine : Prop :=
  ∀ (link : Link) (s : State), s.quiet →
    (exec (.startByte link) s =
        .next (if (s.port link).reception = .outside then s.receiving link .inFrame else s)) ∧
      exec (.linkIdleTimeout link) s = .next (s.receiving link .outside) ∧
      (∀ tag code length : Byte, 251 ≤ length.toNat → (s.port link).idle →
        exec (.requestFrameComplete link (.overlong tag code length)) s =
          .next ((s.receiving link .discarding).reply link tag code .badFrame [])) ∧
      (∀ tag code length : Byte, 251 ≤ length.toNat → (s.port link).reception ≠ .discarding →
        (s.port link).request ≠ none → (s.port link).busy = none →
        exec (.requestFrameComplete link (.overlong tag code length)) s =
          .next (s.onPort link fun p =>
            { p with reception := .discarding, busy := some { tag := tag, code := code, sending := false } })) ∧
      ∀ frame, (s.port link).reception = .discarding → exec (.requestFrameComplete link frame) s = .next s

/-- TAKE NOTICES (R192): the longest run from the head of the requesting link's queue that the largest count and the 250
bytes of a body allow; the reply carries the number, the flag, the number left and the records; the flag is cleared, and
no other link's queue is touched. -/
def Obligations.TakeNoticesEmptiesTheHead : Prop :=
  ∀ (o : Origin) (largest : Nat) (s : State), s.accepts (.takeNotices o largest) o →
    let q := (s.port o.link).notices
    let size := fun (k : Nat) => 3 + (((q.take k).map fun n => 2 + n.body.length).sum)
    ∃ k, k ≤ largest ∧ k ≤ q.length ∧ size k ≤ 250 ∧
      (k < largest → k < q.length → 250 < size (k + 1)) ∧
      s.answersWith (.takeNotices o largest) o .ok
        (be 1 k ++ flag (s.port o.link).lost ++ be 1 (q.length - k) ++
          (q.take k).flatMap fun n => be 1 n.kind ++ be 1 n.body.length ++ n.body)
        (State.onPort o.link fun p => { p with notices := q.drop k, lost := false }) []

/-- The notices of one event join a link's queue by kind in the order of R190, those of one kind as posted, each on the links
that the table of R191 names for its kind; a notice that finds 32 is discarded for that link with the flag set; the attention
line is asserted while the queue holds a notice (R193). -/
def Obligations.NoticesJoinTheQueues : Prop :=
  let place : Notice → Nat := fun n =>
    match n with
    | .restarted .. => 0
    | .guardTripped .. => 1
    | .settingsChanged .. => 2
    | .budgetReached .. => 3
    | .turnFault .. => 4
    | .turnHeld .. => 5
    | .turnEnded .. => 6
    | .pickConfirmNeeded .. => 7
    | .volumeMounted .. => 8
    | .volumeDismounted .. => 9
    | .framesWaiting .. => 10
    | .sweepEnded .. => 11
    | .custodyChanged .. => 12
    | .modeChanged .. => 13
  let links : Notice → List Link := fun n =>
    match n with
    | .custodyChanged .. => [.conservation]
    | .volumeMounted .. | .volumeDismounted .. => [.conservation, .capture]
    | .turnEnded .. | .turnHeld .. | .turnFault .. | .pickConfirmNeeded .. => [.conservation, .capture]
    | .sweepEnded .. | .framesWaiting .. => [.capture]
    | .budgetReached .. => [.conservation, .capture]
    | .guardTripped .. | .settingsChanged .. => [.conservation, .capture]
    | .modeChanged .. | .restarted .. => [.conservation, .capture, .accounting]
  (∀ (n : Notice) (p : Port),
      (p.notices.length < 32 → p.push n = { p with notices := p.notices ++ [n] }) ∧
        (32 ≤ p.notices.length → p.push n = { p with lost := true })) ∧
    (∀ (out : List Notice) (link : Link) (p : Port), p.notices.length + out.length ≤ 32 →
      ∃ joined : List Notice, p.receive out link = { p with notices := p.notices ++ joined } ∧
        joined.Pairwise (fun a b => place a ≤ place b) ∧
        ∀ k, (joined.filter fun n => place n == k) =
          out.filter fun n => place n == k && (links n).contains link) ∧
    ∀ p : Port, p.attention = true ↔ p.notices ≠ []

/-! ### Custody -/

/-- CHECK IN (R5, R6, R7): its checks in order, and on success the lowest-numbered FREE slot at the lowest base where the
leaf count of free records lie together, the entry and the records set up, the sequence counter moved, CUSTODY CHANGED
posted. The canonical form of the store is a premise (LeafStoreStaysCanonical keeps it). -/
def Obligations.CheckInChecksInOrder : Prop :=
  ∀ (o : Origin) (shelfMark : List Byte) (designation : Option (List Byte)) (accession leafCount : Nat) (s : State),
    let c : Instr := .checkIn o shelfMark designation accession leafCount
    let name := fun (largest : Nat) (n : List Byte) =>
      1 ≤ n.length ∧ n.length ≤ largest ∧ (∀ b ∈ n, 32 ≤ b.toNat ∧ b.toNat ≤ 126) ∧ n.head? ≠ some 32#8 ∧
        n.getLast? ≠ some 32#8
    let inRange := name 24 shelfMark ∧ (∀ d, designation = some d → name 8 d) ∧
      (1 ≤ accession ∧ accession ≤ 4294967295) ∧ (1 ≤ leafCount ∧ leafCount ≤ 1024)
    let holds := fun (i : Nat) =>
      s.inUse i ∧ (s.entry i).shelfMark = shelfMark ∧ (s.entry i).designation = designation
    let unknown := ∀ i, i < 8 → ¬ holds i
    let firstFree := fun (i : Nat) => i < 8 ∧ ¬ s.inUse i ∧ ∀ j, j < i → s.inUse j
    let fits := fun (b : Nat) => LeafStore.freeRun s.custody.leaves b leafCount
    s.offered c o → LeafStore.wf s.custody.leaves →
      (¬ inRange → s.onlyAnswers c o .badArgument []) ∧
      (inRange → ∀ i, i < 8 → holds i → (∀ j, j < i → ¬ holds j) →
        s.onlyAnswers c o .duplicate (be 1 i ++ be 1 (s.entry i).generation)) ∧
      (inRange → unknown → (∀ i, i < 8 → s.inUse i) → s.onlyAnswers c o .noSlot []) ∧
      (inRange → unknown → (∃ i, firstFree i) → (∀ b, ¬ fits b) → s.onlyAnswers c o .noExtent []) ∧
      (inRange → unknown → ∀ i, firstFree i → ∀ b, fits b → (∀ b', b' < b → ¬ fits b') →
        let generation := ((s.entry i).generation + 1) % 256
        let sequence := s.custody.nextSequence
        (s.answersWith c o .ok (be 1 i ++ be 1 generation ++ be 4 sequence ++ be 2 b)
          (State.onCustody fun cu =>
            { entries :=
                Vec.edit cu.entries i fun _ =>
                  { state := .staged, generation := generation, sequence := sequence, shelfMark := shelfMark,
                    designation := designation, accession := accession, leafCount := leafCount, extentBase := b,
                    clearance := none, required := 1#8, hold := none, waiver := none, reference := 0, turns := 0,
                    framesAccepted := 0, framesOpen := 0, leavesComplete := 0, doseTotal := 0, damageMarks := 0 }
              leaves := LeafStore.allocate b leafCount cu.leaves
              nextSequence := if sequence = 4294967295 then 1 else sequence + 1 })
          [.custodyChanged i generation .staged sequence]) ∧
        ∀ k, LeafStore.get (LeafStore.allocate b leafCount s.custody.leaves) k =
          if b ≤ k ∧ k < b + leafCount then
            some { mark := .normal, turnCount := 0, verso := { dose := 0, coverage := 0#8, framesOpen := 0 },
                   recto := { dose := 0, coverage := 0#8, framesOpen := 0 } }
          else LeafStore.get s.custody.leaves k)

/-- First-fit search and the longest free run (R29, R31): the search finds the lowest base where the count of free
records lie together, it finds one exactly when the count is at or below the longest free run, and the run reported has
that length at its lowest base. -/
def Obligations.FirstFitFindsTheLowestRun : Prop :=
  ∀ (st : LeafStore) (l : Nat), LeafStore.wf st → 1 ≤ l →
    (∀ b, firstFit l st = some b ↔ (LeafStore.freeRun st b l ∧ ∀ b', b' < b → ¬ LeafStore.freeRun st b' l)) ∧
      (firstFit l st = none ↔ ∀ b, ¬ LeafStore.freeRun st b l) ∧
      ((∃ b, LeafStore.freeRun st b l) ↔ l ≤ ((longestRun st).map (·.2)).getD 0) ∧
      ∀ run, longestRun st = some run →
        LeafStore.freeRun st run.1 run.2 ∧ ∀ b', b' < run.1 → ¬ LeafStore.freeRun st b' run.2

/-- SET HANDLING, HOLD and WAIVE (R8, R10, R13): STALE, then STATE, then the entry changed in the one field, answered OK
with no body; nothing else changes. -/
def Obligations.ClearanceHoldAndWaiver : Prop :=
  ∀ (o : Origin) (slot generation : Nat) (s : State),
    let e := s.entry slot
    (∀ handlingClass angleLimit faceBudget,
      let c : Instr := .setHandling o slot generation handlingClass angleLimit faceBudget
      s.accepts c o →
        if e.generation ≠ generation then s.onlyAnswers c o .stale []
        else if e.state = .free ∨ e.state = .mounted then s.onlyAnswers c o .state []
        else
          s.answersWith c o .ok []
            (State.onEntry slot fun e =>
              { e with
                clearance :=
                  some { handlingClass := handlingClass, angleLimit := angleLimit, faceBudget := faceBudget } }) []) ∧
      (let c : Instr := .hold o slot generation
       s.accepts c o →
        if e.generation ≠ generation then s.onlyAnswers c o .stale []
        else if e.state = .free then s.onlyAnswers c o .state []
        else s.answersWith c o .ok [] (State.onEntry slot fun e => { e with hold := some .conservation }) []) ∧
      ∀ reason,
        let c : Instr := .waive o slot generation reason
        s.accepts c o →
          if e.generation ≠ generation then s.onlyAnswers c o .stale []
          else if e.state = .free then s.onlyAnswers c o .state []
          else s.answersWith c o .ok [] (State.onEntry slot fun e => { e with waiver := some reason }) []

/-- UNHOLD (R11). -/
def Obligations.UnholdClearsTheHold : Prop :=
  ∀ (o : Origin) (slot generation : Nat) (s : State),
    let c : Instr := .unhold o slot generation
    let e := s.entry slot
    s.accepts c o →
      if e.generation ≠ generation then s.onlyAnswers c o .stale []
      else if e.state = .free then s.onlyAnswers c o .state []
      else if e.hold = none then s.onlyAnswers c o .ok []
      else s.answersWith c o .ok [] (State.onEntry slot fun e => { e with hold := none }) []

/-- SET BUDGET (R9, R120, R121): STALE, STATE, NOT_CLEARED; then the face budget of the clearance is replaced. On an entry
that is not MOUNTED, in the dark, or with no visible face at or above the new budget, nothing else changes. Over such a face
the light goes out, with BUDGET REACHED for each: a lit preview ends with cause BUDGET; an exposure is CUT (R154), its
descriptors in COMPLETED with what was measured, the sweep going on. -/
def Obligations.BudgetIsReplaced : Prop :=
  ∀ (o : Origin) (slot generation faceBudget : Nat) (s : State),
    let c : Instr := .setBudget o slot generation faceBudget
    let e := s.entry slot
    let w := s.walker.sweep
    let replaced := fun (e : CustodyEntry) =>
      { e with clearance := e.clearance.map fun k => { k with faceBudget := faceBudget } }
    let reached := s.visible.filter fun v => decide (faceBudget ≤ s.custody.doseOf e v)
    let posted := fun (owner : LightOwner) (ending : LightEnd) =>
      reached.map fun v =>
        Notice.budgetReached slot e.generation v.leaf v.side (s.custody.doseOf e v) faceBudget .setBudget owner ending
    s.accepts c o →
      (e.generation ≠ generation → s.onlyAnswers c o .stale []) ∧
      (e.generation = generation → e.state = .free → s.onlyAnswers c o .state []) ∧
      (e.generation = generation → e.state ≠ .free → e.clearance = none → s.onlyAnswers c o .notCleared []) ∧
      (e.generation = generation → e.state ≠ .free → e.clearance ≠ none →
        (e.state = .staged ∨ s.lights.dark ∨ reached = []) →
        s.answersWith c o .ok (be 4 faceBudget) (State.onEntry slot replaced) []) ∧
      (e.generation = generation → s.mountedSlot = some slot → e.clearance ≠ none → s.LightSafe →
        s.lightOwner = some .preview → reached ≠ [] →
        s.answersWith c o .ok (be 4 faceBudget)
          (fun t => (t.onEntry slot replaced).previewEnded .budget) (posted .preview .budget)) ∧
      (e.generation = generation → s.mountedSlot = some slot → e.clearance ≠ none → s.LightSafe →
        s.lightOwner = some .exposure → reached ≠ [] →
        ∃ t, exec c s = .next t ∧ t.lights.dark ∧ t.meter.running = none ∧ t.meter.irradiance = 0 ∧
          (t.port o.link).request =
            some (.answered { tag := o.tag, code := 3#8, result := .ok, body := be 4 faceBudget }) ∧
          (t.entry slot).budget = faceBudget ∧ t.sameButCapture s ∧
          (∀ i, i < 8 → i ≠ slot → t.entry i = s.entry i) ∧
          (∀ v ∈ s.visible, t.custody.doseOf (t.entry slot) v = s.custody.doseOf e v) ∧
          s.frames.completed ++ s.frames.slot <+: t.frames.completed ∧
          (s.frames.whole → ∀ i ∈ s.frames.slot,
            t.frame i = { s.frame i with status := .cut, measured := s.measuredLight }) ∧
          t.walker.sweep.counts.cut = min 4294967295 (w.counts.cut + s.frames.slot.length) ∧
          t.walker.left.trigger = false ∧ t.walker.right.trigger = false ∧
          s.notified t (posted .exposure .cut ++ s.captureNotices t))

/-- MOUNT (R14): the range checks of the link, then the nine checks in order, the first that fails giving the result and
nothing changing on a refusal. Accepted (R15, R50, R52, R53): the entry is MOUNTED, its other fields as they were, the
opening is the starting opening, and SETTLING begins under the entry's class: held at once by a broken or latched curtain,
else ended at once within 2 degrees of the limit, else driven toward it under the angle timer. That the guard comes before
the arrival is the model's reading (log 10). -/
def Obligations.MountSettlesTheVolume : Prop :=
  ∀ (o : Origin) (slot generation opening : Nat) (s : State),
    let c : Instr := .mount o slot generation opening
    let e := s.entry slot
    s.offered c o →
      if 7 < slot ∨ 255 < generation ∨ 1024 < opening then s.onlyAnswers c o .badArgument []
      else if s.station.mode ≠ .ready then s.onlyAnswers c o .mode []
      else if e.generation ≠ generation then s.onlyAnswers c o .stale []
      else if e.state ≠ .staged then s.onlyAnswers c o .state []
      else
        match e.clearance with
        | none => s.onlyAnswers c o .notCleared []
        | some k =>
          let near := s.cradle.sensors.angle ≤ k.angleLimit + 2 ∧ k.angleLimit ≤ s.cradle.sensors.angle + 2
          let clear := s.guards.curtainBroken = false ∧ s.guards.curtainLatch = false
          let mounted := fun (cr : Cradle) =>
            { cr with mounted := some ⟨slot, generation⟩, opening := opening, moveClass := k.handlingClass }
          let accepts := fun (cradle : Cradle → Cradle) (notices : List Notice) =>
            s.answersWith c o .accepted (be 1 slot ++ be 1 generation ++ be 2 opening ++ be 1 k.angleLimit)
              (fun t => (t.onEntry slot fun e => { e with state := .mounted }).onCradle cradle) notices
          if e.hold ≠ none then s.onlyAnswers c o .held []
          else if s.mountedSlot ≠ none then s.onlyAnswers c o .state []
          else if s.cradle.state ≠ .parked then s.onlyAnswers c o .cradleBusy []
          else if s.settings.state ≠ .good then s.onlyAnswers c o .settingsFault []
          else if e.leafCount < opening then s.onlyAnswers c o .leafBounds (be 2 e.leafCount)
          else if ¬ clear then
            accepts
              (fun cr => { mounted cr with state := .holding, hold := some { cause := .guard, work := .settling } })
              [.turnHeld .guard .settling 0 s.gauge.values]
          else if near then
            accepts
              (fun cr =>
                { mounted cr with
                  state := .openReady
                  timers := { cr.timers with angle := none }
                  outputs := { cr.outputs with angleDrive := .holding k.angleLimit } })
              [.volumeMounted slot generation opening k.angleLimit]
          else
            accepts
              (fun cr =>
                { mounted cr with
                  state := .settling
                  timers := { cr.timers with angle := some (s.angleTime k.handlingClass) }
                  outputs := { cr.outputs with angleDrive := .toward k.angleLimit } })
              []

/-- DISMOUNT (R16): the four checks in order, nothing changing on a refusal. Accepted (R17, R51, R102): the reply is ACCEPTED;
an active sweep ends with reason DISMOUNTED and a lit preview with cause DISMOUNT, the station dark; the approval slot, the
turn, hold and fault records are emptied; the entry is STAGED with its other fields and every leaf record as they were;
PARKING begins under the entry's class with the entry as parked volume: stopped with TURN HELD by a broken or latched
curtain (R53), else ended at once with VOLUME DISMOUNTED where the plates are flat and the mechanism is at rest, else
driven. That the guard comes before the arrival is the model's reading (log 10). -/
def Obligations.DismountParksTheVolume : Prop :=
  ∀ (o : Origin) (slot generation : Nat) (s : State),
    let c : Instr := .dismount o slot generation
    let e := s.entry slot
    let k := s.cradle
    let clear := s.guards.curtainBroken = false ∧ s.guards.curtainLatch = false
    let arrived := 178 ≤ k.sensors.angle ∧ k.sensors.armRest = true ∧ k.sensors.wandDown = false
    s.accepts c o →
      if s.station.mode ≠ .ready then s.onlyAnswers c o .mode []
      else if e.generation ≠ generation then s.onlyAnswers c o .stale []
      else if e.state ≠ .mounted then s.onlyAnswers c o .state []
      else if ¬ (k.state = .openReady ∨ ((k.state = .fault ∨ k.state = .holding) ∧ k.leafOnWand = false)) then
        s.onlyAnswers c o .cradleBusy []
      else
        s.LightSafe →
        ∃ t, exec c s = .next t ∧
          (t.port o.link).request =
            some (.answered { tag := o.tag, code := 8#8, result := .accepted, body := be 1 slot ++ be 1 generation }) ∧
          (∀ i, i < 8 → t.entry i = if i = slot then { e with state := .staged } else s.entry i) ∧
          t.custody.leaves = s.custody.leaves ∧ t.lights.dark ∧ t.meter.running = none ∧ t.lights.preview = none ∧
          t.lights.lastEnd = (if s.lights.preview = none then s.lights.lastEnd else some .dismount) ∧
          (s.walker.sweep.state ≠ .idle → s.sweepTorn t .dismounted) ∧
          (s.walker.sweep.state = .idle → t.frames = s.frames ∧ t.walker = s.walker) ∧
          t.cradle.mounted = none ∧ t.cradle.approval = none ∧ t.cradle.turn = none ∧ t.cradle.hold = none ∧
          t.cradle.fault = none ∧ t.cradle.opening = k.opening ∧ t.cradle.moveClass = e.handlingClass ∧
          t.station = s.station ∧ t.settings = s.settings ∧ t.gauge = s.gauge ∧ t.guards = s.guards ∧
          t.pending = s.pending ∧
          s.notified t
            ((if ¬ clear then [.turnHeld .guard .parking 0 s.gauge.values]
              else if arrived then [.volumeDismounted slot generation]
              else []) ++ s.captureNotices t) ∧
          (if ¬ clear then
            t.cradle.state = .parking ∧ t.cradle.drive = .stopped .guard ∧ t.cradle.timers.angle = none ∧
              t.cradle.parked = some ⟨slot, generation⟩
          else if arrived then
            t.cradle.state = .parked ∧ t.cradle.timers.angle = none ∧ t.cradle.parked = none
          else
            t.cradle.state = .parking ∧ t.cradle.drive = .moving ∧ t.cradle.parked = some ⟨slot, generation⟩ ∧
              t.cradle.timers.angle = some (s.angleTime e.handlingClass) ∧
              t.cradle.outputs =
                { angleDrive := .toward 180, armDrive := .toRest none, wandDrive := .up, vacuumOpen := false,
                  airKnife := none })

/-- RELEASE (R22, R23): the five checks in order; then the extent's records are free, the entry takes the defaults of R1
with its generation kept, CUSTODY CHANGED is posted and the reply is the receipt. -/
def Obligations.ReleaseChecksInOrder : Prop :=
  ∀ (o : Origin) (slot generation : Nat) (s : State),
    let c : Instr := .release o slot generation
    let e := s.entry slot
    let withheld := (List.range e.leafCount).countP fun i => (s.leaf slot i).mark == .withheld
    let name := fun (width : Nat) (n : List Byte) => be 1 n.length ++ n ++ List.replicate (width - n.length) 0#8
    s.accepts c o →
      if e.generation ≠ generation then s.onlyAnswers c o .stale []
      else if e.state ≠ .staged then s.onlyAnswers c o .state []
      else if e.hold ≠ none then s.onlyAnswers c o .held []
      else if e.framesOpen ≠ 0 then s.onlyAnswers c o .framesOpen (be 2 e.framesOpen)
      else if e.leavesComplete ≠ e.leafCount ∧ e.waiver = none then
        s.onlyAnswers c o .incomplete (be 2 e.leavesComplete)
      else
        (s.answersWith c o .ok
          (name 24 e.shelfMark ++ name 8 (e.designation.getD []) ++ be 4 e.accession ++ be 4 e.sequence ++
            be 2 e.leafCount ++ be 2 e.leavesComplete ++ be 2 withheld ++ be 2 e.framesAccepted ++ be 6 e.doseTotal ++
            be 4 e.turns ++ be 2 e.damageMarks ++ be 1 (if e.waiver = none then 0 else 1) ++ be 1 (e.waiver.getD 0))
          (State.onCustody fun cu =>
            { cu with
              entries := Vec.edit cu.entries slot fun e => .free e.generation
              leaves := LeafStore.release e.extentBase e.leafCount cu.leaves })
          [.custodyChanged slot generation .free e.sequence]) ∧
          ∀ k, LeafStore.get (LeafStore.release e.extentBase e.leafCount s.custody.leaves) k =
            if e.extentBase ≤ k ∧ k < e.extentBase + e.leafCount then none else LeafStore.get s.custody.leaves k

/-- READ CUSTODY (R25) on every link and in every mode: the entry as section 11.6 lays it out. LIST CUSTODY (R24): records of the
first four non-FREE slots at or above the first slot, in slot order, then the next non-FREE slot, 255 when there is none.
Neither changes anything. -/
def Obligations.CustodyIsReadAndListed : Prop :=
  (∀ (o : Origin) (slot : Nat) (s : State),
      let e := s.entry slot
      let k := e.clearance.getD { handlingClass := 0, angleLimit := 0, faceBudget := 0 }
      let name := fun (width : Nat) (n : List Byte) => be 1 n.length ++ n ++ List.replicate (width - n.length) 0#8
      s.quiet → (s.port o.link).idle → slot ≤ 7 →
        s.onlyAnswers (.readCustody o slot) o .ok
          (be 1 slot ++ be 1 (match e.state with | .free => 0 | .staged => 1 | .mounted => 2) ++ be 1 e.generation ++
            be 4 e.sequence ++ name 24 e.shelfMark ++ name 8 (e.designation.getD []) ++ be 4 e.accession ++
            be 2 e.leafCount ++ be 2 e.extentBase ++ be 1 (if e.clearance = none then 0 else 1) ++
            be 1 k.handlingClass ++ be 1 k.angleLimit ++ be 4 k.faceBudget ++ be 1 e.required.toNat ++
            be 1 (if e.hold = none then 0 else 1) ++
            be 1 (match e.hold with
              | none => 0 | some .conservation => 1 | some .turnFault => 2 | some .restart => 3) ++
            be 1 (if e.waiver = none then 0 else 1) ++ be 1 (e.waiver.getD 0) ++ be 2 e.reference ++ be 4 e.turns ++
            be 2 e.framesAccepted ++ be 2 e.framesOpen ++ be 2 e.leavesComplete ++ be 6 e.doseTotal ++
            be 2 e.damageMarks)) ∧
  (∀ (o : Origin) (firstSlot : Nat) (s : State),
      let used := (List.range 8).filter fun i => decide (firstSlot ≤ i) && (s.entry i).state != .free
      let name := fun (width : Nat) (n : List Byte) => be 1 n.length ++ n ++ List.replicate (width - n.length) 0#8
      let record := fun (i : Nat) =>
        let e := s.entry i
        be 1 i ++ be 1 e.generation ++ be 1 (match e.state with | .free => 0 | .staged => 1 | .mounted => 2) ++
          name 24 e.shelfMark ++ name 8 (e.designation.getD []) ++ be 1 (if e.hold = none then 0 else 1) ++
          be 2 e.framesOpen ++ be 2 e.extentBase ++ be 2 e.leafCount
      s.accepts (.listCustody o firstSlot) o →
        s.onlyAnswers (.listCustody o firstSlot) o .ok
          (be 1 (min 4 used.length) ++ (used.take 4).flatMap record ++ be 1 (used[4]?.getD 255)))

/-! ### The leaf register -/

/-- MARK LEAF (R39, R40): the checks in order; then the mark is replaced, and damage marks and leaves complete move with
it, so that they still count the DAMAGED and the complete leaves (R18, R43). The law of R28 is a premise
(ExtentsShareTheStore keeps it). -/
def Obligations.MarkLeafKeepsTheCounts : Prop :=
  ∀ (o : Origin) (slot generation leaf : Nat) (mark : LeafMark) (s : State),
    let c : Instr := .markLeaf o slot generation leaf mark
    let e := s.entry slot
    let old := s.leaf slot leaf
    let was := leafComplete e.required old
    let now := leafComplete e.required { old with mark := mark }
    let damage :=
      if mark = .damaged ∧ old.mark ≠ .damaged then e.damageMarks + 1
      else if mark ≠ .damaged ∧ old.mark = .damaged then e.damageMarks - 1
      else e.damageMarks
    let complete :=
      if now = true ∧ was = false then e.leavesComplete + 1
      else if now = false ∧ was = true then e.leavesComplete - 1
      else e.leavesComplete
    s.accepts c o → s.extentsShareStore →
      if e.generation ≠ generation then s.onlyAnswers c o .stale []
      else if e.state = .free then s.onlyAnswers c o .state []
      else if e.leafCount ≤ leaf then s.onlyAnswers c o .leafBounds (be 2 e.leafCount)
      else if e.state = .mounted ∧ s.cradle.currentLeaf = some leaf then s.onlyAnswers c o .cradleBusy []
      else
        (s.answersWith c o .ok
          (be 2 leaf ++ be 1 (markCode old.mark) ++ be 1 (markCode mark) ++ be 1 (if now then 1 else 0) ++
            be 2 complete ++ be 2 damage)
          (fun t =>
            (t.onLeaf slot leaf fun r => { r with mark := mark }).onEntry slot fun e =>
              { e with damageMarks := damage, leavesComplete := complete }) []) ∧
          (s.countsAgree slot → ∀ t, exec c s = .next t → t.countsAgree slot)

/-- SET REQUIREMENT (R45): the required set is replaced and leaves complete recounted under it by R43. -/
def Obligations.SetRequirementRecounts : Prop :=
  ∀ (o : Origin) (slot generation : Nat) (bands : BandSet) (s : State),
    let c : Instr := .setRequirement o slot generation bands
    let e := s.entry slot
    let complete := (List.range e.leafCount).countP fun i =>
      let r := s.leaf slot i
      decide (r.mark = .withheld) ||
        (decide (bands &&& r.verso.coverage = bands) && decide (bands &&& r.recto.coverage = bands))
    s.offered c o → slot ≤ 7 → generation ≤ 255 →
      if bands = 0#8 then s.onlyAnswers c o .badArgument []
      else if e.generation ≠ generation then s.onlyAnswers c o .stale []
      else if e.state = .free then s.onlyAnswers c o .state []
      else
        s.answersWith c o .ok (be 1 bands.toNat ++ be 2 complete)
          (State.onEntry slot fun e => { e with required := bands, leavesComplete := complete }) []

/-- READ LEAF (R47) on every link and in every mode: the record, complete under the present set and mark, visible for each
face, current; nothing changes. That at most one entry is MOUNTED is a premise (AtMostOneVolumeMounted keeps it). -/
def Obligations.ReadLeafReportsTheRecord : Prop :=
  ∀ (o : Origin) (slot leaf : Nat) (s : State),
    let c : Instr := .readLeaf o slot leaf
    let e := s.entry slot
    let r := s.leaf slot leaf
    let n := s.cradle.opening
    let complete := r.mark = .withheld ∨
      (e.required &&& r.verso.coverage = e.required ∧ e.required &&& r.recto.coverage = e.required)
    s.quiet → (s.port o.link).idle → s.oneMounted →
      if 7 < slot ∨ 1023 < leaf then s.onlyAnswers c o .badArgument []
      else if e.state = .free then s.onlyAnswers c o .state []
      else if e.leafCount ≤ leaf then s.onlyAnswers c o .leafBounds (be 2 e.leafCount)
      else
        s.onlyAnswers c o .ok
          (be 1 slot ++ be 1 e.generation ++ be 2 leaf ++ be 2 (e.extentBase + leaf) ++ be 1 (markCode r.mark) ++
            be 2 r.turnCount ++ be 4 r.verso.dose ++ be 1 r.verso.coverage.toNat ++ be 2 r.verso.framesOpen ++
            be 4 r.recto.dose ++ be 1 r.recto.coverage.toNat ++ be 2 r.recto.framesOpen ++
            be 1
              ((if complete then 1 else 0) + (if e.state = .mounted ∧ n = leaf + 1 then 2 else 0) +
                (if e.state = .mounted ∧ n = leaf then 4 else 0) +
                (if e.state = .mounted ∧ s.cradle.currentLeaf = some leaf then 8 else 0)))

/-! ### The cradle -/

/-- TURN (R54): the eight checks in order, the first that fails giving the result and nothing changing on a refusal. -/
def Obligations.TurnChecksInOrder : Prop :=
  ∀ (o : Origin) (direction : Direction) (count requestedClass : Nat) (s : State),
    let c : Instr := .turn o direction count requestedClass
    let n := s.cradle.opening
    s.accepts c o →
      if s.station.mode ≠ .ready then s.onlyAnswers c o .mode []
      else
        match s.mountedSlot with
        | none => s.onlyAnswers c o .noVolume []
        | some slot =>
          let e := s.entry slot
          if e.hold ≠ none then s.onlyAnswers c o .held []
          else if s.settings.state ≠ .good then s.onlyAnswers c o .settingsFault []
          else if s.cradle.state ≠ .openReady then s.onlyAnswers c o .cradleBusy []
          else if s.walker.sweep.state ≠ .idle then s.onlyAnswers c o .openingBusy []
          else if s.guards.curtainBroken ∨ s.guards.curtainLatch then s.onlyAnswers c o .guard []
          else if (direction = .forward ∧ e.leafCount < n + count) ∨ (direction = .back ∧ n < count) then
            s.onlyAnswers c o .leafBounds (be 2 e.leafCount)
          else
            ∃ t, exec c s = .next t ∧
              (t.port o.link).request =
                some (.answered { tag := o.tag, code := 15#8, result := .accepted,
                                  body := be 1 (if direction = .forward then 0 else 1) ++ be 1 count ++
                                    be 1 (min requestedClass e.handlingClass) ++ be 2 n })

/-- TURN accepted (R55, R56, R102): a lit preview ends with cause TURN; a leaf marked NORMAL or WITHHELD, or FOLDOUT or DAMAGED
with the matching approval, which is spent, begins BASELINE under the gentler class; any other ends the turn at once with
APPROVAL_REQUIRED, the approval left as it was. -/
def Obligations.TurnStartsTheFirstLeaf : Prop :=
  ∀ (o : Origin) (direction : Direction) (count requestedClass slot : Nat) (s : State),
    let c : Instr := .turn o direction count requestedClass
    let e := s.entry slot
    let n := s.cradle.opening
    let leaf := if direction = .forward then n else n - 1
    let mark := (s.leaf slot leaf).mark
    let plain := mark = .normal ∨ mark = .withheld
    let approved := s.cradle.approval = some { slot := slot, generation := e.generation, leaf := leaf }
    let class_ := min requestedClass e.handlingClass
    let m := s.cradle.sensors
    let record := fun (step : Nat) (c : Cradle) =>
      { c with
        state := .turning
        approval := if plain then c.approval else none
        turn :=
          some { direction := direction, count := count, done := 0, effectiveClass := class_, retriesUsed := 0,
                 phase := .baseline, step := step, leafOnWand := false, lastClass := none, drop := .counted }
        outputs :=
          { c.outputs with wandDrive := .up, armDrive := .toRest none, vacuumOpen := false, airKnife := none } }
    let accepts := s.answersWith c o .accepted
      (be 1 (if direction = .forward then 0 else 1) ++ be 1 count ++ be 1 class_ ++ be 2 n)
    s.accepts c o → s.LightSafe → s.station.mode = .ready → s.mountedSlot = some slot → e.hold = none →
      s.settings.state = .good → s.cradle.state = .openReady → s.cradle.turn = none →
      s.walker.sweep.state = .idle → s.guards.curtainBroken = false → s.guards.curtainLatch = false →
      (direction = .forward → n + count ≤ e.leafCount) → (direction = .back → count ≤ n) →
      (plain ∨ approved → ¬ (m.armRest = true ∧ m.wandDown = false) →
        accepts
          (fun t => (t.previewEnded .turn).onCradle fun c =>
            { record 1 c with timers := { c.timers with lift := some (s.liftTime class_) } }) []) ∧
      (plain ∨ approved → m.armRest = true → m.wandDown = false →
        accepts
          (fun t => ((t.previewEnded .turn).onCradle fun c =>
            { record 2 c with timers := { c.timers with lift := none } }).onGauge fun g =>
            { g with gate := some .baseline, count := 0, countSaturated := false, timer := some s.gateTime }) []) ∧
      (¬ plain → ¬ approved →
        accepts (State.previewEnded .turn) [.turnEnded .approvalRequired 0 n (some leaf) s.gauge.values])

/-- APPROVE TURN (R57): the approval slot takes the leaf named, replacing what it held. CLEAR REFERENCE (R73): the leaf
reference becomes 0, and the reply carries the one it replaced. -/
def Obligations.ApprovalAndReferenceAreReplaced : Prop :=
  (∀ (o : Origin) (slot generation leaf : Nat) (s : State),
      let c : Instr := .approveTurn o slot generation leaf
      let e := s.entry slot
      s.offered c o →
        if 7 < slot ∨ 255 < generation ∨ 1023 < leaf then s.onlyAnswers c o .badArgument []
        else if e.generation ≠ generation then s.onlyAnswers c o .stale []
        else if e.state = .free then s.onlyAnswers c o .state []
        else if e.leafCount ≤ leaf then s.onlyAnswers c o .leafBounds (be 2 e.leafCount)
        else
          s.answersWith c o .ok
            (be 1 slot ++ be 1 generation ++ be 2 leaf ++
              match s.cradle.approval with
              | none => be 1 255 ++ be 1 0 ++ be 2 0
              | some a => be 1 a.slot ++ be 1 a.generation ++ be 2 a.leaf)
            (State.onCradle fun k =>
              { k with approval := some { slot := slot, generation := generation, leaf := leaf } }) []) ∧
  (∀ (o : Origin) (slot generation : Nat) (s : State),
      let c : Instr := .clearReference o slot generation
      let e := s.entry slot
      s.accepts c o →
        if e.generation ≠ generation then s.onlyAnswers c o .stale []
        else if e.state = .free then s.onlyAnswers c o .state []
        else s.answersWith c o .ok (be 2 e.reference) (State.onEntry slot fun e => { e with reference := 0 }) [])

/-- RESUME (R70): the four checks in order; then a held turn is TURNING again in its held phase and step, the outputs of the
step driven and its timer in full, or a new gate where it waits for one; a step whose awaited condition stands goes on at once,
to the next step and no further where the level that one awaits stands too (the model's reading, log 9). A held SETTLING and a
stopped PARKING are driven again with the angle timer in full, arrival tested at once. -/
def Obligations.ResumeReentersHeldWork : Prop :=
  ∀ (o : Origin) (s : State),
    let c : Instr := .resume o
    let k := s.cradle
    let m := k.sensors
    let clear := s.guards.curtainBroken = false ∧ s.guards.curtainLatch = false
    s.accepts c o →
      if ¬ (k.state = .holding ∨ (k.state = .parking ∧ k.drive ≠ .moving)) then s.onlyAnswers c o .state []
      else if s.station.mode ≠ .ready then s.onlyAnswers c o .mode []
      else if s.settings.state ≠ .good then s.onlyAnswers c o .settingsFault []
      else if ¬ clear then s.onlyAnswers c o .guard []
      else
        (∀ (h : HoldRecord) (r : TurnRecord), k.state = .holding → k.hold = some h → h.work = .turn →
          k.turn = some r →
          let e := r.effectiveClass
          let waits :=
            match r.phase, r.step with
            | .baseline, 2 => True
            | .baseline, _ => ¬ (m.armRest = true ∧ m.wandDown = false)
            | .lift, 1 => m.wandDown = false
            | .lift, 2 => m.vacuumHeld = false
            | .lift, 3 => m.wandDown = true
            | .drop, _ => ¬ (m.vacuumHeld = false ∧ m.wandDown = false)
            | .carry, _ => m.armFar = false
            | .lay, 1 => m.wandDown = false
            | .lay, _ => m.vacuumHeld = true
            | .returning, _ => ¬ (m.armRest = true ∧ m.wandDown = false)
            | .settle, _ => s.settleTime e ≠ 0
            | _, _ => True
          waits → (r.phase = .baseline ∨ r.phase = .lift ∨ r.phase = .lay ∨ r.step = 1) →
            (r.phase = .baseline → r.step ≤ 2) → (r.phase = .lift → r.step ≤ 4) → (r.phase = .lay → r.step ≤ 2) →
            1 ≤ r.step →
            ∃ t, exec c s = .next t ∧
              (t.port o.link).request =
                some (.answered { tag := o.tag, code := 17#8, result := .ok, body := be 1 (phaseCode r.phase) }) ∧
              t.cradle.state = .turning ∧ t.cradle.hold = none ∧
              (t.cradle.turn.map fun x => (x.phase, x.step, x.done, x.retriesUsed)) =
                some (r.phase, r.step, r.done, r.retriesUsed) ∧
              t.custody = s.custody ∧ t.sameButTurning s ∧ s.notified t [] ∧
              (match r.phase, r.step with
                | .baseline, 1 => t.cradle.timers.lift = some (s.liftTime e)
                | .baseline, _ => t.gauge.gate = some .baseline ∧ t.gauge.count = 0 ∧ t.gauge.timer = some s.gateTime
                | .lift, 4 => t.gauge.gate = some .lift ∧ t.gauge.count = 0 ∧ t.gauge.timer = some s.gateTime
                | .lift, _ => t.cradle.timers.lift = some (s.liftTime e)
                | .pickConfirm, _ => t.cradle.timers.pickConfirm = some s.pickConfirmTime
                | .drop, _ => t.cradle.timers.lift = some (s.liftTime e)
                | .carry, _ => t.cradle.timers.carry = some (s.carryTime e)
                | .lay, _ => t.cradle.timers.lay = some (s.layTime e)
                | .returning, _ => t.cradle.timers.carry = some (s.carryTime e)
                | .settle, _ => t.cradle.timers.settle = some (s.settleTime e)) ∧
              t.cradle.outputs =
                match r.phase, r.step with
                | .baseline, _ =>
                  { k.outputs with wandDrive := .up, armDrive := .toRest none, vacuumOpen := false, airKnife := none }
                | .lift, 1 => { k.outputs with airKnife := some (s.airLevel e), wandDrive := .down }
                | .lift, 2 => { k.outputs with airKnife := some (s.airLevel e), wandDrive := .down, vacuumOpen := true }
                | .lift, _ => { k.outputs with airKnife := some (s.airLevel e), wandDrive := .up, vacuumOpen := true }
                | .pickConfirm, _ => { k.outputs with wandDrive := .up, vacuumOpen := true }
                | .drop, _ => { k.outputs with vacuumOpen := false, airKnife := none, wandDrive := .up }
                | .carry, _ =>
                  { k.outputs with armDrive := .toFar (s.carrySpeed e), wandDrive := .up, vacuumOpen := true }
                | .lay, 1 => { k.outputs with armDrive := .stopped, wandDrive := .down }
                | .lay, _ => { k.outputs with wandDrive := .down, vacuumOpen := false }
                | .returning, _ => { k.outputs with wandDrive := .up, armDrive := .toRest (some (s.carrySpeed e)) }
                | .settle, _ => { k.outputs with armDrive := .stopped, wandDrive := .stopped }) ∧
        (∀ (h : HoldRecord) (r : TurnRecord), k.state = .holding → k.hold = some h → h.work = .turn →
          k.turn = some r →
          let e := r.effectiveClass
          let at_ := fun (phase : Phase) (step : Nat) => r.phase = phase ∧ r.step = step
          let goesOn := fun (cradle : Cradle → Cradle) (gauge : Gauge → Gauge) =>
            s.answersWith c o .ok (be 1 (phaseCode r.phase))
              (fun s => (s.onCradle fun k => { cradle k with state := .turning, hold := none }).onGauge gauge) []
          let gate := fun (purpose : GatePurpose) (g : Gauge) =>
            { g with gate := some purpose, count := 0, countSaturated := false, timer := some s.gateTime }
          (at_ .baseline 1 → m.armRest = true → m.wandDown = false →
            goesOn
              (fun k =>
                { k with
                  turn := some { r with step := 2 }, timers := { k.timers with lift := none }
                  outputs :=
                    { k.outputs with wandDrive := .up, armDrive := .toRest none, vacuumOpen := false,
                                     airKnife := none } })
              (gate .baseline)) ∧
          (at_ .lift 1 → m.wandDown = true →
            goesOn
              (fun k =>
                { k with
                  turn := some { r with step := 2 }, timers := { k.timers with lift := some (s.liftTime e) }
                  outputs :=
                    { k.outputs with airKnife := some (s.airLevel e), wandDrive := .down, vacuumOpen := true } })
              id) ∧
          (at_ .lift 2 → m.vacuumHeld = true →
            goesOn
              (fun k =>
                { k with
                  turn := some { r with step := 3, leafOnWand := true }
                  timers := { k.timers with lift := some (s.liftTime e) }
                  outputs :=
                    { k.outputs with airKnife := some (s.airLevel e), wandDrive := .up, vacuumOpen := true } })
              id) ∧
          (at_ .lift 3 → m.wandDown = false →
            goesOn
              (fun k =>
                { k with
                  turn := some { r with step := 4 }, timers := { k.timers with lift := none }
                  outputs :=
                    { k.outputs with airKnife := some (s.airLevel e), wandDrive := .up, vacuumOpen := true } })
              (gate .lift)) ∧
          (at_ .carry 1 → m.armFar = true →
            goesOn
              (fun k =>
                { k with
                  turn := some { r with phase := .lay, step := 1 }
                  timers := { k.timers with pickConfirm := none, carry := none, lay := some (s.layTime e) }
                  outputs := { k.outputs with armDrive := .stopped, wandDrive := .down, vacuumOpen := true } })
              id) ∧
          (at_ .lay 1 → m.wandDown = true →
            goesOn
              (fun k =>
                { k with
                  turn := some { r with step := 2, leafOnWand := false }
                  timers := { k.timers with carry := none, lay := some (s.layTime e) }
                  outputs := { k.outputs with armDrive := .stopped, wandDrive := .down, vacuumOpen := false } })
              id) ∧
          (at_ .lay 2 → m.vacuumHeld = false →
            goesOn
              (fun k =>
                { k with
                  turn := some { r with phase := .returning, step := 1 }
                  timers := { k.timers with lay := none, carry := some (s.carryTime e) }
                  outputs :=
                    { k.outputs with wandDrive := .up, armDrive := .toRest (some (s.carrySpeed e)),
                                     vacuumOpen := false } })
              id) ∧
          (at_ .returning 1 → m.armRest = true → m.wandDown = false → s.settleTime e ≠ 0 →
            goesOn
              (fun k =>
                { k with
                  turn := some { r with phase := .settle, step := 1 }
                  timers := { k.timers with lay := none, carry := none, settle := some (s.settleTime e) }
                  outputs := { k.outputs with wandDrive := .stopped, armDrive := .stopped } })
              id) ∧
          (at_ .drop 1 → m.vacuumHeld = false → m.wandDown = false → m.armRest = false →
            (r.drop = .rejected ∨ (r.drop = .counted ∧ r.retriesUsed + 1 ≤ s.retries e)) →
            goesOn
              (fun k =>
                { k with
                  turn :=
                    some { r with
                      phase := .baseline, step := 1, leafOnWand := false
                      retriesUsed := if r.drop = .counted then r.retriesUsed + 1 else r.retriesUsed }
                  timers := { k.timers with pickConfirm := none, lift := some (s.liftTime e) }
                  outputs :=
                    { k.outputs with wandDrive := .up, armDrive := .toRest none, vacuumOpen := false,
                                     airKnife := none } })
              id) ∧
          (∀ slot leaf, at_ .settle 1 → s.settleTime e = 0 → r.done + 1 = r.count → s.mountedSlot = some slot →
            k.currentLeaf = some leaf →
            s.answersWith c o .ok (be 1 7)
              (fun s =>
                ((s.onEntry slot fun e => { e with turns := (e.turns + 1) % 4294967296 }).onLeaf slot leaf fun x =>
                  { x with turnCount := min 65535 (x.turnCount + 1) }).onCradle fun k =>
                { k with
                  state := .openReady, hold := none, turn := none
                  opening := if r.direction = .forward then k.opening + 1 else k.opening - 1
                  timers := { k.timers with carry := none, settle := none }
                  outputs := { k.outputs with armDrive := .stopped, wandDrive := .stopped } })
              [.turnEnded .complete (r.done + 1) (if r.direction = .forward then k.opening + 1 else k.opening - 1)
                none s.gauge.values])) ∧
        (∀ (h : HoldRecord) (slot : Nat), k.state = .holding → k.hold = some h → h.work = .settling →
          s.mountedSlot = some slot →
          let limit := (s.entry slot).angleLimit
          let near := m.angle ≤ limit + 2 ∧ limit ≤ m.angle + 2
          s.answersWith c o .ok (be 1 8)
            (State.onCradle fun k =>
              { k with
                hold := none
                state := if near then .openReady else .settling
                timers := { k.timers with angle := if near then none else some (s.angleTime k.moveClass) }
                outputs := { k.outputs with angleDrive := if near then .holding limit else .toward limit } })
            (if near then [.volumeMounted slot (s.entry slot).generation k.opening limit] else [])) ∧
        (k.state = .parking →
          let arrived := 178 ≤ m.angle ∧ m.armRest = true ∧ m.wandDown = false
          s.answersWith c o .ok (be 1 9)
            (State.onCradle fun k =>
              { k with
                state := if arrived then .parked else .parking
                drive := .moving
                parked := if arrived then none else k.parked
                timers := { k.timers with angle := if arrived then none else some (s.angleTime k.moveClass) }
                outputs :=
                  if arrived then
                    { angleDrive := .stopped, armDrive := .stopped, wandDrive := .stopped, vacuumOpen := false,
                      airKnife := none }
                  else
                    { angleDrive := .toward 180, armDrive := .toRest none, wandDrive := .up, vacuumOpen := false,
                      airKnife := none } })
            (match k.parked with
              | some v => if arrived then [.volumeDismounted v.slot v.generation] else []
              | none => []))

/-- RECOVER TURN (R71): the three checks in order, nothing changing on a refusal. Accepted (R72): with no turn record SETTLING
begins again, ended at once within 2 degrees of the limit; else the mechanism is sent to rest under class 1, and once it is at
rest, in the same event or at the change that brings it there, the opening is the one named, the leaf booked when that differs
from the opening before, and the turn ends RECOVERED. The drives stopped at the end of a recovery are the model's reading
(log 11). -/
def Obligations.RecoverTurnBringsTheMechanismToRest : Prop :=
  (∀ (o : Origin) (opening : Nat) (s : State),
    let c : Instr := .recoverTurn o opening
    let k := s.cradle
    let m := k.sensors
    let atRest := m.armRest = true ∧ m.wandDown = false
    let allowed :=
      match k.turn with
      | none => opening = k.opening
      | some r =>
        opening = k.opening ∨
          (match r.direction with
            | .forward => opening = k.opening + 1
            | .back => opening + 1 = k.opening)
    s.accepts c o →
      (¬ (k.state = .fault ∨ (k.state = .holding ∧ k.turn ≠ none)) → s.onlyAnswers c o .state []) ∧
      ∀ slot, s.mountedSlot = some slot → (k.state = .fault ∨ (k.state = .holding ∧ k.turn ≠ none)) →
        (¬ allowed → s.onlyAnswers c o .leafBounds (be 2 (s.entry slot).leafCount)) ∧
        (allowed → (s.guards.curtainBroken = true ∨ s.guards.curtainLatch = true) → s.onlyAnswers c o .guard []) ∧
        (allowed → s.guards.curtainBroken = false → s.guards.curtainLatch = false →
          (k.turn = none →
            let limit := (s.entry slot).angleLimit
            let near := m.angle ≤ limit + 2 ∧ limit ≤ m.angle + 2
            s.answersWith c o .ok []
              (State.onCradle fun k =>
                { k with
                  state := if near then .openReady else .settling
                  fault := none, moveClass := (s.entry slot).handlingClass
                  timers :=
                    { k.timers with
                      angle := if near then none else some (s.angleTime (s.entry slot).handlingClass) }
                  outputs := { k.outputs with angleDrive := if near then .holding limit else .toward limit } })
              (if near then [.volumeMounted slot (s.entry slot).generation k.opening limit] else [])) ∧
          (∀ r, k.turn = some r → ¬ atRest →
            s.answersWith c o .ok []
              (State.onCradle fun k =>
                { k with
                  state := .recovering, hold := none, fault := none, target := some opening
                  turn := some { r with leafOnWand := false }
                  timers := { k.timers with recovery := some (s.carryTime 1) }
                  outputs :=
                    { k.outputs with vacuumOpen := false, airKnife := none, wandDrive := .up,
                                     armDrive := .toRest (some (s.carrySpeed 1)) } }) []) ∧
          (∀ r leaf, k.turn = some r → k.currentLeaf = some leaf → atRest →
            s.answersWith c o .ok []
              (fun t =>
                (if opening = k.opening then t
                 else
                  (t.onEntry slot fun e => { e with turns := (e.turns + 1) % 4294967296 }).onLeaf slot leaf fun x =>
                    { x with turnCount := min 65535 (x.turnCount + 1) }).onCradle fun k =>
                { k with
                  state := .openReady, hold := none, fault := none, target := none, turn := none, opening := opening
                  timers := { k.timers with recovery := none }
                  outputs :=
                    { k.outputs with vacuumOpen := false, airKnife := none, wandDrive := .stopped,
                                     armDrive := .stopped } })
              [.turnEnded .recovered (if opening = k.opening then r.done else r.done + 1) opening none
                s.gauge.values]))) ∧
  (∀ (opening slot leaf : Nat) (r : TurnRecord) (s : State),
    let k := s.cradle
    let ends := fun (c : Instr) (sensors : Sensors) =>
      exec c s =
        .next (((if opening = k.opening then s
          else
            (s.onEntry slot fun e => { e with turns := (e.turns + 1) % 4294967296 }).onLeaf slot leaf fun x =>
              { x with turnCount := min 65535 (x.turnCount + 1) }).onCradle fun k =>
          { k with
            state := .openReady, target := none, turn := none, opening := opening, sensors := sensors
            timers := { k.timers with recovery := none }
            outputs := { k.outputs with wandDrive := .stopped, armDrive := .stopped } }).announced
          [.turnEnded .recovered (if opening = k.opening then r.done else r.done + 1) opening none s.gauge.values])
    s.quiet → k.state = .recovering → k.target = some opening → k.turn = some r → s.mountedSlot = some slot →
      k.currentLeaf = some leaf →
      (k.sensors.armRest = false → k.sensors.wandDown = false →
        ends (.armRestChange true) { k.sensors with armRest := true }) ∧
      (k.sensors.armRest = true → k.sensors.wandDown = true →
        ends (.wandDownChange false) { k.sensors with wandDown := false }))

/-! ### The phases of a leaf -/

/-- A step of a turn awaits one level or two, and the change that brings them ends the step (R60, R61, R63, R64, R65): the
outputs, timers, gate and record of the next step, and nothing else. A step entered with its own level already standing waits
for the next change to it (the model's reading, log 9), but for BASELINE, which tests at entry and with the mechanism at rest
passes to its gate in the same event. RETURN and a DROP that was not counted end at either of their two changes; a settle time
of 0 expires in the event that ends RETURN: the leaf booked (R18, R34), the turn COMPLETE, or the next leaf begun or the turn ended
APPROVAL_REQUIRED by its mark and approval (R56). -/
def Obligations.SensorsEndTheSteps : Prop :=
  ∀ (s : State) (r : TurnRecord),
    let k := s.cradle
    let e := r.effectiveClass
    let at_ := fun (phase : Phase) (step : Nat) => r.phase = phase ∧ r.step = step
    let leaves := fun (c : Instr) (f : State → State) => exec c s = .next (f s)
    let gated := fun (purpose : GatePurpose) (s : State) =>
      s.onGauge fun g =>
        { g with gate := some purpose, count := 0, countSaturated := false, timer := some s.gateTime }
    let brings := fun (c : Instr) (sensors : Sensors) =>
      (c = .armRestChange true ∧ k.sensors.armRest = false ∧ k.sensors.wandDown = false ∧
        sensors = { k.sensors with armRest := true }) ∨
      (c = .wandDownChange false ∧ k.sensors.wandDown = true ∧ k.sensors.armRest = true ∧
        sensors = { k.sensors with wandDown := false })
    let releases := fun (c : Instr) (sensors : Sensors) =>
      (c = .vacuumHeldChange false ∧ k.sensors.vacuumHeld = true ∧ k.sensors.wandDown = false ∧
        sensors = { k.sensors with vacuumHeld := false }) ∨
      (c = .wandDownChange false ∧ k.sensors.wandDown = true ∧ k.sensors.vacuumHeld = false ∧
        sensors = { k.sensors with wandDown := false })
    s.quiet → k.state = .turning → k.turn = some r →
      (∀ c sensors, at_ .baseline 1 → brings c sensors →
        leaves c fun s => gated .baseline (s.onCradle fun k =>
          { k with
            sensors := sensors, turn := some { r with phase := .baseline, step := 2 }
            timers := { k.timers with lift := none } })) ∧
      (at_ .lift 1 → k.sensors.wandDown = false →
        leaves (.wandDownChange true) fun s => s.onCradle fun k =>
          { k with
            sensors := { k.sensors with wandDown := true }, turn := some { r with phase := .lift, step := 2 }
            outputs := { k.outputs with vacuumOpen := true } }) ∧
      (at_ .lift 2 → k.sensors.vacuumHeld = false →
        leaves (.vacuumHeldChange true) fun s => s.onCradle fun k =>
          { k with
            sensors := { k.sensors with vacuumHeld := true }
            turn := some { r with phase := .lift, step := 3, leafOnWand := true }
            outputs := { k.outputs with wandDrive := .up } }) ∧
      (at_ .lift 3 → k.sensors.wandDown = true →
        leaves (.wandDownChange false) fun s => gated .lift (s.onCradle fun k =>
          { k with
            sensors := { k.sensors with wandDown := false }, turn := some { r with phase := .lift, step := 4 }
            timers := { k.timers with lift := none } })) ∧
      (at_ .carry 1 → k.sensors.armFar = false →
        leaves (.armFarChange true) fun s => s.onCradle fun k =>
          { k with
            sensors := { k.sensors with armFar := true }, turn := some { r with phase := .lay, step := 1 }
            timers := { k.timers with carry := none, lay := some (s.layTime e) }
            outputs := { k.outputs with armDrive := .stopped, wandDrive := .down } }) ∧
      (at_ .lay 1 → k.sensors.wandDown = false →
        leaves (.wandDownChange true) fun s => s.onCradle fun k =>
          { k with
            sensors := { k.sensors with wandDown := true }
            turn := some { r with phase := .lay, step := 2, leafOnWand := false }
            outputs := { k.outputs with vacuumOpen := false } }) ∧
      (at_ .lay 2 → r.leafOnWand = false → k.sensors.vacuumHeld = true →
        leaves (.vacuumHeldChange false) fun s => s.onCradle fun k =>
          { k with
            sensors := { k.sensors with vacuumHeld := false }, turn := some { r with phase := .returning, step := 1 }
            timers := { k.timers with lay := none, carry := some (s.carryTime e) }
            outputs := { k.outputs with wandDrive := .up, armDrive := .toRest (some (s.carrySpeed e)) } }) ∧
      (∀ c sensors, at_ .returning 1 → brings c sensors →
        (s.settleTime e ≠ 0 →
          leaves c fun s => s.onCradle fun k =>
            { k with
              sensors := sensors, turn := some { r with phase := .settle, step := 1 }
              timers := { k.timers with carry := none, settle := some (s.settleTime e) }
              outputs := { k.outputs with armDrive := .stopped, wandDrive := .stopped } }) ∧
        (∀ slot leaf, s.settleTime e = 0 → s.mountedSlot = some slot → k.currentLeaf = some leaf →
          let opening := if r.direction = .forward then k.opening + 1 else k.opening - 1
          let next_ := if r.direction = .forward then opening else opening - 1
          let mark := (s.leaf slot next_).mark
          let plain := mark = .normal ∨ mark = .withheld
          let approved := k.approval = some { slot := slot, generation := (s.entry slot).generation, leaf := next_ }
          let booked :=
            ((s.onEntry slot fun e => { e with turns := (e.turns + 1) % 4294967296 }).onLeaf slot leaf fun x =>
              { x with turnCount := min 65535 (x.turnCount + 1) }).onCradle fun k =>
              { k with
                sensors := sensors, opening := opening
                timers := { k.timers with carry := none, settle := none }
                outputs := { k.outputs with armDrive := .stopped, wandDrive := .stopped } }
          let ended := fun (result : TurnResult) (named : Option Nat) =>
            exec c s =
              .next ((booked.onCradle fun k => { k with state := .openReady, turn := none }).announced
                [.turnEnded result (r.done + 1) opening named s.gauge.values])
          (r.done + 1 = r.count → ended .complete none) ∧
          (r.done + 1 ≠ r.count → leaf ≠ next_ → plain ∨ approved →
            exec c s =
              .next (gated .baseline (booked.onCradle fun k =>
                { k with
                  approval := if plain then k.approval else none
                  turn :=
                    some { r with done := r.done + 1, retriesUsed := 0, lastClass := none, phase := .baseline, step := 2 }
                  timers := { k.timers with lift := none }
                  outputs :=
                    { k.outputs with wandDrive := .up, armDrive := .toRest none, vacuumOpen := false,
                                     airKnife := none } }))) ∧
          (r.done + 1 ≠ r.count → leaf ≠ next_ → ¬ plain → ¬ approved → ended .approvalRequired (some next_)))) ∧
      (∀ c sensors, at_ .drop 1 → r.drop = .rejected → r.leafOnWand = false → releases c sensors →
        leaves c fun s =>
          let begun := fun (step : Nat) (lift : Option Nat) => s.onCradle fun k =>
            { k with
              sensors := sensors, turn := some { r with phase := .baseline, step := step }
              timers := { k.timers with lift := lift }
              outputs :=
                { k.outputs with wandDrive := .up, armDrive := .toRest none, vacuumOpen := false, airKnife := none } }
          if k.sensors.armRest then gated .baseline (begun 2 none) else begun 1 (some (s.liftTime e)))

/-- A sensor change that the cradle state, phase and step do not await is taken and changes nothing but the level read
(R49): in the resting states, HOLDING and FAULT, in each phase and step of TURNING, in SETTLING, RECOVERING and PARKING. That a
PARKING whose drive is STOPPED awaits no sensor, and that a change to the level that stands changes nothing, are the model's
readings (log 31, log 5). -/
def Obligations.UnawaitedSensorChangesAreOnlyRead : Prop :=
  ∀ (s : State), s.quiet →
    let k := s.cradle
    let m := k.sensors
    let resting := k.state = .parked ∨ k.state = .openReady
    let reads := fun (c : Instr) (f : Sensors → Sensors) =>
      exec c s = .next (s.onCradle fun k => { k with sensors := f k.sensors })
    let angle := fun degrees => reads (.angleChange degrees) fun m => { m with angle := degrees }
    let wandDown := fun level => reads (.wandDownChange level) fun m => { m with wandDown := level }
    let vacuumHeld := fun level => reads (.vacuumHeldChange level) fun m => { m with vacuumHeld := level }
    let armFar := fun level => reads (.armFarChange level) fun m => { m with armFar := level }
    let armRest := fun level => reads (.armRestChange level) fun m => { m with armRest := level }
    let phase := k.turn.map (·.phase)
    let at_ := fun (p : Phase) (n : Nat) => (k.turn.map fun r => (r.phase, r.step)) = some (p, n)
    (resting ∨ k.state = .holding ∨ k.state = .fault →
      (∀ degrees, angle degrees) ∧ (∀ level, wandDown level) ∧ (∀ level, armFar level) ∧ ∀ level, armRest level) ∧
    (resting ∨ k.leafOnWand = false ∧ (k.state = .holding ∨ k.state = .fault) → ∀ level, vacuumHeld level) ∧
    (k.state = .turning →
      (∀ degrees, angle degrees) ∧
      (∀ level, ¬ (phase = some .carry ∧ level = true) → armFar level) ∧
      (∀ level, ¬ ((at_ .baseline 1 ∨ phase = some .returning) ∧ level = true ∧ m.wandDown = false) → armRest level) ∧
      (∀ level, ¬ ((at_ .baseline 1 ∨ phase = some .returning) ∧ level = false ∧ m.armRest = true) →
        ¬ (at_ .lift 1 ∧ level = true) → ¬ (at_ .lift 3 ∧ level = false) → ¬ (at_ .lay 1 ∧ level = true) →
        ¬ (phase = some .drop ∧ level = false ∧ m.vacuumHeld = false) → wandDown level) ∧
      (∀ level, (level = true ∨ k.leafOnWand = false) → ¬ (at_ .lift 2 ∧ level = true) →
        ¬ (at_ .lay 2 ∧ level = false) → ¬ (phase = some .drop ∧ level = false ∧ m.wandDown = false) →
        vacuumHeld level)) ∧
    (k.state = .settling →
      (∀ level, wandDown level) ∧ (∀ level, vacuumHeld level) ∧ (∀ level, armFar level) ∧ ∀ level, armRest level) ∧
    (k.state = .recovering →
      (∀ degrees, angle degrees) ∧ (∀ level, vacuumHeld level) ∧ (∀ level, armFar level) ∧
      (∀ level, ¬ (level = true ∧ m.wandDown = false) → armRest level) ∧
      ∀ level, ¬ (level = false ∧ m.armRest = true) → wandDown level) ∧
    (k.state = .parking →
      (∀ level, vacuumHeld level) ∧ (∀ level, armFar level) ∧
      (∀ degrees, ¬ (k.drive = .moving ∧ 178 ≤ degrees ∧ m.armRest = true ∧ m.wandDown = false) → angle degrees) ∧
      (∀ level, ¬ (k.drive = .moving ∧ 178 ≤ m.angle ∧ level = true ∧ m.wandDown = false) → armRest level) ∧
      ∀ level, ¬ (k.drive = .moving ∧ 178 ≤ m.angle ∧ m.armRest = true ∧ level = false) → wandDown level) ∧
    (exec (.angleChange m.angle) s = .next s ∧ exec (.wandDownChange m.wandDown) s = .next s ∧
      exec (.vacuumHeldChange m.vacuumHeld) s = .next s ∧ exec (.armFarChange m.armFar) s = .next s ∧
      exec (.armRestChange m.armRest) s = .next s)

/-- A fall of VACUUM HELD with the leaf on the wand (R66, R67): in TURNING and HOLDING the turn faults with VACUUM_LOST in its
phase, drives stopped, valve closed, every phase timer stopped, the hold record discarded, the volume held; in FAULT the
cause is replaced and TURN FAULT posted again. The lift, carry and lay timeouts and the recovery timer (R59, R66, R72): the
turn faults with TIMEOUT in its phase, a recovery in RETURN, the valve left open only over a leaf on the wand, the volume
held. A timer that does not run expires without effect (the model's reading, log 3). -/
def Obligations.FaultsStopTheTurn : Prop :=
  (∀ (s : State) (r : TurnRecord) (slot : Nat),
      let k := s.cradle
      s.quiet → k.turn = some r → r.leafOnWand = true → k.sensors.vacuumHeld = true → s.mountedSlot = some slot →
        ((k.state = .turning ∨ k.state = .holding) →
          exec (.vacuumHeldChange false) s =
            .next
              ((((s.onCradle fun k =>
                { k with
                  state := .fault, hold := none, fault := some { cause := .vacuumLost, phase := some r.phase }
                  sensors := { k.sensors with vacuumHeld := false }, turn := some { r with leafOnWand := false }
                  timers := { CradleTimers.stopped with angle := k.timers.angle }
                  outputs :=
                    { k.outputs with armDrive := .stopped, wandDrive := .stopped, vacuumOpen := false,
                                     airKnife := none } }).onGauge fun g =>
                { g with gate := none, count := 0, countSaturated := false, timer := none }).onEntry slot fun e =>
                { e with hold := some .turnFault }).announced
                [.turnFault .vacuumLost (.phase r.phase) r.done k.currentLeaf s.gauge.values])) ∧
        (∀ f phase, k.state = .fault → k.fault = some f → f.phase = some phase →
          exec (.vacuumHeldChange false) s =
            .next
              (((s.onCradle fun k =>
                { k with
                  fault := some { cause := .vacuumLost, phase := some phase }
                  sensors := { k.sensors with vacuumHeld := false }, turn := some { r with leafOnWand := false }
                  outputs := { k.outputs with vacuumOpen := false } }).onEntry slot fun e =>
                { e with hold := some .turnFault }).announced
                [.turnFault .vacuumLost (.phase phase) r.done k.currentLeaf s.gauge.values]))) ∧
  (∀ (s : State) (r : TurnRecord) (slot : Nat),
      let k := s.cradle
      let faulted := fun (phase : Phase) =>
        ((((s.onCradle fun k =>
          { k with
            state := .fault, hold := none, target := none, fault := some { cause := .timeout, phase := some phase }
            timers := { CradleTimers.stopped with angle := k.timers.angle }
            outputs :=
              { k.outputs with armDrive := .stopped, wandDrive := .stopped, vacuumOpen := r.leafOnWand,
                               airKnife := none } }).onGauge fun g =>
          { g with gate := none, count := 0, countSaturated := false, timer := none }).onEntry slot fun e =>
          { e with hold := some .turnFault }).announced
          [.turnFault .timeout (.phase phase) r.done k.currentLeaf s.gauge.values])
      s.quiet → k.turn = some r → s.mountedSlot = some slot →
        (k.state = .turning → k.target = none →
          (k.timers.lift ≠ none → exec .liftTimeout s = .next (faulted r.phase)) ∧
            (k.timers.carry ≠ none → exec .carryTimeout s = .next (faulted r.phase)) ∧
            (k.timers.lay ≠ none → exec .layTimeout s = .next (faulted r.phase))) ∧
        (k.state = .recovering → k.timers.recovery ≠ none →
          exec .recoveryTimerExpiry s = .next (faulted .returning)) ∧
        (k.timers.lift = none → exec .liftTimeout s = .next s) ∧
        (k.timers.carry = none → exec .carryTimeout s = .next s) ∧
        (k.timers.lay = none → exec .layTimeout s = .next s) ∧
        (k.timers.recovery = none → exec .recoveryTimerExpiry s = .next s))

/-- The settle time expires (R65, R18, R34): the opening moves by one in the turn's direction, the leaf and the entry are
booked, done rises and retries used returns to 0; the last leaf ends the turn COMPLETE. A next leaf (R56) marked NORMAL or
WITHHELD, or FOLDOUT or DAMAGED with the matching approval, which is spent, begins BASELINE at the new opening: step 1 with
the lift timer, or, with ARM REST true and WAND DOWN false, step 2 and its gauge gate in the same event (R60). Any other next
leaf ends the turn APPROVAL_REQUIRED, the approval left as it was. -/
def Obligations.SettleBooksTheLeaf : Prop :=
  ∀ (s : State) (r : TurnRecord) (slot leaf : Nat),
    let k := s.cradle
    let m := k.sensors
    let opening := if r.direction = .forward then k.opening + 1 else k.opening - 1
    let next_ := if r.direction = .forward then opening else opening - 1
    let booked := fun (s : State) =>
      (s.onEntry slot fun e => { e with turns := (e.turns + 1) % 4294967296 }).onLeaf slot leaf fun x =>
        { x with turnCount := min 65535 (x.turnCount + 1) }
    let mark := (s.leaf slot next_).mark
    let plain := mark = .normal ∨ mark = .withheld
    let approved := k.approval = some { slot := slot, generation := (s.entry slot).generation, leaf := next_ }
    let begun := fun (step : Nat) (lift : Option Nat) =>
      (booked s).onCradle fun k =>
        { k with
          opening := opening
          approval := if plain then k.approval else none
          turn :=
            some { r with done := r.done + 1, retriesUsed := 0, lastClass := none, phase := .baseline, step := step }
          timers := { k.timers with settle := none, lift := lift }
          outputs :=
            { k.outputs with wandDrive := .up, armDrive := .toRest none, vacuumOpen := false, airKnife := none } }
    s.quiet → k.state = .turning → k.turn = some r → k.timers.settle ≠ none → s.mountedSlot = some slot →
      k.currentLeaf = some leaf →
      (r.done + 1 = r.count →
        exec .settleTimerExpiry s =
          .next (((booked s).onCradle fun k =>
            { k with
              state := .openReady, turn := none, opening := opening
              timers := { k.timers with settle := none } }).announced
            [.turnEnded .complete (r.done + 1) opening none s.gauge.values])) ∧
      (r.done + 1 ≠ r.count → leaf ≠ next_ →
        (plain ∨ approved → ¬ (m.armRest = true ∧ m.wandDown = false) →
          exec .settleTimerExpiry s = .next (begun 1 (some (s.liftTime r.effectiveClass)))) ∧
        (plain ∨ approved → m.armRest = true → m.wandDown = false →
          exec .settleTimerExpiry s =
            .next ((begun 2 none).onGauge fun g =>
              { g with gate := some .baseline, count := 0, countSaturated := false, timer := some s.gateTime })) ∧
        (¬ plain → ¬ approved →
          exec .settleTimerExpiry s =
            .next (((booked s).onCradle fun k =>
              { k with
                state := .openReady, turn := none, opening := opening
                timers := { k.timers with settle := none } }).announced
              [.turnEnded .approvalRequired (r.done + 1) opening (some next_) s.gauge.values])))

/-- CONFIRM PICK, REJECT PICK and the pick confirm timeout (R62, R81, R82): STATE outside PICK_CONFIRM, STALE for another
leaf; a confirmed leaf teaches the delta and goes to CARRY, where it waits for a change of ARM FAR also where that level stands
(the model's reading, log 9); a rejected or unconfirmed one is dropped, and its DROP ends in the same event (R63) where VACUUM
HELD and WAND DOWN are both false: a rejected one begins BASELINE, an unconfirmed one faults the turn with NO_CONFIRM. -/
def Obligations.PickConfirmationCarriesOrDrops : Prop :=
  ∀ (o : Origin) (slot leaf : Nat) (s : State),
    let k := s.cradle
    let waiting := k.state = .turning ∧ k.turn.map (·.phase) = some .pickConfirm
    let named := s.mountedSlot = some slot ∧ k.currentLeaf = some leaf
    let released := k.sensors.vacuumHeld = false ∧ k.sensors.wandDown = false
    let dropped := fun (r : TurnRecord) (kind : DropKind) => State.onCradle fun k =>
      { k with
        turn := some { r with phase := .drop, step := 1, leafOnWand := false, drop := kind }
        timers := { k.timers with pickConfirm := none, lift := some (s.liftTime r.effectiveClass) }
        outputs := { k.outputs with vacuumOpen := false, airKnife := none, wandDrive := .up } }
    (∀ c, (c = .confirmPick o slot leaf ∨ c = .rejectPick o slot leaf) → s.accepts c o →
      (¬ waiting → s.onlyAnswers c o .state []) ∧ (waiting → ¬ named → s.onlyAnswers c o .stale [])) ∧
    (∀ r, s.accepts (.confirmPick o slot leaf) o → waiting → named → k.turn = some r →
      s.answersWith (.confirmPick o slot leaf) o .ok (be 2 s.gauge.delta ++ be 2 (s.entry slot).reference)
        (fun t => (t.onEntry slot fun e => { e with reference := s.gauge.delta }).onCradle fun k =>
          { k with
            turn := some { r with phase := .carry, step := 1 }
            timers := { k.timers with pickConfirm := none, carry := some (s.carryTime r.effectiveClass) }
            outputs :=
              { k.outputs with armDrive := .toFar (s.carrySpeed r.effectiveClass), wandDrive := .up,
                               vacuumOpen := true } }) []) ∧
    (∀ r, s.accepts (.rejectPick o slot leaf) o → waiting → named → k.turn = some r →
      let rejects := fun (effect : State → State) => s.answersWith (.rejectPick o slot leaf) o .ok [] effect []
      let begun := fun (step : Nat) (lift : Option Nat) => State.onCradle fun k =>
        { k with
          turn := some { r with phase := .baseline, step := step, leafOnWand := false, drop := .rejected }
          timers := { k.timers with pickConfirm := none, lift := lift }
          outputs :=
            { k.outputs with wandDrive := .up, armDrive := .toRest none, vacuumOpen := false, airKnife := none } }
      (¬ released → rejects (dropped r .rejected)) ∧
      (released → k.sensors.armRest = false → rejects (begun 1 (some (s.liftTime r.effectiveClass)))) ∧
      (released → k.sensors.armRest = true →
        rejects fun t => (begun 2 none t).onGauge fun g =>
          { g with gate := some .baseline, count := 0, countSaturated := false, timer := some s.gateTime })) ∧
    (∀ r, s.quiet → k.state = .turning → k.turn = some r → k.timers.pickConfirm ≠ none →
      (¬ released → exec .pickConfirmTimeout s = .next (dropped r .unconfirmed s)) ∧
      (released → s.mountedSlot = some slot →
        exec .pickConfirmTimeout s =
          .next ((((s.onCradle fun k =>
            { k with
              state := .fault, hold := none, fault := some { cause := .noConfirm, phase := some .drop }
              turn := some { r with phase := .drop, step := 1, leafOnWand := false, drop := .unconfirmed }
              timers := { CradleTimers.stopped with angle := k.timers.angle }
              outputs :=
                { k.outputs with armDrive := .stopped, wandDrive := .stopped, vacuumOpen := false,
                                 airKnife := none } }).onGauge fun g =>
            { g with gate := none, count := 0, countSaturated := false, timer := none }).onEntry slot fun e =>
            { e with hold := some .turnFault }).announced
            [.turnFault .noConfirm (.phase .drop) r.done k.currentLeaf s.gauge.values])))

/-- The end of a DROP (R63), at the fall of VACUUM HELD with WAND DOWN false or at the fall of WAND DOWN with VACUUM HELD false:
after a counted one retries used rises, a fresh BASELINE is taken while it is at or below the profile's retries, and past them
the turn faults in DROP with PICK_NONE after a class NONE and PICK_DOUBLE otherwise, TURN FAULT posted; a rejected one takes a
fresh BASELINE uncounted, an unconfirmed one faults with NO_CONFIRM. BASELINE with the arm at rest passes to its gate in the same
event (R60). -/
def Obligations.DropsAreCounted : Prop :=
  ∀ (byWand : Bool) (s : State) (r : TurnRecord) (slot : Nat),
    let k := s.cradle
    let c : Instr := if byWand then .wandDownChange false else .vacuumHeldChange false
    let used := if r.drop = .counted then r.retriesUsed + 1 else r.retriesUsed
    s.quiet → k.state = .turning → k.turn = some r → r.phase = .drop → r.leafOnWand = false →
      k.sensors.vacuumHeld = !byWand → k.sensors.wandDown = byWand → s.mountedSlot = some slot →
      ∃ t, exec c s = .next t ∧ (t.cradle.turn.map (·.retriesUsed)) = some used ∧
        t.sameButTurning s ∧ t.cradle.opening = k.opening ∧ t.custody.leaves = s.custody.leaves ∧
        (∀ i, i < 8 → i ≠ slot → t.entry i = s.entry i) ∧
        let begins :=
          t.cradle.state = .turning ∧ t.custody = s.custody ∧ s.notified t [] ∧
            (if k.sensors.armRest then
              t.cradle.turn.map (fun x => (x.phase, x.step)) = some (.baseline, 2) ∧ t.cradle.timers.lift = none ∧
                t.gauge.gate = some .baseline ∧ t.gauge.count = 0 ∧ t.gauge.timer = some s.gateTime
            else
              t.cradle.turn.map (fun x => (x.phase, x.step)) = some (.baseline, 1) ∧
                t.cradle.timers.lift = some (s.liftTime r.effectiveClass) ∧ t.gauge = s.gauge)
        let faults := fun (cause : FaultCause) =>
          t.cradle.state = .fault ∧ t.cradle.fault = some { cause := cause, phase := some .drop } ∧
            t.cradle.timers = { CradleTimers.stopped with angle := k.timers.angle } ∧
            t.entry slot = { s.entry slot with hold := some .turnFault } ∧
            s.notified t [.turnFault cause (.phase .drop) r.done k.currentLeaf s.gauge.values]
        (r.drop = .counted → used ≤ s.retries r.effectiveClass → begins) ∧
        (r.drop = .counted → s.retries r.effectiveClass < used →
          faults (if r.lastClass = some .nothing then .pickNone else .pickDouble)) ∧
        (r.drop = .rejected → begins) ∧ (r.drop = .unconfirmed → faults .noConfirm)

/-- The gauge gate (R77 to R80, R61): a cycle counts in a gate, saturating at 65535, and the one that brings the count there
marks the gate saturated (the model's reading, log 12); a BASELINE gate gives the baseline and the leaf goes to LIFT; a LIFT
gate gives the reading, the delta and the class, a SINGLE adapts the reference and is carried, an UNKNOWN waits for
confirmation, any other is dropped, and its DROP ends in the same event where VACUUM HELD and WAND DOWN are both false (R63). LIFT
and CARRY, entered with WAND DOWN or ARM FAR standing, wait for the next change to it (the model's reading, log 9). -/
def Obligations.GaugeGatesClassifyThePick : Prop :=
  ∀ (s : State) (r : TurnRecord) (slot : Nat),
    let k := s.cradle
    let g := s.gauge
    let e := s.entry slot
    let ref := e.reference
    let delta := if g.count < g.baseline then g.baseline - g.count else 0
    let pick : PickClass :=
      if g.countSaturated then .saturated
      else if ref = 0 then .unknown
      else if delta < ref / 2 then .nothing
      else if delta < 3 * ref / 2 then .single
      else .double
    let read := fun (g : Gauge) =>
      { g with
        gate := none, count := 0, countSaturated := false, timer := none, reading := g.count
        readingSaturated := g.countSaturated, delta := delta, pick := some pick }
    let released := k.sensors.vacuumHeld = false ∧ k.sensors.wandDown = false
    let dropped := { r with leafOnWand := false, drop := .counted, lastClass := some pick }
    s.quiet →
      (exec .oscillatorCycle s =
        .next (s.onGauge fun g =>
          if g.gate = none then g
          else
            { g with count := min 65535 (g.count + 1),
                     countSaturated := g.countSaturated || decide (65535 ≤ g.count + 1) })) ∧
      (k.state = .turning → k.turn = some r → g.gate = some .baseline →
        exec .gaugeGateExpiry s =
          .next ((s.onGauge fun g =>
            { gate := none, count := 0, countSaturated := false, timer := none, baseline := g.count
              baselineSaturated := g.countSaturated, reading := 0, readingSaturated := false, delta := 0
              pick := none }).onCradle fun k =>
            { k with
              turn := some { r with phase := .lift, step := 1 }
              timers := { k.timers with lift := some (s.liftTime r.effectiveClass) }
              outputs := { k.outputs with airKnife := some (s.airLevel r.effectiveClass), wandDrive := .down } })) ∧
      (k.state = .turning → k.turn = some r → g.gate = some .lift → s.mountedSlot = some slot →
        (pick = .single →
          exec .gaugeGateExpiry s =
            .next (((s.onGauge read).onEntry slot fun e =>
              { e with reference := if (7 * ref + delta) / 8 = 0 then 1 else (7 * ref + delta) / 8 }).onCradle fun k =>
              { k with
                turn := some { r with phase := .carry, step := 1, lastClass := some .single }
                timers := { k.timers with pickConfirm := none, carry := some (s.carryTime r.effectiveClass) }
                outputs :=
                  { k.outputs with airKnife := none, armDrive := .toFar (s.carrySpeed r.effectiveClass),
                                   wandDrive := .up, vacuumOpen := true } })) ∧
        (pick = .unknown →
          exec .gaugeGateExpiry s =
            .next (((s.onGauge read).onCradle fun k =>
              { k with
                turn := some { r with phase := .pickConfirm, step := 1, lastClass := some .unknown }
                timers := { k.timers with pickConfirm := some s.pickConfirmTime }
                outputs := { k.outputs with airKnife := none, wandDrive := .up, vacuumOpen := true } }).announced
              [.pickConfirmNeeded slot (k.currentLeaf.getD 0) g.baseline g.count delta])) ∧
        (pick ≠ .single → pick ≠ .unknown → ¬ released →
          exec .gaugeGateExpiry s =
            .next ((s.onGauge read).onCradle fun k =>
              { k with
                turn := some { dropped with phase := .drop, step := 1 }
                timers := { k.timers with pickConfirm := none, lift := some (s.liftTime r.effectiveClass) }
                outputs := { k.outputs with airKnife := none, vacuumOpen := false, wandDrive := .up } })) ∧
        (pick ≠ .single → pick ≠ .unknown → released → r.retriesUsed + 1 ≤ s.retries r.effectiveClass →
          let begun := fun (step : Nat) (lift : Option Nat) =>
            (s.onGauge read).onCradle fun k =>
              { k with
                turn := some { dropped with phase := .baseline, step := step, retriesUsed := r.retriesUsed + 1 }
                timers := { k.timers with pickConfirm := none, lift := lift }
                outputs :=
                  { k.outputs with wandDrive := .up, armDrive := .toRest none, vacuumOpen := false, airKnife := none } }
          exec .gaugeGateExpiry s =
            .next (if k.sensors.armRest then
              (begun 2 none).onGauge fun g => { g with gate := some .baseline, timer := some s.gateTime }
            else begun 1 (some (s.liftTime r.effectiveClass)))) ∧
        (pick ≠ .single → pick ≠ .unknown → released → s.retries r.effectiveClass < r.retriesUsed + 1 →
          let cause : FaultCause := if pick = .nothing then .pickNone else .pickDouble
          exec .gaugeGateExpiry s =
            .next ((((s.onGauge read).onCradle fun k =>
              { k with
                state := .fault, hold := none, fault := some { cause := cause, phase := some .drop }
                turn := some { dropped with phase := .drop, step := 1, retriesUsed := r.retriesUsed + 1 }
                timers := { CradleTimers.stopped with angle := k.timers.angle }
                outputs :=
                  { k.outputs with armDrive := .stopped, wandDrive := .stopped, vacuumOpen := false,
                                   airKnife := none } }).onEntry slot fun e =>
              { e with hold := some .turnFault }).announced
              [.turnFault cause (.phase .drop) r.done k.currentLeaf (read g).values])))

/-- An angle move ends at its angle (R50, R51) or by its timer (R52): SETTLING within 2 degrees of the limit; PARKING at 178
or more with ARM REST true and WAND DOWN false, at the change of the angle, of ARM REST or of WAND DOWN that makes all three
so; the angle timer makes SETTLING an ANGLE_TIMEOUT fault with the volume held, and stops a PARKING, which holds no volume, its
drives stopped (log 11) and TURN FAULT posted, though not for a PARKING of a device reset, which posts no notice (R51; the model's
reading, log 29). An arrival of PARKING is told while its drive is MOVING (the model's reading, log 31). The expiry of an angle
timer that does not run changes nothing (the model's choice, log 3). -/
def Obligations.AngleMovesArriveOrTimeOut : Prop :=
  ∀ (s : State) (degrees slot : Nat),
    let k := s.cradle
    let m := k.sensors
    let limit := (s.entry slot).angleLimit
    let near := degrees ≤ limit + 2 ∧ limit ≤ degrees + 2
    let still := fun (x : Outputs) =>
      { x with angleDrive := .stopped, armDrive := .stopped, wandDrive := .stopped }
    let parks := fun (c : Instr) (sensors : Sensors) =>
      exec c s =
        .next ((s.onCradle fun k =>
          { k with
            state := .parked, parked := none, sensors := sensors, timers := { k.timers with angle := none }
            outputs := still k.outputs }).announced
          (match k.parked with
            | some v => [.volumeDismounted v.slot v.generation]
            | none => []))
    s.quiet →
      (k.state = .settling → s.mountedSlot = some slot → m.angle ≠ degrees →
        exec (.angleChange degrees) s =
          .next ((s.onCradle fun k =>
            if near then
              { k with
                state := .openReady, sensors := { k.sensors with angle := degrees }
                timers := { k.timers with angle := none }
                outputs := { k.outputs with angleDrive := .holding limit } }
            else { k with sensors := { k.sensors with angle := degrees } }).announced
            (if near then [.volumeMounted slot (s.entry slot).generation k.opening limit] else []))) ∧
      (k.state = .parking → k.drive = .moving →
        (178 ≤ degrees → m.angle ≠ degrees → m.armRest = true → m.wandDown = false →
          parks (.angleChange degrees) { m with angle := degrees }) ∧
        (178 ≤ m.angle → m.armRest = false → m.wandDown = false →
          parks (.armRestChange true) { m with armRest := true }) ∧
        (178 ≤ m.angle → m.armRest = true → m.wandDown = true →
          parks (.wandDownChange false) { m with wandDown := false }) ∧
        (¬ (178 ≤ degrees ∧ m.armRest = true ∧ m.wandDown = false) →
          exec (.angleChange degrees) s =
            .next (s.onCradle fun k => { k with sensors := { k.sensors with angle := degrees } }))) ∧
      (k.state = .settling → s.mountedSlot = some slot → k.timers.angle ≠ none →
        exec .angleTimerExpiry s =
          .next (((s.onCradle fun k =>
            { k with
              state := .fault, fault := some { cause := .angleTimeout, phase := none }
              timers := { k.timers with angle := none }
              outputs := { k.outputs with angleDrive := .stopped } }).onEntry slot fun e =>
            { e with hold := some .turnFault }).announced
            [.turnFault .angleTimeout .settling 0 none s.gauge.values])) ∧
      (k.state = .parking → k.timers.angle ≠ none →
        exec .angleTimerExpiry s =
          .next ((s.onCradle fun k =>
            { k with
              drive := .stopped .angleTimeout, timers := { k.timers with angle := none }
              outputs := still k.outputs }).announced
            (if k.parked = none then [] else [.turnFault .angleTimeout .parking 0 none s.gauge.values]))) ∧
      (k.timers.angle = none → exec .angleTimerExpiry s = .next s)

/-! ### The guards -/

/-- A curtain break (R68, R69, R85, R100, R159). In a dark station with no sweep: a turn or a SETTLING becomes HOLDING, a moving
PARKING stops, any other cradle state stands; the latch is set, and GUARD TRIPPED is posted when it was clear. With light or
a sweep: the station goes dark, a preview ends with cause GUARD, an active sweep ends with reason GUARD, its slot torn and
PLANNED withdrawn, the work at the cradle held, with TURN HELD, FRAMES WAITING and SWEEP ENDED posted where they apply, no account of the
volume changed. CURTAIN CLEAR changes the live level alone (R84). A second CURTAIN BROKEN changes nothing (the model's reading,
log 5), the arm and wand drives stop with a PARKING (log 11), and a PARKING of a device reset posts no TURN HELD (R51, log
29). -/
def Obligations.CurtainBreakStopsWorkAndLight : Prop :=
  (∀ (s : State),
      let k := s.cradle
      let broken := fun (s : State) => s.onGuards fun g => { g with curtainBroken := true, curtainLatch := true }
      let tripped : List Notice := if s.guards.curtainLatch then [] else [.guardTripped .curtain s.station.mode]
      s.quiet →
        (exec .curtainClear s = .next (s.onGuards fun g => { g with curtainBroken := false })) ∧
        (s.guards.curtainBroken = true → exec .curtainBroken s = .next s) ∧
        (s.guards.curtainBroken = false → s.walker.sweep.state = .idle → s.lights.dark → s.lights.preview = none →
          (∀ r, k.state = .turning → k.turn = some r →
            exec .curtainBroken s =
              .next ((((broken s).onCradle fun k =>
                { k with
                  state := .holding, hold := some { cause := .guard, work := .turn }
                  timers := { CradleTimers.stopped with angle := k.timers.angle }
                  outputs :=
                    { k.outputs with armDrive := .stopped, wandDrive := .stopped, airKnife := none,
                                     vacuumOpen := r.leafOnWand } }).onGauge fun g =>
                { g with gate := none, count := 0, countSaturated := false, timer := none }).announced
                (tripped ++ [.turnHeld .guard (.phase r.phase) r.done s.gauge.values]))) ∧
          (k.state = .settling →
            exec .curtainBroken s =
              .next (((broken s).onCradle fun k =>
                { k with
                  state := .holding, hold := some { cause := .guard, work := .settling }
                  timers := { k.timers with angle := none }
                  outputs := { k.outputs with angleDrive := .stopped } }).announced
                (tripped ++ [.turnHeld .guard .settling 0 s.gauge.values]))) ∧
          (k.state = .parking → k.drive = .moving →
            exec .curtainBroken s =
              .next (((broken s).onCradle fun k =>
                { k with
                  drive := .stopped .guard, timers := { k.timers with angle := none }
                  outputs :=
                    { k.outputs with angleDrive := .stopped, armDrive := .stopped, wandDrive := .stopped } }).announced
                (tripped ++ if k.parked = none then [] else [.turnHeld .guard .parking 0 s.gauge.values]))) ∧
          (k.state = .parked ∨ k.state = .openReady ∨ k.state = .fault ∨ k.state = .recovering ∨ k.state = .holding ∨
              (k.state = .parking ∧ k.drive ≠ .moving) →
            exec .curtainBroken s = .next ((broken s).announced tripped)))) ∧
  (∀ s : State, s.quiet → s.LightSafe → s.guards.curtainBroken = false →
      ∃ t, exec .curtainBroken s = .next t ∧ s.tripped t .guard ∧
        t.guards = { s.guards with curtainBroken := true, curtainLatch := true } ∧
        t.station = s.station ∧ t.settings = s.settings ∧
        s.notified t
          ((if s.guards.curtainLatch then [] else [.guardTripped .curtain s.station.mode]) ++ s.heldNotices .guard ++
            s.captureNotices t))

/-- The stop key (R87, R88, R178): a press sets the latch, posts GUARD TRIPPED when it was clear, and in READY halts the
station with MODE CHANGED: the light out, a preview ended with cause HALT, an active sweep ended with reason HALTED, a turn, a
SETTLING or a moving PARKING held with cause HALT and TURN HELD; in the other modes the mode stands. A release changes the live
level alone. A second press while PRESSED changes nothing (the model's reading, log 5); the drives that stop with a PARKING,
and that a PARKING of a device reset posts no TURN HELD (R51), are the model's readings (log 11, log 29). -/
def Obligations.StopKeyHaltsTheStation : Prop :=
  ∀ s : State, s.quiet →
    let pressed := fun (s : State) => s.onGuards fun g => { g with stopPressed := true, stopLatch := true }
    let tripped := fun (mode : Mode) =>
      if s.guards.stopLatch then ([] : List Notice) else [.guardTripped .stopKey mode]
    (exec .stopKeyRelease s = .next (s.onGuards fun g => { g with stopPressed := false })) ∧
      (s.guards.stopPressed = true → exec .stopKeyPress s = .next s) ∧
      (s.guards.stopPressed = false → s.station.mode ≠ .ready →
        exec .stopKeyPress s = .next ((pressed s).announced (tripped s.station.mode))) ∧
      (s.guards.stopPressed = false → s.station.mode = .ready → s.walker.sweep.state = .idle → s.lights.dark →
        s.lights.preview = none → (s.cradle.state = .openReady ∨ s.cradle.state = .parked) →
        exec .stopKeyPress s =
          .next (((pressed s).onStation fun x => { x with mode := .halted }).announced
            (tripped .halted ++ [.modeChanged .ready .halted .stopKey]))) ∧
      (s.guards.stopPressed = false → s.station.mode = .ready → s.LightSafe →
        ∃ t, exec .stopKeyPress s = .next t ∧ s.tripped t .halt ∧ t.station = { s.station with mode := .halted } ∧
          t.settings = s.settings ∧ t.guards = { s.guards with stopPressed := true, stopLatch := true } ∧
          s.notified t
            (tripped .halted ++ s.heldNotices .halt ++ s.captureNotices t ++ [.modeChanged .ready .halted .stopKey]))

/-- ACK GUARD (R86) in every mode: while the curtain is live CLEAR its latch is cleared, else GUARD; the reply carries the
guard levels after the request, the stop key's latch stands, and nothing restarts. -/
def Obligations.AckGuardClearsTheLatch : Prop :=
  ∀ (o : Origin) (s : State),
    let c : Instr := .ackGuard o
    let g := s.guards
    let bit := fun (b : Bool) => be 1 (if b then 1 else 0)
    s.accepts c o →
      if g.curtainBroken then
        s.onlyAnswers c o .guard (bit g.curtainBroken ++ bit g.curtainLatch ++ bit g.stopPressed ++ bit g.stopLatch)
      else
        s.answersWith c o .ok (bit false ++ bit false ++ bit g.stopPressed ++ bit g.stopLatch)
          (State.onGuards fun g => { g with curtainLatch := false }) []

/-! ### Light and dose -/

/-- PREVIEW ON (R97, R98, R115): the eight checks in order; then bank 0 is LIT by the preview at the level, metering starts
and the accumulator is set up for the visible faces, or a lit preview changes its level alone. PREVIEW OFF (R99): a lit
preview ends with cause REQUEST, and the reply reports the most recent preview; before the first its intervals
and dose are sent as 0 (the model's choice, log 22). -/
def Obligations.PreviewIsLitUnderItsConditions : Prop :=
  ∀ (o : Origin) (level : Nat) (s : State),
    let c : Instr := .previewOn o level
    let lit := fun (l : Lights) =>
      { l with banks := Vec.put l.banks 0 (.lit level .preview), preview := some level }
    (s.accepts c o →
      if s.station.mode ≠ .ready then s.onlyAnswers c o .mode []
      else
        match s.mountedSlot with
        | none => s.onlyAnswers c o .noVolume []
        | some slot =>
          let e := s.entry slot
          if s.settings.state ≠ .good then s.onlyAnswers c o .settingsFault []
          else if s.cradle.state ≠ .openReady then s.onlyAnswers c o .cradleBusy []
          else if s.walker.sweep.state ≠ .idle then s.onlyAnswers c o .openingBusy []
          else if s.guards.curtainBroken ∨ s.guards.curtainLatch then s.onlyAnswers c o .guard []
          else
            match s.visible.find? fun v => decide (e.budget ≤ s.custody.doseOf e v) with
            | some v =>
              s.onlyAnswers c o .doseBudget
                (be 1 slot ++ be 2 v.leaf ++ be 1 (if v.side = .left then 0 else 1) ++ be 4 (s.custody.doseOf e v) ++
                  be 4 e.budget)
            | none =>
              if s.previewCap < level then s.onlyAnswers c o .badArgument []
              else if s.lights.preview = none then
                s.answersWith c o .ok (be 2 level)
                  (fun t => (t.onLights lit).onMeter fun m =>
                    { m with
                      running := some { bank := 0, owner := .preview }
                      preview :=
                        some { charged := 0, dose := 0, volume := ⟨slot, e.generation⟩, faces := s.visible } }) []
              else s.answersWith c o .ok (be 2 level) (State.onLights lit) []) ∧
    (s.accepts (.previewOff o) o → s.LightSafe →
      s.answersWith (.previewOff o) o .ok
        (be 1 (if s.lights.preview = none then 0 else 1) ++
          (if s.lights.preview = none then opt1 (s.lights.lastEnd.map previewEndCode) else be 1 0) ++
          (match s.meter.preview with
            | none => be 4 0 ++ be 4 0 ++ be 1 0
            | some a =>
              be 4 a.charged ++ be 4 a.dose ++ be 1 a.faces.length ++
                a.faces.flatMap fun v => be 1 a.volume.slot ++ be 2 v.leaf ++ be 1 (if v.side = .left then 0 else 1)))
        (State.previewEnded .request) [])

/-- A metering interval (R109 to R116), its raw reading an operand of the command (the model's choice, log 26): the calibrated
irradiance and the charge, the charge booked to each visible face and their sum to the dose total, nothing else of the leaf
store moved; then PULSE_END at the last interval of an exposure, CUT before it when a visible face stands at the budget
(R154), its descriptors in COMPLETED with what was measured and the sweep going on, the end of a preview over such a face, or
nothing, with BUDGET REACHED for each face that crossed. The law of R28 and LightSafe are premises that other statements
keep. -/
def Obligations.MeteringChargesTheVisibleFaces : Prop :=
  ∀ (raw : BitVec 16) (slot : Nat) (run : Metering) (s : State),
    let e := s.entry slot
    let word := fun (k : Nat) => s.calibration run.bank k
    let irradiance := (max 0 (min 65535 ((raw.toNat : Int) * (32768 + word 1) / 32768 + word 2))).toNat
    let charge := irradiance * (word 3).toNat / 16
    let after := fun (v : VisibleFace) => s.custody.doseOf e v + charge
    let reached := ∃ v ∈ s.visible, e.budget ≤ after v
    let posted := fun (ending : LightEnd) =>
      (s.visible.filter fun v => decide (s.custody.doseOf e v < e.budget) && decide (e.budget ≤ after v)).map fun v =>
        Notice.budgetReached slot e.generation v.leaf v.side (after v) e.budget .metering run.owner ending
    let charged := fun (t : State) => (t.chargeFaces charge).onMeter fun m =>
      match run.owner with
      | .exposure =>
        { m with
          irradiance := irradiance
          exposure := m.exposure.map fun a =>
            { a with charged := a.charged + 1, dose := a.dose + charge,
                     irradianceSum := a.irradianceSum + irradiance } }
      | .preview =>
        { m with
          irradiance := irradiance
          preview := m.preview.map fun a =>
            { a with charged := min 4294967295 (a.charged + 1), dose := a.dose + charge } }
    s.quiet → s.LightSafe → s.extentsShareStore → s.meter.running = some run → s.mountedSlot = some slot →
      s.cradle.opening ≤ e.leafCount →
      ((∀ v ∈ s.visible, (s.chargeFaces charge).custody.doseOf ((s.chargeFaces charge).entry slot) v = after v) ∧
        ((s.chargeFaces charge).entry slot).doseTotal = e.doseTotal + charge * s.visible.length ∧
        ∀ i leaf side, i < 8 → s.inUse i → leaf < (s.entry i).leafCount →
          (i ≠ slot ∨ ({ leaf := leaf, side := side } : VisibleFace) ∉ s.visible) →
          ((s.chargeFaces charge).leaf i leaf).sideOf side = (s.leaf i leaf).sideOf side) ∧
      (∀ a, run.owner = .exposure → s.meter.exposure = some a → a.charged + 1 ≠ a.planned → ¬ reached →
        exec (.meteringIntervalExpiry raw) s = .next (charged s)) ∧
      (∀ a, run.owner = .exposure → s.meter.exposure = some a → a.charged + 1 ≠ a.planned → reached →
        ∃ t, exec (.meteringIntervalExpiry raw) s = .next t ∧ t.lights.dark ∧ t.meter.running = none ∧
          t.meter.irradiance = 0 ∧ t.walker.left.trigger = false ∧ t.walker.right.trigger = false ∧
          t.sameButCapture s ∧ (∀ i, i < 8 → i ≠ slot → t.entry i = s.entry i) ∧
          (∀ v ∈ s.visible, t.custody.doseOf (t.entry slot) v = after v) ∧
          s.frames.completed ++ s.frames.slot <+: t.frames.completed ∧
          (s.frames.whole → ∀ i ∈ s.frames.slot, t.frame i =
            { s.frame i with
              status := .cut
              measured :=
                some { dose := a.dose + charge, meanIrradiance := (a.irradianceSum + irradiance) / (a.charged + 1) } }) ∧
          t.walker.sweep.counts.cut = min 4294967295 (s.walker.sweep.counts.cut + s.frames.slot.length) ∧
          s.notified t (posted .cut ++ s.captureNotices t)) ∧
      (∀ a, run.owner = .exposure → s.meter.exposure = some a → a.charged + 1 = a.planned →
        ∃ t : State, exec (.meteringIntervalExpiry raw) s = .next (t.announced (posted .pulseEnd)) ∧ t.lights.dark ∧
          t.meter.running = none ∧ t.meter.irradiance = 0 ∧ t.walker.left.trigger = false ∧
          t.walker.right.trigger = false ∧ t.walker.sweep.stage = some .confirming ∧
          t.custody = (charged s).custody ∧ t.sameButCapture s ∧
          { t.frames with pool := s.frames.pool } = s.frames ∧
          (s.frames.whole → ∀ i ∈ s.frames.slot, (t.frame i).status = .confirming ∧
            (t.walker.port (s.frame i).camera).confirmTimer = some s.cameraConfirmTime ∧
            (t.frame i).measured =
              some { dose := a.dose + charge, meanIrradiance := (a.irradianceSum + irradiance) / a.planned })) ∧
      (run.owner = .preview → ¬ reached → exec (.meteringIntervalExpiry raw) s = .next (charged s)) ∧
      (run.owner = .preview → reached →
        exec (.meteringIntervalExpiry raw) s =
          .next (((charged s).previewEnded .budget).announced (posted .budget)))

/-! ### Frames -/

/-- The projection (R117, R118): from the bank's words N and w, P = k × floor(floor(N × level / 1023) × w / 16), k the
intervals; PASS with P when every visible face's recorded dose and P stay at or below the budget, else FAIL with P and the
first face that does not, LEFT before RIGHT, its recorded dose and the budget. An exposure whose projection fails (R148) is
REFUSED, here the one entry of a plan, at CAPTURE OPENING: its descriptors go to COMPLETED as REFUSED within the request, no light
is asked for, and the sweep, which has lit nothing, ends with reason BUDGET (R155, R156), FRAMES WAITING and SWEEP ENDED
posted. -/
def Obligations.ProjectionRefusesTheExposure : Prop :=
  (∀ (bank level duration slot : Nat) (s : State), s.mountedSlot = some slot →
    let e := s.entry slot
    let p := duration / 10 * ((s.calibration bank 0).toNat * level / 1023 * (s.calibration bank 3).toNat / 16)
    let fits := fun (v : VisibleFace) => s.custody.doseOf e v + p ≤ e.budget
    ((∀ v ∈ s.visible, fits v) → s.projection bank level duration = .pass p) ∧
      (∀ v rest, s.visible = v :: rest → ¬ fits v →
        s.projection bank level duration = .fail p v (s.custody.doseOf e v) e.budget) ∧
      ∀ v w rest, s.visible = v :: w :: rest → fits v → ¬ fits w →
        s.projection bank level duration = .fail p w (s.custody.doseOf e w) e.budget) ∧
  (∀ (o : Origin) (mode : SweepMode) (slot : Nat) (entry : PlanEntry) (v : VisibleFace) (s : State),
    let c : Instr := .captureOpening o mode
    let e := s.entry slot
    let n := s.cradle.opening
    let need := if entry.cameras = .both then 2 else 1
    let p :=
      entry.duration / 10 *
        ((s.calibration entry.bank 0).toNat * entry.level / 1023 * (s.calibration entry.bank 3).toNat / 16)
    let counts := { SweepCounts.zero with built := need, refused := need }
    s.accepts c o → s.station.mode = .ready → s.mountedSlot = some slot → e.hold = none → s.settings.state = .good →
      s.cradle.state = .openReady → s.walker.sweep.state = .idle → s.guards.curtainBroken = false →
      s.guards.curtainLatch = false → s.walker.planLength = 1 → s.walker.planAt 0 = some entry →
      need ≤ s.frames.free.length → s.LightSafe → s.frames.whole →
      v ∈ s.visible → e.budget < s.custody.doseOf e v + p →
      ∃ t, exec c s = .next t ∧
        (t.port o.link).request =
          some (.answered
            { tag := o.tag, code := 31#8, result := .accepted,
              body :=
                be 1 (match mode with | .pass => 0 | .count _ => 1 | .opened => 2) ++
                  be 1 (match mode with | .count target => target | _ => 255) ++ be 1 slot ++
                  be 1 e.generation ++ be 2 n ++ be 1 need ++ be 2 (s.frames.free.length - need) }) ∧
        t.lights.dark ∧ t.meter.running = none ∧ t.frames.free = s.frames.free.drop need ∧ t.frames.planned = [] ∧
        t.frames.slot = [] ∧ t.frames.completed = s.frames.completed ++ s.frames.free.take need ∧
        t.frames.verdict = s.frames.verdict ∧
        (∀ i ∈ s.frames.free.take need,
          (t.frame i).status = .refused ∧ (t.frame i).measured = none ∧ (t.frame i).frameNumber = none) ∧
        t.walker.sweep.state = .idle ∧ t.walker.sweep.lastEnd = some .budget ∧ t.walker.sweep.started = false ∧
        t.walker.sweep.stage = none ∧ t.walker.sweep.buildPending = false ∧ t.walker.sweep.counts = counts ∧
        (∀ camera, (t.walker.port camera).trigger = (s.walker.port camera).trigger ∧
          (t.walker.port camera).readyTimer = (s.walker.port camera).readyTimer) ∧
        (∀ i, i < 8 → i ≠ slot → t.entry i = s.entry i) ∧
        t.entry slot = { e with framesOpen := e.framesOpen + need } ∧ t.sameButCapture s ∧
        s.notified t (s.framesWaiting t ++ [.sweepEnded .budget mode slot e.generation n counts]))

/-- TAKE FRAMES (R135), ACCEPT FRAME and REJECT FRAME (R136, R137, R138): the head of COMPLETED moves to VERDICT in order
with its 26-byte records in the reply, an absent measured dose sent as 0 (the model's choice, log 22); a verdict is checked in
order, an accepted frame books its band to its face, and either verdict returns the descriptor to the tail of FREE with its
generation kept and releases its booking. With a build pending (R147) a verdict that leaves FREE too short changes no more, and
one that brings FREE to what the next entry needs makes that build within its own request, told here where the projection
passes and a camera concerned is not READY. -/
def Obligations.FramesAreTakenAndJudged : Prop :=
  ∀ (o : Origin) (s : State),
    let record := fun (i : Nat) =>
      let d := s.frame i
      be 1 i ++ be 1 d.generation ++ be 1 d.volume.slot ++ be 1 d.volume.generation ++ be 2 d.opening ++
        be 1 (match d.camera with | .left => 0 | .right => 1) ++
        (match d.face with
          | .verso leaf => be 1 0 ++ be 2 leaf
          | .recto leaf => be 1 1 ++ be 2 leaf
          | .board => be 1 2 ++ be 2 65535) ++
        be 1 d.bank ++ be 2 d.level ++ be 2 d.duration ++ be 1 d.planEntry ++
        be 1 (match d.status with
          | .planned => 0 | .exposing => 1 | .confirming => 2 | .taken => 3 | .cut => 4 | .torn => 5 | .refused => 6
          | .unconfirmed => 7 | .cameraNotReady => 8 | .withdrawn => 9) ++
        be 1 ((if d.frameNumber = none then 0 else 1) + (if d.measured = none then 0 else 2)) ++
        be 2 (d.frameNumber.getD 65535) ++
        (match d.measured with
          | none => be 4 0 ++ be 2 65535
          | some m => be 4 m.dose ++ be 2 m.meanIrradiance)
    let need :=
      match s.walker.planAt s.walker.sweep.nextEntry with
      | none => 0
      | some e => if e.cameras = .both then 2 else 1
    let waitsOn := s.walker.sweep.buildPending = false ∨ s.frames.free.length + 1 < need
    (∀ largest, s.accepts (.takeFrames o largest) o →
      s.answersWith (.takeFrames o largest) o .ok
        (be 1 (min largest s.frames.completed.length) ++ (s.frames.completed.take largest).flatMap record ++
          be 2 (s.frames.completed.length - largest))
        (State.onFrames fun q =>
          { q with completed := q.completed.drop largest, verdict := q.verdict ++ q.completed.take largest }) []) ∧
    (∀ i, (record i).length = 26) ∧
    ∀ index generation,
      let d := s.frame index
      let slot := d.volume.slot
      let e := s.entry slot
      let band : BandSet := BitVec.ofNat 8 (2 ^ d.bank)
      let holder : Nat :=
        if index ∈ s.frames.verdict then 4
        else if index ∈ s.frames.completed then 3
        else if index ∈ s.frames.slot then 2
        else if index ∈ s.frames.planned then 1
        else 0
      let freed := fun (q : Frames) =>
        { q with verdict := q.verdict.filter (· ≠ index), free := q.free ++ [index] }
      let waiting := fun (t : State) =>
        { t.walker.sweep with
          buildPending := s.walker.sweep.buildPending
          state := if s.walker.sweep.buildPending then .walking else t.walker.sweep.state
          stage := if s.walker.sweep.buildPending then none else t.walker.sweep.stage }
      let refusals := fun (c : Instr) (go : Prop) =>
        if d.generation ≠ generation then s.onlyAnswers c o .stale (be 1 d.generation)
        else if index ∉ s.frames.verdict then s.onlyAnswers c o .notInVerdict (be 1 holder)
        else go
      (s.accepts (.acceptFrame o index generation) o →
        refusals (.acceptFrame o index generation)
          (if d.status ≠ .taken then
            s.onlyAnswers (.acceptFrame o index generation) o .state (be 1 (frameStatusCode d.status))
          else
            waitsOn → slot < 8 →
            let books := fun (leaf : Nat) (side : Side) =>
              s.inUse slot → leaf < e.leafCount → s.extentsShareStore → d.bank < 8 →
                let r := s.leaf slot leaf
                let new := (r.sideOf side).coverage.getLsbD d.bank = false
                let x := LeafRecord.onSide side
                  (fun f =>
                    { f with framesOpen := f.framesOpen - 1
                             coverage := if new then f.coverage ||| band else f.coverage }) r
                let complete :=
                  if new ∧ leafComplete e.required r = false ∧ leafComplete e.required x = true then
                    e.leavesComplete + 1
                  else e.leavesComplete
                let accepted := if new then e.framesAccepted + 1 else e.framesAccepted
                s.answersWith (.acceptFrame o index generation) o .ok
                  (be 1 index ++ be 1 generation ++ be 1 (if new then 0 else 1) ++ be 1 slot ++ be 2 accepted ++
                    be 2 complete ++ be 2 (e.framesOpen - 1) ++ be 2 (x.sideOf side).framesOpen)
                  (fun t => (((t.onFrames freed).onEntry slot fun e =>
                    { e with framesOpen := e.framesOpen - 1, framesAccepted := accepted,
                             leavesComplete := complete }).onLeaf slot leaf fun _ => x).onWalker fun w =>
                    { w with sweep := waiting t }) []
            match d.face with
            | .board =>
              s.answersWith (.acceptFrame o index generation) o .ok
                (be 1 index ++ be 1 generation ++ be 1 2 ++ be 1 slot ++ be 2 e.framesAccepted ++
                  be 2 e.leavesComplete ++ be 2 (e.framesOpen - 1) ++ be 2 65535)
                (fun t => ((t.onFrames freed).onEntry slot fun e =>
                  { e with framesOpen := e.framesOpen - 1 }).onWalker fun w => { w with sweep := waiting t }) []
            | .verso leaf => books leaf .left
            | .recto leaf => books leaf .right)) ∧
      (s.accepts (.rejectFrame o index generation) o →
        refusals (.rejectFrame o index generation)
          (waitsOn → slot < 8 →
            s.answersWith (.rejectFrame o index generation) o .ok
              (be 1 index ++ be 1 generation ++ be 1 (frameStatusCode d.status) ++ be 1 slot ++
                be 2 (e.framesOpen - 1))
              (fun t => (((t.onFrames freed).onEntry slot fun e => { e with framesOpen := e.framesOpen - 1 }).onFace slot
                d.face fun f => { f with framesOpen := f.framesOpen - 1 }).onWalker fun w =>
                { w with sweep := waiting t }) [])) ∧
      (∀ (accepted : Bool) (entry : PlanEntry),
        let c : Instr := if accepted then .acceptFrame o index generation else .rejectFrame o index generation
        let w := s.walker.sweep
        let built := (s.frames.free ++ [index]).take need
        s.accepts c o → d.generation = generation → index ∈ s.frames.verdict → (accepted = true → d.status = .taken) →
          w.buildPending = true → s.walker.planAt w.nextEntry = some entry → s.LightSafe → s.frames.whole →
          s.frames.planned = [] → s.mountedSlot ≠ none → need ≤ s.frames.free.length + 1 →
          (s.projection entry.bank entry.level entry.duration).passes = true →
          ((s.walker.left.ready = false ∧ entry.cameras ≠ .right) ∨
            (s.walker.right.ready = false ∧ entry.cameras ≠ .left)) →
          ∃ t, exec c s = .next t ∧
            (t.port o.link).request.map (fun
              | .answered r => (r.code, r.result, r.body.take 2)
              | .untaken _ => (0#8, .ok, [])) =
              some (if accepted then 26#8 else 27#8, .ok, be 1 index ++ be 1 generation) ∧
            t.frames.verdict = s.frames.verdict.filter (· ≠ index) ∧ t.frames.slot = built ∧
            t.frames.free = (s.frames.free ++ [index]).drop need ∧ t.frames.planned = [] ∧
            t.frames.completed = s.frames.completed ∧
            t.walker.sweep =
              { w with
                buildPending := false, state := .waitCamera, stage := some .waitCamera
                nextEntry := if w.nextEntry + 1 < s.walker.planLength then w.nextEntry + 1 else 0
                counts := { w.counts with built := min 4294967295 (w.counts.built + need) } } ∧
            (∀ i ∈ built, (t.frame i).status = .planned ∧ (t.frame i).planEntry = w.nextEntry) ∧
            t.lights = s.lights ∧ t.meter = s.meter ∧ t.sameButCapture s ∧ s.notified t [])

/-! ### The plan and the sweep -/

/-- SET PLAN ENTRY, SET PLAN LENGTH and READ PLAN (R141, R142): PLAN_BUSY while the sweep is active, STATE with the lowest
unset entry, else the entry or the length replaced and the old one in the reply; a read changes nothing. -/
def Obligations.PlanIsWrittenWhileIdle : Prop :=
  ∀ (o : Origin) (s : State),
    let bytes := fun (e : Option PlanEntry) =>
      match e with
      | none => List.replicate 7 (0#8)
      | some e =>
        be 1 1 ++ be 1 (match e.cameras with | .left => 0 | .right => 1 | .both => 2) ++ be 1 e.bank ++ be 2 e.level ++
          be 2 e.duration
    (∀ index cameras bank level duration,
      let c : Instr := .setPlanEntry o index cameras bank level duration
      let e : PlanEntry := { cameras := cameras, bank := bank, level := level, duration := duration }
      s.accepts c o →
        if s.walker.sweep.state ≠ .idle then s.onlyAnswers c o .planBusy []
        else
          s.answersWith c o .ok (be 1 index ++ bytes (some e) ++ bytes (s.walker.planAt index))
            (State.onWalker fun w => { w with plan := Vec.put w.plan index (some e) }) []) ∧
    (∀ length,
      let c : Instr := .setPlanLength o length
      s.accepts c o →
        (s.walker.sweep.state ≠ .idle → s.onlyAnswers c o .planBusy []) ∧
        (∀ i, s.walker.sweep.state = .idle → i < length → s.walker.planAt i = none →
          (∀ j, j < i → s.walker.planAt j ≠ none) → s.onlyAnswers c o .state (be 1 i)) ∧
        (s.walker.sweep.state = .idle → (∀ i, i < length → s.walker.planAt i ≠ none) →
          s.answersWith c o .ok (be 1 s.walker.planLength ++ be 1 length)
            (State.onWalker fun w => { w with planLength := length }) [])) ∧
    ∀ index, s.accepts (.readPlan o index) o →
      s.onlyAnswers (.readPlan o index) o .ok (bytes (s.walker.planAt index) ++ be 1 s.walker.planLength)

/-- CAPTURE OPENING (R145): the nine checks in order, nothing changing on a refusal; and accepted (R146, R130) it ends a lit
preview with cause CAPTURE, sets up the sweep record and takes the descriptors of the first build from the head of FREE: for
PASS those of entry 0, then of entry 1 and so on, else those of entry 0, LEFT before RIGHT, each with its entry's fields, its
camera and the face seen there, the frames open of the entry and of the faces rising with them (R33). Told on where the
projection passes (R148): with a camera concerned not READY, the ready timers of those concerned start (R149); with all of them
READY and no visible face at its budget the light is granted in the request (R150). The reply counts the first build alone,
whatever is built later in the request (the model's reading, log 21). -/
def Obligations.CaptureOpeningBuildsTheFirstFrames : Prop :=
  ∀ (o : Origin) (mode : SweepMode) (s : State),
    let c : Instr := .captureOpening o mode
    let w := s.walker
    let cameras : PlanEntry → List Camera := fun e =>
      match e.cameras with
      | .left => [.left]
      | .right => [.right]
      | .both => [.left, .right]
    let builds : Nat → List (Nat × PlanEntry × Camera) := fun i =>
      match w.planAt i with
      | none => []
      | some e => (cameras e).map fun camera => (i, e, camera)
    let build := (if mode = .pass then List.range w.planLength else [0]).flatMap builds
    let need := build.length
    s.accepts c o →
      if s.station.mode ≠ .ready then s.onlyAnswers c o .mode []
      else
        match s.mountedSlot with
        | none => s.onlyAnswers c o .noVolume []
        | some slot =>
          let e := s.entry slot
          let n := s.cradle.opening
          if e.hold ≠ none then s.onlyAnswers c o .held []
          else if s.settings.state ≠ .good then s.onlyAnswers c o .settingsFault []
          else if s.cradle.state ≠ .openReady then s.onlyAnswers c o .cradleBusy []
          else if w.sweep.state ≠ .idle then s.onlyAnswers c o .openingBusy []
          else if s.guards.curtainBroken ∨ s.guards.curtainLatch then s.onlyAnswers c o .guard []
          else if w.planLength = 0 then s.onlyAnswers c o .planEmpty []
          else if s.frames.free.length < need then
            s.onlyAnswers c o .noDescriptors (be 2 s.frames.free.length ++ be 1 need)
          else
            (∃ t, exec c s = .next t ∧
              (t.port o.link).request =
                some (.answered
                  { tag := o.tag, code := 31#8, result := .accepted,
                    body :=
                      be 1 (match mode with | .pass => 0 | .count _ => 1 | .opened => 2) ++
                        be 1 (match mode with | .count target => target | _ => 255) ++ be 1 slot ++
                        be 1 e.generation ++ be 2 n ++ be 1 need ++ be 2 (s.frames.free.length - need) }) ∧
              t.walker.sweep.mode = mode ∧ t.walker.sweep.volume = some ⟨slot, e.generation⟩ ∧
              t.walker.sweep.opening = some n) ∧
            (∀ first, w.planAt 0 = some first → s.LightSafe → s.frames.whole →
              (s.projection first.bank first.level first.duration).passes = true →
              let ready : Bool := (cameras first).all fun camera => (w.port camera).ready
              let taken := s.frames.free.take need
              let lit := fun (i : Nat) => ready && (taken.take (cameras first).length).contains i
              (ready = true → ∀ v ∈ s.visible, s.custody.doseOf e v < e.budget) →
              ∃ t, exec c s = .next t ∧ t.lights.preview = none ∧
                t.lights.lastEnd = (if s.lights.preview = none then s.lights.lastEnd else some .capture) ∧
                (∀ b, b < 8 → Vec.at t.lights.banks b .off =
                  if ready = true ∧ b = first.bank then .lit first.level .exposure else .off) ∧
                t.meter.running = (if ready then some { bank := first.bank, owner := .exposure } else none) ∧
                t.meter.exposure =
                  (if ready then some { planned := first.duration / 10, charged := 0, dose := 0, irradianceSum := 0 }
                  else s.meter.exposure) ∧
                t.walker.sweep =
                  { state := if ready then SweepState.exposing else .waitCamera
                    stage := if ready then some .exposing else some .waitCamera
                    mode := mode, volume := some ⟨slot, e.generation⟩, opening := some n
                    nextEntry := if mode = .pass ∨ w.planLength = 1 then 0 else 1
                    runWithoutStart := 0, started := ready, buildPending := false
                    counts := { SweepCounts.zero with built := need }, lastEnd := none } ∧
                (∀ camera, t.walker.port camera =
                  if ready then
                    { w.port camera with
                      readyTimer := none, trigger := (cameras first).contains camera || (w.port camera).trigger }
                  else if camera ∈ cameras first then { w.port camera with readyTimer := some s.cameraReadyTime }
                  else w.port camera) ∧
                t.frames.free = s.frames.free.drop need ∧ t.frames.slot = taken.take (cameras first).length ∧
                t.frames.planned = taken.drop (cameras first).length ∧
                t.frames.completed = s.frames.completed ∧ t.frames.verdict = s.frames.verdict ∧
                (∀ i index entry camera, (i, index, entry, camera) ∈ taken.zip build →
                  t.frame i =
                    { generation := ((s.frame i).generation + 1) % 16, volume := ⟨slot, e.generation⟩, opening := n
                      camera := camera
                      face :=
                        match camera with
                        | .left => if 1 ≤ n then .verso (n - 1) else .board
                        | .right => if n < e.leafCount then .recto n else .board
                      bank := entry.bank, level := entry.level, duration := entry.duration, planEntry := index
                      status := if lit i then .exposing else .planned
                      frameNumber := none, measured := none }) ∧
                t.entry slot = { e with framesOpen := e.framesOpen + need } ∧
                (∀ i, i < 8 → i ≠ slot → t.entry i = s.entry i) ∧
                (n ≤ e.leafCount → s.extentsShareStore → ∀ i l, i < 8 → s.inUse i → l < (s.entry i).leafCount →
                  t.leaf i l =
                  let x := s.leaf i l
                  let opened := fun (camera : Camera) (leaf : Nat) =>
                    if i = slot ∧ n = leaf then build.countP fun b => b.2.2 == camera else 0
                  { x with
                    verso := { x.verso with framesOpen := x.verso.framesOpen + opened .left (l + 1) }
                    recto := { x.recto with framesOpen := x.recto.framesOpen + opened .right l } }) ∧
                t.sameButCapture s ∧ s.notified t [])

/-- CLOSE OPENING and STOP SWEEP (R160, R161, R157): STATE in IDLE; a close withdraws PLANNED and drains the exposure in the
slot, or ends the sweep CLOSED when the slot is empty, and in DRAINING changes nothing; a stop tears the slot and withdraws
PLANNED, the light out, the sweep IDLE with reason STOPPED and the counts in the reply. FRAMES WAITING (R134) is posted where
COMPLETED was empty, and SWEEP ENDED (R158) where the sweep ends; a sweep record with no volume, which no run reaches, is told
there with slot 255 (the model's reading, log 27). -/
def Obligations.CloseDrainsAndStopTears : Prop :=
  ∀ (o : Origin) (s : State),
    let w := s.walker.sweep
    let n := s.frames.planned.length
    let withdrawn := min 4294967295 (w.counts.withdrawn + n)
    let volume := w.volume.getD ⟨255, 0⟩
    let waiting := fun (completed : List Nat) =>
      if s.frames.completed = [] ∧ completed ≠ [] then [Notice.framesWaiting completed.length] else []
    let ended := fun (reason : SweepEnd) (counts : SweepCounts) =>
      Notice.sweepEnded reason w.mode volume.slot volume.generation (w.opening.getD 0) counts
    (s.accepts (.closeOpening o) o →
      let c : Instr := .closeOpening o
      if w.state = .idle then s.onlyAnswers c o .state []
      else if w.state = .draining then s.onlyAnswers c o .ok (be 1 5 ++ be 1 0)
      else
        ∃ t, exec c s = .next t ∧
          (t.port o.link).request =
            some (.answered { tag := o.tag, code := 32#8, result := .ok,
                              body := be 1 (if s.frames.slot = [] then 0 else 5) ++ be 1 n }) ∧
          t.frames.planned = [] ∧ t.frames.slot = s.frames.slot ∧ t.frames.free = s.frames.free ∧
          t.frames.verdict = s.frames.verdict ∧ t.frames.completed = s.frames.completed ++ s.frames.planned ∧
          (∀ i ∈ s.frames.planned, i < 256 → (t.frame i).status = .withdrawn) ∧
          t.walker.sweep =
            (if s.frames.slot = [] then
              { w with state := .idle, stage := none, buildPending := false, lastEnd := some .closed
                       counts := { w.counts with withdrawn := withdrawn } }
            else { w with state := .draining, counts := { w.counts with withdrawn := withdrawn } }) ∧
          t.lights = s.lights ∧ t.meter = s.meter ∧ t.custody = s.custody ∧ t.sameButCapture s ∧
          s.notified t
            (waiting (s.frames.completed ++ s.frames.planned) ++
              if s.frames.slot = [] then [ended .closed { w.counts with withdrawn := withdrawn }] else [])) ∧
    (s.accepts (.stopSweep o) o → s.LightSafe →
      let c : Instr := .stopSweep o
      let torn := if s.frames.slot = [] then w.counts.torn else min 4294967295 (w.counts.torn + s.frames.slot.length)
      let counts := { w.counts with withdrawn := withdrawn, torn := torn }
      if w.state = .idle then s.onlyAnswers c o .state []
      else
        ∃ t, exec c s = .next t ∧
          (t.port o.link).request =
            some (.answered
              { tag := o.tag, code := 33#8, result := .ok,
                body :=
                  be 4 counts.built ++ be 4 counts.taken ++ be 4 counts.refused ++ be 4 counts.cut ++
                    be 4 counts.torn ++ be 4 counts.unconfirmed ++ be 4 counts.cameraNotReady ++
                    be 4 counts.withdrawn }) ∧
          s.sweepTorn t .stopped ∧ t.walker.sweep.counts = counts ∧ t.lights.dark ∧ t.meter.running = none ∧
          t.lights.lastEnd = s.lights.lastEnd ∧ t.custody = s.custody ∧ t.sameButCapture s ∧
          s.notified t
            (waiting (s.frames.completed ++ s.frames.slot ++ s.frames.planned) ++ [ended .stopped counts]))

/-- The cameras (R144, R149, R150, R152, R153): a change of READY outside WAIT_CAMERA, or that leaves a camera concerned not
READY, is only read; one that makes every camera concerned READY lights the bank where the light is granted, a DRAINING sweep
staying DRAINING, and makes the slot REFUSED where it is not; a DONE edge advances its counter and, when its camera's
descriptor is CONFIRMING, makes it TAKEN with the new count; the ready timeout makes the slot CAMERA_NOT_READY and the confirm
timeout its descriptor UNCONFIRMED. The sweep is told here where it has a descriptor left or ends, with FRAMES WAITING (R134)
and SWEEP ENDED (R158). The expiry of a ready or confirm timer that does not run changes nothing (the model's choice, log
3). -/
def Obligations.CamerasReadyConfirmAndTimeOut : Prop :=
  ∀ (camera : Camera) (s : State),
    let w := s.walker.sweep
    let p := s.walker.port camera
    let raised := { p with counter := (p.counter + 1) % 65536 }
    let number := (p.counter + 1) % 65536
    s.quiet →
      (∀ level,
        ¬ (w.stage = some .waitCamera ∧ camera ∈ s.slotCameras ∧ level = true ∧
            ∀ x ∈ s.slotCameras, x ≠ camera → (s.walker.port x).ready = true) →
        exec (.cameraReadyChange camera level) s =
          .next (s.onCamera camera fun p => { p with ready := level })) ∧
      (∀ a rest, p.ready = false → w.state = .waitCamera ∨ w.state = .draining → w.stage = some .waitCamera →
        s.frames.slot = a :: rest → camera ∈ s.slotCameras →
        (∀ x ∈ s.slotCameras, x ≠ camera → (s.walker.port x).ready = true) → s.lightRefusal = none → s.frames.whole →
        ∃ t, exec (.cameraReadyChange camera true) s = .next t ∧
          Vec.at t.lights.banks (s.frame a).bank .off =
            (if (s.frame a).bank < 8 then .lit (s.frame a).level .exposure else .off) ∧
          t.meter.running = some { bank := (s.frame a).bank, owner := .exposure } ∧
          t.meter.exposure =
            some { planned := (s.frame a).duration / 10, charged := 0, dose := 0, irradianceSum := 0 } ∧
          t.walker.sweep =
            { w with
              state := if w.state = .draining then .draining else .exposing
              stage := some .exposing, started := true, runWithoutStart := 0 } ∧
          (∀ x ∈ s.slotCameras, (t.walker.port x).trigger = true) ∧
          (∀ x, (t.walker.port x).readyTimer = none) ∧ { t.frames with pool := s.frames.pool } = s.frames ∧
          t.custody = s.custody ∧ t.sameButCapture s ∧ s.notified t [] ∧
          ∀ i ∈ s.frames.slot, (t.frame i).status = .exposing) ∧
      (p.ready = false → w.state = .draining → w.stage = some .waitCamera → camera ∈ s.slotCameras →
        (∀ x ∈ s.slotCameras, x ≠ camera → (s.walker.port x).ready = true) → s.lightRefusal ≠ none → s.frames.whole →
        s.frames.planned = [] →
        ∃ t, exec (.cameraReadyChange camera true) s = .next t ∧ t.frames.slot = [] ∧
          t.frames.completed = s.frames.completed ++ s.frames.slot ∧
          (∀ i ∈ s.frames.slot, t.frame i = { s.frame i with status := .refused }) ∧
          t.walker.sweep.state = .idle ∧ t.walker.sweep.lastEnd = some .closed ∧
          t.walker.sweep.counts.refused = min 4294967295 (w.counts.refused + s.frames.slot.length) ∧
          (∀ x, (t.walker.port x).readyTimer = none ∧ (t.walker.port x).trigger = (s.walker.port x).trigger) ∧
          t.lights = s.lights ∧ t.meter = s.meter ∧ t.custody = s.custody ∧ t.sameButCapture s ∧
          s.notified t (s.captureNotices t)) ∧
      ((∀ i ∈ s.frames.slot, (s.frame i).camera = camera → (s.frame i).status ≠ .confirming) →
        exec (.doneEdge camera) s = .next (s.onCamera camera fun _ => raised)) ∧
      (∀ i j, s.frames.slot = [i, j] ∨ s.frames.slot = [j, i] → i ≠ j → i < 256 → (s.frame i).camera = camera →
        (s.frame i).status = .confirming → (s.frame j).camera ≠ camera → s.frames.completed ≠ [] →
        exec (.doneEdge camera) s =
          .next ((((s.onCamera camera fun _ => { raised with confirmTimer := none }).onFrame i fun d =>
            { d with frameNumber := some number, status := .taken }).onFrames fun q =>
            { q with slot := [j], completed := q.completed ++ [i] }).onCounts fun c =>
            { c with taken := min 4294967295 (c.taken + 1) })) ∧
      (∀ i, s.frames.slot = [i] → i < 256 → (s.frame i).camera = camera → (s.frame i).status = .confirming →
        w.state = .confirming → w.mode = .pass → s.frames.planned = [] → w.started = true →
        ∃ t, exec (.doneEdge camera) s = .next t ∧ (t.frame i).status = .taken ∧ (t.frame i).frameNumber = some number ∧
          t.frames.slot = [] ∧ t.frames.completed = s.frames.completed ++ [i] ∧ t.walker.sweep.state = .idle ∧
          t.walker.sweep.lastEnd = some .passDone ∧ t.custody = s.custody ∧ t.lights = s.lights ∧
          t.sameButCapture s ∧
          t.walker.sweep.counts =
            { w.counts with
              taken := min 4294967295 (w.counts.taken + 1), withdrawn := min 4294967295 w.counts.withdrawn } ∧
          s.notified t (s.captureNotices t)) ∧
      (p.readyTimer ≠ none → w.stage = some .waitCamera → w.state = .draining → s.frames.whole →
        s.frames.planned = [] →
        ∃ t, exec (.cameraReadyTimeout camera) s = .next t ∧ t.frames.slot = [] ∧
          t.frames.completed = s.frames.completed ++ s.frames.slot ∧
          (∀ i ∈ s.frames.slot, (t.frame i).status = .cameraNotReady ∧ (t.frame i).measured = (s.frame i).measured) ∧
          t.walker.sweep.state = .idle ∧ t.walker.sweep.lastEnd = some .closed ∧
          (∀ x, (t.walker.port x).readyTimer = none) ∧ t.lights = s.lights ∧ t.custody = s.custody ∧
          t.sameButCapture s ∧ s.notified t (s.captureNotices t)) ∧
      (p.readyTimer = none ∨ w.stage ≠ some .waitCamera → exec (.cameraReadyTimeout camera) s = .next s) ∧
      (∀ i j, s.frames.slot = [i, j] ∨ s.frames.slot = [j, i] → i ≠ j → i < 256 → (s.frame i).camera = camera →
        (s.frame i).status = .confirming → (s.frame j).camera ≠ camera → p.confirmTimer ≠ none →
        s.frames.completed ≠ [] →
        exec (.cameraConfirmTimeout camera) s =
          .next ((((s.onCamera camera fun p => { p with confirmTimer := none }).onFrame i fun d =>
            { d with status := .unconfirmed }).onFrames fun q =>
            { q with slot := [j], completed := q.completed ++ [i] }).onCounts fun c =>
            { c with unconfirmed := min 4294967295 (c.unconfirmed + 1) })) ∧
      (p.confirmTimer = none → exec (.cameraConfirmTimeout camera) s = .next s)

/-- PENDING_BUILD, a command of its own by the opcode table (the model's choice, log 24): without a build pending it changes
nothing. While FREE holds fewer descriptors than the next entry needs, the sweep waits on in WALKING; once it holds enough
(R147), the entry is built from the head of FREE, next entry advances around the plan, and the exposure starts, told here
where its projection passes and a camera concerned is not READY. -/
def Obligations.PendingBuildWaitsForFree : Prop :=
  ∀ (slot : Nat) (entry : PlanEntry) (s : State),
    let w := s.walker.sweep
    let need := if entry.cameras = .both then 2 else 1
    s.quiet → s.walker.planAt w.nextEntry = some entry →
      (w.buildPending = false → exec .pendingBuild s = .next s) ∧
      (w.buildPending = true → s.LightSafe → s.frames.free.length < need → exec .pendingBuild s = .next s) ∧
      (w.buildPending = true → s.LightSafe → need ≤ s.frames.free.length → s.mountedSlot = some slot →
        s.frames.whole → s.frames.planned = [] →
        (s.projection entry.bank entry.level entry.duration).passes = true →
        ((s.walker.left.ready = false ∧ entry.cameras ≠ .right) ∨
          (s.walker.right.ready = false ∧ entry.cameras ≠ .left)) →
        ∃ t, exec .pendingBuild s = .next t ∧ t.frames.free = s.frames.free.drop need ∧
          t.frames.slot = s.frames.free.take need ∧ t.frames.planned = [] ∧
          t.walker.sweep =
            { w with
              buildPending := false, state := .waitCamera, stage := some .waitCamera
              nextEntry := if w.nextEntry + 1 < s.walker.planLength then w.nextEntry + 1 else 0
              counts := { w.counts with built := min 4294967295 (w.counts.built + need) } } ∧
          t.frames.completed = s.frames.completed ∧ t.frames.verdict = s.frames.verdict ∧ t.lights = s.lights ∧
          t.sameButCapture s ∧ s.notified t [] ∧
          t.entry slot = { s.entry slot with framesOpen := (s.entry slot).framesOpen + need } ∧
          (∀ i, i < 8 → i ≠ slot → t.entry i = s.entry i) ∧
          ∀ i ∈ s.frames.free.take need, (t.frame i).status = .planned ∧ (t.frame i).planEntry = w.nextEntry ∧
            (t.frame i).volume = ⟨slot, (s.entry slot).generation⟩)

/-- The exposure slot empties and the sweep goes on or ends in the same event. Its one descriptor leaves it TAKEN by a DONE edge
(R152), UNCONFIRMED by a confirm timeout (R153), CAMERA_NOT_READY by a ready timeout (R149), or REFUSED by a light request that
a lowered budget turns away after the projection passed (R150). DRAINING ends CLOSED (R160). PASS (R155): the head of PLANNED
starts, else PASS_DONE, or BUDGET when nothing was lit and all that was built is REFUSED. COUNT and OPEN (R156): the run without
start rises by one for an exposure not lit; the target reached ends COUNT_REACHED; a run of the whole plan ends EXHAUSTED, or
BUDGET as above; else the next build is made (R147), or waits with the build pending while FREE is short. FRAMES WAITING (R134)
and SWEEP ENDED (R158) are posted, a sweep record with no volume, which no run reaches, told there with slot 255 (the model's
reading, log 27). An exposure is told as started where its projection passes and a camera concerned is not READY, and as REFUSED
(R148) where it fails, in a plan of one entry whose run it then ends. -/
def Obligations.SweepsGoOnOrEnd : Prop :=
  ∀ (camera : Camera) (status : FrameStatus) (i : Nat) (s : State),
    let c : Instr :=
      match status with
      | .taken => .doneEdge camera
      | .unconfirmed => .cameraConfirmTimeout camera
      | .cameraNotReady => .cameraReadyTimeout camera
      | _ => .cameraReadyChange camera true
    let lit : Bool := status = .taken ∨ status = .unconfirmed
    let w := s.walker.sweep
    let p := s.walker.port camera
    let number := (p.counter + 1) % 65536
    let completed := s.frames.completed ++ [i]
    let n := w.counts
    let counts :=
      match status with
      | .taken => { n with taken := min 4294967295 (n.taken + 1) }
      | .unconfirmed => { n with unconfirmed := min 4294967295 (n.unconfirmed + 1) }
      | .cameraNotReady => { n with cameraNotReady := min 4294967295 (n.cameraNotReady + 1) }
      | _ => { n with refused := min 4294967295 (n.refused + 1) }
    let emptied : State :=
      (match status with
        | .taken =>
          (s.onCamera camera fun p => { p with counter := number, confirmTimer := none }).onFrame i fun d =>
            { d with frameNumber := some number }
        | .unconfirmed => s.onCamera camera fun p => { p with confirmTimer := none }
        | .cameraNotReady => s.onCameras fun p => { p with readyTimer := none }
        | _ => (s.onCamera camera fun p => { p with ready := true }).onCameras fun p => { p with readyTimer := none }).onFrame
        i fun d => { d with status := status }
    let run := if lit then w.runWithoutStart else w.runWithoutStart + 1
    let waiting : List Notice := if s.frames.completed = [] then [.framesWaiting 1] else []
    let volume := w.volume.getD ⟨255, 0⟩
    let ends := fun (reason : SweepEnd) (run : Nat) =>
      let counts := { counts with withdrawn := min 4294967295 counts.withdrawn }
      exec c s =
        .next (((emptied.onFrames fun q => { q with slot := [], completed := completed }).onSweep fun w =>
          { w with
            state := .idle, stage := none, buildPending := false, runWithoutStart := run, counts := counts
            lastEnd := some reason }).announced
          (waiting ++ [.sweepEnded reason w.mode volume.slot volume.generation (w.opening.getD 0) counts]))
    let unlit := w.started == false && counts.refused == counts.built
    let repeats :=
      match w.mode with
      | .pass => False
      | .count target => counts.taken < target
      | .opened => True
    s.quiet → s.frames.slot = [i] → i < 256 → (s.frame i).camera = camera →
      (match status with
        | .taken => (s.frame i).status = .confirming
        | .unconfirmed => (s.frame i).status = .confirming ∧ p.confirmTimer ≠ none
        | .cameraNotReady => w.stage = some .waitCamera ∧ p.readyTimer ≠ none
        | .refused => w.stage = some .waitCamera ∧ p.ready = false ∧ s.lightRefusal ≠ none
        | _ => False) →
      (w.state = .draining → s.frames.planned = [] → ends .closed w.runWithoutStart) ∧
      (w.state ≠ .draining → w.mode = .pass → s.frames.planned = [] →
        ends (if unlit then .budget else .passDone) w.runWithoutStart) ∧
      (∀ target, w.state ≠ .draining → w.mode = .count target → target ≤ counts.taken → s.frames.planned = [] →
        ends .countReached run) ∧
      (w.state ≠ .draining → repeats → s.frames.planned = [] → run = s.walker.planLength →
        ends (if unlit then .budget else .exhausted) run) ∧
      (∀ entry, w.state ≠ .draining → repeats → run < s.walker.planLength →
        s.walker.planAt w.nextEntry = some entry →
        let need := if entry.cameras = .both then 2 else 1
        let next := if w.nextEntry + 1 < s.walker.planLength then w.nextEntry + 1 else 0
        let passes := (s.projection entry.bank entry.level entry.duration).passes
        (s.frames.free.length < need →
          exec c s =
            .next (((emptied.onFrames fun q => { q with slot := [], completed := completed }).onSweep fun w =>
              { w with
                state := .walking, stage := none, buildPending := true, runWithoutStart := run
                counts := counts }).announced waiting)) ∧
        (need ≤ s.frames.free.length → s.frames.whole → s.frames.planned = [] → s.mountedSlot ≠ none → passes = true →
          ((emptied.walker.left.ready = false ∧ entry.cameras ≠ .right) ∨
            (emptied.walker.right.ready = false ∧ entry.cameras ≠ .left)) →
          ∃ t, exec c s = .next t ∧ t.frames.slot = s.frames.free.take need ∧
            t.frames.free = s.frames.free.drop need ∧ t.frames.planned = [] ∧ t.frames.completed = completed ∧
            t.frames.verdict = s.frames.verdict ∧ t.frame i = emptied.frame i ∧
            (∀ j ∈ s.frames.free.take need, (t.frame j).status = .planned ∧ (t.frame j).planEntry = w.nextEntry ∧
              (t.walker.port (t.frame j).camera).readyTimer = some s.cameraReadyTime) ∧
            t.walker.sweep =
              { w with
                state := .waitCamera, stage := some .waitCamera, buildPending := false, runWithoutStart := run
                nextEntry := next, counts := { counts with built := min 4294967295 (counts.built + need) } } ∧
            t.lights = s.lights ∧ t.meter = s.meter ∧ t.sameButCapture s ∧ s.notified t waiting) ∧
        (need ≤ s.frames.free.length → s.frames.whole → s.frames.planned = [] → s.mountedSlot ≠ none → passes = false →
          s.walker.planLength = 1 → w.started = true → w.nextEntry = 0 →
          ∃ t, exec c s = .next t ∧ t.frames.slot = [] ∧ t.frames.planned = [] ∧
            t.frames.free = s.frames.free.drop need ∧
            t.frames.completed = completed ++ s.frames.free.take need ∧
            (∀ j ∈ s.frames.free.take need, (t.frame j).status = .refused ∧ (t.frame j).measured = none) ∧
            t.walker.sweep.state = .idle ∧ t.walker.sweep.lastEnd = some .exhausted ∧
            t.walker.sweep.counts =
              { counts with
                built := min 4294967295 (counts.built + need), refused := min 4294967295 (counts.refused + need)
                withdrawn := min 4294967295 counts.withdrawn } ∧
            t.lights = s.lights ∧ t.meter = s.meter ∧ t.sameButCapture s ∧ s.notified t (s.captureNotices t))) ∧
      (∀ a rest, w.state ≠ .draining → w.mode = .pass → s.frames.planned = a :: rest → s.frames.whole →
        (s.projection (s.frame a).bank (s.frame a).level (s.frame a).duration).passes = true →
        (emptied.walker.port (s.frame a).camera).ready = false →
        let paired := fun (b : Nat) =>
          (s.frame b).planEntry = (s.frame a).planEntry ∧ (s.frame b).camera ≠ (s.frame a).camera
        let pair := match rest with | [] => [] | b :: _ => if paired b then [b] else []
        ∃ t, exec c s = .next t ∧ t.frames.slot = a :: pair ∧ t.frames.planned = rest.drop pair.length ∧
          t.frames.free = s.frames.free ∧ t.frames.completed = completed ∧ t.frames.verdict = s.frames.verdict ∧
          t.walker.sweep = { w with state := .waitCamera, stage := some .waitCamera, counts := counts } ∧
          (t.walker.port (s.frame a).camera).readyTimer = some s.cameraReadyTime ∧ t.custody = s.custody ∧
          t.lights = s.lights ∧ t.meter = s.meter ∧ t.sameButCapture s ∧ s.notified t waiting)

/-! ### The settings and the station -/

/-- SET SETTING, READ SETTING, an upset and the periodic verification (R165, R168, R169, R170, R171, R172): a word is written
in MAINTENANCE alone and the state stands; the verification takes the sum of the 70 words as last sum and finds GOOD exactly
at 4294967295, a change to GOOD posted. A change to FAULT is delivered with SETTINGS CHANGED: the light out, a preview ended with
cause SETTINGS, an active sweep with reason SETTINGS, a turn, a SETTLING or a moving PARKING held with cause SETTINGS and TURN HELD
(none for a PARKING of a device reset, log 29, its drives stopped, log 11: the model's readings); in MAINTENANCE, where nothing
is lit and no sweep or turn runs, it stops at most a moving PARKING. For every word the range (R166) is spelled out, and the value
the blocks use (R167): the quantity held, signed for gain and offset, while it is in range, else the substitute; and for every
named time, level and cap the word it is read from (R165). -/
def Obligations.SettingsAreVerified : Prop :=
  ∀ (o : Origin) (index : Nat) (value : Word) (s : State),
    let written := Vec.put s.settings.words index value
    let sum := fun (words : Vector Word 70) => (words.toList.map BitVec.toNat).sum % 4294967296
    let found := sum s.settings.words
    let signed := 32 ≤ index ∧ index < 64 ∧ (index % 4 = 1 ∨ index % 4 = 2)
    let state := if s.settings.state = .good then 0 else 1
    (s.accepts (.setSetting o index value) o →
      if s.station.mode ≠ .maintenance then s.onlyAnswers (.setSetting o index value) o .mode []
      else
        s.answersWith (.setSetting o index value) o .ok
          (be 1 index ++ be 4 (s.word index).toNat ++ be 4 value.toNat ++ be 4 (sum written))
          (State.onSettings fun x => { x with words := written }) []) ∧
    (s.accepts (.readSetting o index) o →
      s.onlyAnswers (.readSetting o index) o .ok
        (be 1 index ++ be 4 (s.word index).toNat ++ be 1 (if signed then 1 else 0) ++
          be 1 (if settingInRange index (s.word index) then 1 else 0) ++ be 1 state ++ be 4 s.settings.lastSum)) ∧
    (s.quiet → exec (.storeUpset index value) s = .next (s.onSettings fun x => { x with words := written })) ∧
    (s.quiet → (found = 4294967295 ↔ s.settings.state = .good) →
      exec .verificationTimerExpiry s = .next (s.onSettings fun x => { x with lastSum := found })) ∧
    (s.quiet → found = 4294967295 → s.settings.state = .fault →
      exec .verificationTimerExpiry s =
        .next ((s.onSettings fun x => { x with lastSum := found, state := .good }).announced
          [.settingsChanged .fault .good .periodic found])) ∧
    (s.quiet → found ≠ 4294967295 → s.settings.state = .good → s.LightSafe →
      ∃ t, exec .verificationTimerExpiry s = .next t ∧ s.tripped t .settings ∧
        t.settings = { s.settings with lastSum := found, state := .fault } ∧ t.station = s.station ∧
        t.guards = s.guards ∧
        s.notified t
          (s.heldNotices .settings ++ s.captureNotices t ++ [.settingsChanged .good .fault .periodic found])) ∧
    (s.quiet → found ≠ 4294967295 → s.settings.state = .good → s.station.mode = .maintenance → s.LightSafe →
      s.walker.sweep.state = .idle → (s.cradle.state = .parked ∨ s.cradle.state = .parking) →
      let moving := s.cradle.state = .parking ∧ s.cradle.drive = .moving
      exec .verificationTimerExpiry s =
        .next (((s.onSettings fun x => { x with lastSum := found, state := .fault }).onCradle fun k =>
          if moving then
            { k with
              drive := .stopped .settings, timers := { k.timers with angle := none }
              outputs := { k.outputs with angleDrive := .stopped, armDrive := .stopped, wandDrive := .stopped } }
          else k).announced
          ([.settingsChanged .good .fault .periodic found] ++
            if moving ∧ s.cradle.parked ≠ none then [.turnHeld .settings .parking 0 s.gauge.values] else []))) ∧
    (let quantity := fun (i : Nat) (x low high substitute : Int) =>
      settingInRange i (s.word i) = decide (low ≤ x ∧ x ≤ high) ∧
        s.setting i = if low ≤ x ∧ x ≤ high then x else substitute
    let unsigned := fun (i : Nat) => quantity i (s.word i).toNat
    let twos := fun (i : Nat) => quantity i (s.word i).toInt
    (∀ c, c < 4 →
      unsigned (8 * c) 0 15 0 ∧ unsigned (8 * c + 1) 1 15 1 ∧ unsigned (8 * c + 2) 0 7 0 ∧
        unsigned (8 * c + 3) 100 10000 10000 ∧ unsigned (8 * c + 4) 100 10000 10000 ∧
        unsigned (8 * c + 5) 100 10000 10000 ∧ unsigned (8 * c + 6) 0 5000 5000 ∧
        unsigned (8 * c + 7) 1000 30000 30000 ∧
        s.airLevel (c + 1) = (s.setting (8 * c)).toNat ∧ s.carrySpeed (c + 1) = (s.setting (8 * c + 1)).toNat ∧
        s.retries (c + 1) = (s.setting (8 * c + 2)).toNat ∧ s.liftTime (c + 1) = (s.setting (8 * c + 3)).toNat ∧
        s.carryTime (c + 1) = (s.setting (8 * c + 4)).toNat ∧ s.layTime (c + 1) = (s.setting (8 * c + 5)).toNat ∧
        s.settleTime (c + 1) = (s.setting (8 * c + 6)).toNat ∧
        s.angleTime (c + 1) = (s.setting (8 * c + 7)).toNat) ∧
    (∀ b, b < 8 →
      unsigned (32 + 4 * b) 0 65535 65535 ∧ twos (32 + 4 * b + 1) (-32768) 32767 32767 ∧
        twos (32 + 4 * b + 2) (-32768) 32767 32767 ∧ unsigned (32 + 4 * b + 3) 0 255 255 ∧
        ∀ k, k < 4 → s.calibration b k = s.setting (32 + 4 * b + k)) ∧
    unsigned 64 1 100 100 ∧ unsigned 65 100 10000 10000 ∧ unsigned 66 100 10000 10000 ∧
    unsigned 67 1000 120000 120000 ∧ unsigned 68 0 1023 0 ∧ settingInRange 69 (s.word 69) = true ∧
    s.gateTime = (s.setting 64).toNat ∧ s.cameraReadyTime = (s.setting 65).toNat ∧
    s.cameraConfirmTime = (s.setting 66).toNat ∧ s.pickConfirmTime = (s.setting 67).toNat ∧
    s.previewCap = (s.setting 68).toNat)

/-- ENTER READY, ENTER MAINTENANCE, HALT and CLEAR HALT (R173, R176, R177, R178, R179): the checks of each in order, the
mode changed with MODE CHANGED to all links, the stop key's latch cleared while the key is RELEASED, the curtain's latch
kept; a HALT in READY puts the light out, ends a preview with cause HALT and an active sweep with reason HALTED, and holds a
turn, a SETTLING or a moving PARKING with cause HALT and TURN HELD (none for a PARKING of a device reset, log 29, its drives
stopped, log 11: the model's readings). -/
def Obligations.ModesChangeByRequest : Prop :=
  ∀ (o : Origin) (s : State),
    let sum := (s.settings.words.toList.map BitVec.toNat).sum % 4294967296
    let bit := fun (b : Bool) => be 1 (if b then 1 else 0)
    let g := s.guards
    let latch := g.stopLatch && g.stopPressed
    let guards := bit g.curtainBroken ++ bit g.curtainLatch ++ bit g.stopPressed
    (s.accepts (.enterReady o) o →
      let c : Instr := .enterReady o
      (s.station.mode ≠ .maintenance → s.onlyAnswers c o .mode []) ∧
      (s.station.mode = .maintenance → sum ≠ 4294967295 → s.onlyAnswers c o .settingsFault (be 1 0 ++ be 4 sum)) ∧
      (∀ i, s.station.mode = .maintenance → sum = 4294967295 → i < 70 → settingInRange i (s.word i) = false →
        (∀ j, j < i → settingInRange j (s.word j) = true) →
        s.onlyAnswers c o .settingsFault (be 1 1 ++ be 4 i)) ∧
      (s.station.mode = .maintenance → sum = 4294967295 → (∀ i, i < 70 → settingInRange i (s.word i) = true) →
        s.answersWith c o .ok (be 1 1 ++ be 1 0 ++ be 4 sum ++ guards ++ bit latch)
          (fun t => ((t.onSettings fun x => { x with state := .good, lastSum := sum }).onGuards fun x =>
            { x with stopLatch := latch }).onStation fun x => { x with mode := .ready })
          ((if s.settings.state = .fault then [.settingsChanged .fault .good .enterReady sum] else []) ++
            [.modeChanged .maintenance .ready .enterReady]))) ∧
    (s.accepts (.enterMaintenance o) o →
      let c : Instr := .enterMaintenance o
      if s.station.mode = .maintenance then s.onlyAnswers c o .mode []
      else if s.mountedSlot ≠ none then s.onlyAnswers c o .state []
      else
        s.answersWith c o .ok (be 1 0) (State.onStation fun x => { x with mode := .maintenance })
          [.modeChanged s.station.mode .maintenance .enterMaintenance]) ∧
    (s.accepts (.halt o) o →
      let c : Instr := .halt o
      (s.station.mode = .maintenance → s.onlyAnswers c o .mode []) ∧
      (s.station.mode = .halted → s.onlyAnswers c o .ok (be 1 2)) ∧
      (s.station.mode = .ready → s.LightSafe →
        ∃ t, exec c s = .next t ∧
          (t.port o.link).request =
            some (.answered { tag := o.tag, code := 38#8, result := .ok, body := be 1 2 }) ∧
          s.tripped t .halt ∧ t.station = { s.station with mode := .halted } ∧ t.guards = s.guards ∧
          t.settings = s.settings ∧
          s.notified t (s.heldNotices .halt ++ s.captureNotices t ++ [.modeChanged .ready .halted .halt]))) ∧
    (s.accepts (.clearHalt o) o →
      let c : Instr := .clearHalt o
      if s.station.mode ≠ .halted then s.onlyAnswers c o .mode []
      else if g.stopPressed then s.onlyAnswers c o .guard []
      else if s.settings.state ≠ .good then s.onlyAnswers c o .settingsFault []
      else
        s.answersWith c o .ok (be 1 1 ++ guards ++ bit false)
          (fun t => (t.onGuards fun x => { x with stopLatch := false }).onStation fun x => { x with mode := .ready })
          [.modeChanged .halted .ready .clearHalt])

/-- RESTART (R26, R75, R104, R129, R143, R180, R181, R182): CRADLE_BUSY while a turn, a SETTLING or a recovery runs or a leaf
hangs on the wand; else every block as R181 leaves it. A mounted volume is parked under its class (R51): stopped by a broken or
latched curtain (R53), ended at once where the plates are flat and the mechanism is at rest, else driven with the angle timer
in full (R52); with none mounted the cradle keeps its move. Each queue then holds RESTARTED, the TURN HELD or VOLUME DISMOUNTED
of that PARKING on the links it is routed to, and MODE CHANGED. That MODE CHANGED comes after that VOLUME DISMOUNTED, and that
the guard comes before the arrival, are the model's readings (log 30, log 10). -/
def Obligations.RestartLeavesEachBlockAsGiven : Prop :=
  ∀ (o : Origin) (s : State),
    let c : Instr := .restart o
    let k := s.cradle
    let busy := k.state = .turning ∨ k.state = .settling ∨ k.state = .recovering ∨
      ((k.state = .holding ∨ k.state = .fault) ∧ k.leafOnWand = true)
    let outside := (List.range 256).filter fun i => s.frames.holder i != .free
    let volume := s.mountedSlot.map fun i => (⟨i, (s.entry i).generation⟩ : VolumeName)
    let clear := s.guards.curtainBroken = false ∧ s.guards.curtainLatch = false
    let arrived := 178 ≤ k.sensors.angle ∧ k.sensors.armRest = true ∧ k.sensors.wandDown = false
    let still : Outputs :=
      { k.outputs with
        angleDrive := .stopped, armDrive := .stopped, wandDrive := .stopped, vacuumOpen := false, airKnife := none }
    let parking : List Notice :=
      match volume with
      | none => []
      | some v =>
        if ¬ clear then [.turnHeld .guard .parking 0 s.gauge.values]
        else if arrived then [.volumeDismounted v.slot v.generation]
        else []
    s.accepts c o → s.oneMounted →
      (busy → s.onlyAnswers c o .cradleBusy []) ∧
      (¬ busy →
        ∃ t, exec c s = .next t ∧
          (t.port o.link).request =
            some (.answered
              { tag := o.tag, code := 40#8, result := .ok,
                body :=
                  be 1 (match s.station.mode with | .maintenance => 0 | .ready => 1 | .halted => 2) ++
                    (match volume with | none => be 1 255 ++ be 1 0 | some v => be 1 v.slot ++ be 1 v.generation) ++
                    be 2 outside.length }) ∧
          t.station = { mode := .maintenance, lastReset := .restart } ∧ t.settings = s.settings ∧
          t.gauge = s.gauge ∧ t.guards = s.guards ∧ t.pending = s.pending ∧
          (∀ i, i < 8 → t.entry i =
            if (s.entry i).state = .mounted then
              { s.entry i with state := .staged, hold := some .restart, framesOpen := 0 }
            else { s.entry i with framesOpen := 0 }) ∧
          t.custody.nextSequence = s.custody.nextSequence ∧
          (∀ i, LeafStore.get t.custody.leaves i = (LeafStore.get s.custody.leaves i).map fun r =>
            { r with verso := { r.verso with framesOpen := 0 }, recto := { r.recto with framesOpen := 0 } }) ∧
          (s.LightSafe → t.lights.dark) ∧ t.lights.preview = none ∧
          t.lights.lastEnd = (if s.lights.preview = none then s.lights.lastEnd else some .restart) ∧
          t.meter = { running := none, irradiance := 0, exposure := none, preview := s.meter.preview } ∧
          t.frames =
            { pool := s.frames.pool, free := s.frames.free ++ outside, planned := [], slot := [], completed := []
              verdict := [] } ∧
          t.walker =
            { s.walker with
              sweep := { s.walker.sweep with state := .idle, stage := none, buildPending := false, lastEnd := none }
              left := { s.walker.left with trigger := false, readyTimer := none, confirmTimer := none }
              right := { s.walker.right with trigger := false, readyTimer := none, confirmTimer := none } } ∧
          t.cradle.approval = none ∧ t.cradle.turn = none ∧ t.cradle.hold = none ∧ t.cradle.fault = none ∧
          t.cradle.opening = k.opening ∧
          t.cradle.sensors = k.sensors ∧
          (match volume with
            | none => t.cradle = { k with approval := none, turn := none, hold := none, fault := none }
            | some v =>
              let e := s.entry v.slot
              t.cradle.mounted = none ∧ t.cradle.moveClass = e.handlingClass ∧
                if ¬ clear then
                  t.cradle.state = .parking ∧ t.cradle.parked = some v ∧ t.cradle.drive = .stopped .guard ∧
                    t.cradle.timers = .stopped ∧ t.cradle.outputs = still
                else if arrived then
                  t.cradle.state = .parked ∧ t.cradle.parked = none ∧ t.cradle.timers.angle = none ∧
                    t.cradle.outputs = still
                else
                  t.cradle.state = .parking ∧ t.cradle.parked = some v ∧ t.cradle.drive = .moving ∧
                    t.cradle.timers.angle = some (s.angleTime e.handlingClass) ∧
                    t.cradle.outputs =
                      { angleDrive := .toward 180, armDrive := .toRest none, wandDrive := .up, vacuumOpen := false,
                        airKnife := none }) ∧
          ∀ link, (t.port link).lost = false ∧
            (t.port link).notices =
              [.restarted s.station.mode volume outside.length] ++ (if link = .accounting then [] else parking) ++
                if s.station.mode = .maintenance then [] else [.modeChanged s.station.mode .maintenance .restart])

/-- READ STATUS (R183) on every link and in every mode: the status record of 101 bytes, group by group as section 11.6 lays it
out, and nothing changes. The fills of a dark bank's level and of absent intervals (log 22), and the drive bytes outside
PARKING (log 28), are the model's choices. -/
def Obligations.ReadStatusReportsTheStation : Prop :=
  ∀ (o : Origin) (s : State),
    let bit := fun (b : Bool) => be 1 (if b then 1 else 0)
    let stop := fun (c : StopCause) => match c with | .guard => 0 | .halt => 1 | .settings => 2 | .angleTimeout => 3
    let phase := fun (p : Phase) =>
      match p with
      | .baseline => 0 | .lift => 1 | .pickConfirm => 2 | .drop => 3 | .carry => 4 | .lay => 5 | .returning => 6
      | .settle => 7
    let owner := fun (x : LightOwner) => match x with | .exposure => 0 | .preview => 1
    let k := s.cradle
    let w := s.walker.sweep
    let station :=
      be 1 (match s.station.mode with | .maintenance => 0 | .ready => 1 | .halted => 2) ++
        be 1 (match s.station.lastReset with | .device => 0 | .restart => 1)
    let settings :=
      be 1 (match s.settings.state with | .good => 0 | .fault => 1) ++ be 4 s.settings.lastSum
    let cradle :=
      be 1 (match k.state with
        | .parked => 0 | .settling => 1 | .openReady => 2 | .turning => 3 | .holding => 4 | .fault => 5
        | .recovering => 6 | .parking => 7) ++
      (match k.drive with
        | .moving => be 1 0 ++ be 1 255
        | .stopped cause => be 1 1 ++ be 1 (stop cause)) ++
      (match k.hold, k.turn with
        | none, _ => be 1 255 ++ be 1 255
        | some ⟨cause, .settling⟩, _ => be 1 (stop cause) ++ be 1 8
        | some ⟨cause, .turn⟩, some r => be 1 (stop cause) ++ be 1 (phase r.phase)
        | some ⟨cause, .turn⟩, none => be 1 (stop cause) ++ be 1 255) ++
      (match k.fault with
        | none => be 1 255 ++ be 1 255
        | some f =>
          be 1 (match f.cause with
            | .pickDouble => 0 | .pickNone => 1 | .noConfirm => 2 | .timeout => 3 | .vacuumLost => 4
            | .angleTimeout => 5) ++
          be 1 (match f.phase with | none => 255 | some p => phase p)) ++
      (match k.turn with
        | none => List.replicate 6 255#8
        | some r =>
          be 1 (phase r.phase) ++ be 1 r.step ++ be 1 (match r.direction with | .forward => 0 | .back => 1) ++
            be 1 r.count ++ be 1 r.done ++ be 1 r.effectiveClass) ++
      be 2 k.opening ++
      (match k.mounted with
        | none => be 1 255 ++ be 1 0
        | some v => be 1 v.slot ++ be 1 v.generation)
    let guards :=
      bit s.guards.curtainBroken ++ bit s.guards.curtainLatch ++ bit s.guards.stopPressed ++ bit s.guards.stopLatch
    let bank := (List.range 8).find? fun i => decide (Vec.at s.lights.banks i .off ≠ .off)
    let lighting :=
      (match bank with
        | none => be 1 255 ++ be 1 255 ++ be 2 65535
        | some b =>
          match Vec.at s.lights.banks b .off with
          | .off => []
          | .lit level x => be 1 b ++ be 1 (owner x) ++ be 2 level) ++
      (match s.lights.preview with | none => be 1 0 ++ be 2 0 | some level => be 1 1 ++ be 2 level) ++
      be 1 (match s.lights.lastEnd with
        | none => 255 | some .request => 0 | some .turn => 1 | some .capture => 2 | some .dismount => 3
        | some .guard => 4 | some .halt => 5 | some .settings => 6 | some .budget => 7 | some .restart => 8)
    let metering :=
      (match s.meter.running with
        | none => be 1 0 ++ be 1 255 ++ be 1 255
        | some r => be 1 1 ++ be 1 r.bank ++ be 1 (owner r.owner)) ++
      be 2 s.meter.irradiance ++
      (match s.meter.running, s.meter.exposure with
        | some ⟨_, .exposure⟩, some a => be 1 a.charged ++ be 1 a.planned
        | _, _ => be 1 255 ++ be 1 255)
    let sweep :=
      be 1 (match w.state with
        | .idle => 0 | .walking => 1 | .waitCamera => 2 | .exposing => 3 | .confirming => 4 | .draining => 5) ++
      (match w.mode with
        | .pass => be 1 0 ++ be 1 255
        | .count target => be 1 1 ++ be 1 target
        | .opened => be 1 2 ++ be 1 255) ++
      be 1 (match w.stage with
        | none => 255 | some .waitCamera => 0 | some .exposing => 1 | some .confirming => 2) ++
      bit w.buildPending ++ be 4 w.counts.built ++ be 4 w.counts.taken ++ be 4 w.counts.refused ++
      be 4 w.counts.cut ++ be 4 w.counts.torn ++ be 4 w.counts.unconfirmed ++ be 4 w.counts.cameraNotReady ++
      be 4 w.counts.withdrawn ++
      be 1 (match w.lastEnd with
        | none => 255 | some .passDone => 0 | some .countReached => 1 | some .closed => 2 | some .exhausted => 3
        | some .stopped => 4 | some .guard => 5 | some .halted => 6 | some .settings => 7 | some .dismounted => 8
        | some .budget => 9)
    let queues :=
      be 2 s.frames.free.length ++ be 2 s.frames.planned.length ++ be 2 s.frames.completed.length ++
        be 2 s.frames.verdict.length
    let cameras :=
      bit s.walker.left.ready ++ be 2 s.walker.left.counter ++ bit s.walker.right.ready ++
        be 2 s.walker.right.counter
    let store :=
      be 2 (4096 - s.custody.leaves.length) ++ be 2 (((longestRun s.custody.leaves).map (·.2)).getD 0) ++
        be 2 (((longestRun s.custody.leaves).map (·.1)).getD 65535)
    let record :=
      station ++ settings ++ cradle ++ guards ++ lighting ++ metering ++ sweep ++ queues ++ cameras ++ store
    record.length = 101 ∧
      (s.quiet → (s.port o.link).idle → s.onlyAnswers (.readStatus o) o .ok record)
end

