-- ==== Sys2Proof/Laws/State.lean ====
section
/-! SUPPORT. Laws.State: every field after every update of one block, so that no proof unfolds a record update. -/

namespace Sys2Proof.Machine

section onStation
variable (f : Station → Station) (s : State)
@[simp] theorem State.onStation_station : (s.onStation f).station = f s.station := rfl
@[simp] theorem State.onStation_settings : (s.onStation f).settings = s.settings := rfl
@[simp] theorem State.onStation_custody : (s.onStation f).custody = s.custody := rfl
@[simp] theorem State.onStation_cradle : (s.onStation f).cradle = s.cradle := rfl
@[simp] theorem State.onStation_gauge : (s.onStation f).gauge = s.gauge := rfl
@[simp] theorem State.onStation_guards : (s.onStation f).guards = s.guards := rfl
@[simp] theorem State.onStation_lights : (s.onStation f).lights = s.lights := rfl
@[simp] theorem State.onStation_meter : (s.onStation f).meter = s.meter := rfl
@[simp] theorem State.onStation_frames : (s.onStation f).frames = s.frames := rfl
@[simp] theorem State.onStation_walker : (s.onStation f).walker = s.walker := rfl
@[simp] theorem State.onStation_links : (s.onStation f).links = s.links := rfl
@[simp] theorem State.onStation_outbox : (s.onStation f).outbox = s.outbox := rfl
@[simp] theorem State.onStation_pending : (s.onStation f).pending = s.pending := rfl
end onStation

section onSettings
variable (f : Settings → Settings) (s : State)
@[simp] theorem State.onSettings_station : (s.onSettings f).station = s.station := rfl
@[simp] theorem State.onSettings_settings : (s.onSettings f).settings = f s.settings := rfl
@[simp] theorem State.onSettings_custody : (s.onSettings f).custody = s.custody := rfl
@[simp] theorem State.onSettings_cradle : (s.onSettings f).cradle = s.cradle := rfl
@[simp] theorem State.onSettings_gauge : (s.onSettings f).gauge = s.gauge := rfl
@[simp] theorem State.onSettings_guards : (s.onSettings f).guards = s.guards := rfl
@[simp] theorem State.onSettings_lights : (s.onSettings f).lights = s.lights := rfl
@[simp] theorem State.onSettings_meter : (s.onSettings f).meter = s.meter := rfl
@[simp] theorem State.onSettings_frames : (s.onSettings f).frames = s.frames := rfl
@[simp] theorem State.onSettings_walker : (s.onSettings f).walker = s.walker := rfl
@[simp] theorem State.onSettings_links : (s.onSettings f).links = s.links := rfl
@[simp] theorem State.onSettings_outbox : (s.onSettings f).outbox = s.outbox := rfl
@[simp] theorem State.onSettings_pending : (s.onSettings f).pending = s.pending := rfl
end onSettings

section onCustody
variable (f : Custody → Custody) (s : State)
@[simp] theorem State.onCustody_station : (s.onCustody f).station = s.station := rfl
@[simp] theorem State.onCustody_settings : (s.onCustody f).settings = s.settings := rfl
@[simp] theorem State.onCustody_custody : (s.onCustody f).custody = f s.custody := rfl
@[simp] theorem State.onCustody_cradle : (s.onCustody f).cradle = s.cradle := rfl
@[simp] theorem State.onCustody_gauge : (s.onCustody f).gauge = s.gauge := rfl
@[simp] theorem State.onCustody_guards : (s.onCustody f).guards = s.guards := rfl
@[simp] theorem State.onCustody_lights : (s.onCustody f).lights = s.lights := rfl
@[simp] theorem State.onCustody_meter : (s.onCustody f).meter = s.meter := rfl
@[simp] theorem State.onCustody_frames : (s.onCustody f).frames = s.frames := rfl
@[simp] theorem State.onCustody_walker : (s.onCustody f).walker = s.walker := rfl
@[simp] theorem State.onCustody_links : (s.onCustody f).links = s.links := rfl
@[simp] theorem State.onCustody_outbox : (s.onCustody f).outbox = s.outbox := rfl
@[simp] theorem State.onCustody_pending : (s.onCustody f).pending = s.pending := rfl
end onCustody

section onCradle
variable (f : Cradle → Cradle) (s : State)
@[simp] theorem State.onCradle_station : (s.onCradle f).station = s.station := rfl
@[simp] theorem State.onCradle_settings : (s.onCradle f).settings = s.settings := rfl
@[simp] theorem State.onCradle_custody : (s.onCradle f).custody = s.custody := rfl
@[simp] theorem State.onCradle_cradle : (s.onCradle f).cradle = f s.cradle := rfl
@[simp] theorem State.onCradle_gauge : (s.onCradle f).gauge = s.gauge := rfl
@[simp] theorem State.onCradle_guards : (s.onCradle f).guards = s.guards := rfl
@[simp] theorem State.onCradle_lights : (s.onCradle f).lights = s.lights := rfl
@[simp] theorem State.onCradle_meter : (s.onCradle f).meter = s.meter := rfl
@[simp] theorem State.onCradle_frames : (s.onCradle f).frames = s.frames := rfl
@[simp] theorem State.onCradle_walker : (s.onCradle f).walker = s.walker := rfl
@[simp] theorem State.onCradle_links : (s.onCradle f).links = s.links := rfl
@[simp] theorem State.onCradle_outbox : (s.onCradle f).outbox = s.outbox := rfl
@[simp] theorem State.onCradle_pending : (s.onCradle f).pending = s.pending := rfl
end onCradle

section onGauge
variable (f : Gauge → Gauge) (s : State)
@[simp] theorem State.onGauge_station : (s.onGauge f).station = s.station := rfl
@[simp] theorem State.onGauge_settings : (s.onGauge f).settings = s.settings := rfl
@[simp] theorem State.onGauge_custody : (s.onGauge f).custody = s.custody := rfl
@[simp] theorem State.onGauge_cradle : (s.onGauge f).cradle = s.cradle := rfl
@[simp] theorem State.onGauge_gauge : (s.onGauge f).gauge = f s.gauge := rfl
@[simp] theorem State.onGauge_guards : (s.onGauge f).guards = s.guards := rfl
@[simp] theorem State.onGauge_lights : (s.onGauge f).lights = s.lights := rfl
@[simp] theorem State.onGauge_meter : (s.onGauge f).meter = s.meter := rfl
@[simp] theorem State.onGauge_frames : (s.onGauge f).frames = s.frames := rfl
@[simp] theorem State.onGauge_walker : (s.onGauge f).walker = s.walker := rfl
@[simp] theorem State.onGauge_links : (s.onGauge f).links = s.links := rfl
@[simp] theorem State.onGauge_outbox : (s.onGauge f).outbox = s.outbox := rfl
@[simp] theorem State.onGauge_pending : (s.onGauge f).pending = s.pending := rfl
end onGauge

section onGuards
variable (f : Guards → Guards) (s : State)
@[simp] theorem State.onGuards_station : (s.onGuards f).station = s.station := rfl
@[simp] theorem State.onGuards_settings : (s.onGuards f).settings = s.settings := rfl
@[simp] theorem State.onGuards_custody : (s.onGuards f).custody = s.custody := rfl
@[simp] theorem State.onGuards_cradle : (s.onGuards f).cradle = s.cradle := rfl
@[simp] theorem State.onGuards_gauge : (s.onGuards f).gauge = s.gauge := rfl
@[simp] theorem State.onGuards_guards : (s.onGuards f).guards = f s.guards := rfl
@[simp] theorem State.onGuards_lights : (s.onGuards f).lights = s.lights := rfl
@[simp] theorem State.onGuards_meter : (s.onGuards f).meter = s.meter := rfl
@[simp] theorem State.onGuards_frames : (s.onGuards f).frames = s.frames := rfl
@[simp] theorem State.onGuards_walker : (s.onGuards f).walker = s.walker := rfl
@[simp] theorem State.onGuards_links : (s.onGuards f).links = s.links := rfl
@[simp] theorem State.onGuards_outbox : (s.onGuards f).outbox = s.outbox := rfl
@[simp] theorem State.onGuards_pending : (s.onGuards f).pending = s.pending := rfl
end onGuards

section onLights
variable (f : Lights → Lights) (s : State)
@[simp] theorem State.onLights_station : (s.onLights f).station = s.station := rfl
@[simp] theorem State.onLights_settings : (s.onLights f).settings = s.settings := rfl
@[simp] theorem State.onLights_custody : (s.onLights f).custody = s.custody := rfl
@[simp] theorem State.onLights_cradle : (s.onLights f).cradle = s.cradle := rfl
@[simp] theorem State.onLights_gauge : (s.onLights f).gauge = s.gauge := rfl
@[simp] theorem State.onLights_guards : (s.onLights f).guards = s.guards := rfl
@[simp] theorem State.onLights_lights : (s.onLights f).lights = f s.lights := rfl
@[simp] theorem State.onLights_meter : (s.onLights f).meter = s.meter := rfl
@[simp] theorem State.onLights_frames : (s.onLights f).frames = s.frames := rfl
@[simp] theorem State.onLights_walker : (s.onLights f).walker = s.walker := rfl
@[simp] theorem State.onLights_links : (s.onLights f).links = s.links := rfl
@[simp] theorem State.onLights_outbox : (s.onLights f).outbox = s.outbox := rfl
@[simp] theorem State.onLights_pending : (s.onLights f).pending = s.pending := rfl
end onLights

section onMeter
variable (f : Meter → Meter) (s : State)
@[simp] theorem State.onMeter_station : (s.onMeter f).station = s.station := rfl
@[simp] theorem State.onMeter_settings : (s.onMeter f).settings = s.settings := rfl
@[simp] theorem State.onMeter_custody : (s.onMeter f).custody = s.custody := rfl
@[simp] theorem State.onMeter_cradle : (s.onMeter f).cradle = s.cradle := rfl
@[simp] theorem State.onMeter_gauge : (s.onMeter f).gauge = s.gauge := rfl
@[simp] theorem State.onMeter_guards : (s.onMeter f).guards = s.guards := rfl
@[simp] theorem State.onMeter_lights : (s.onMeter f).lights = s.lights := rfl
@[simp] theorem State.onMeter_meter : (s.onMeter f).meter = f s.meter := rfl
@[simp] theorem State.onMeter_frames : (s.onMeter f).frames = s.frames := rfl
@[simp] theorem State.onMeter_walker : (s.onMeter f).walker = s.walker := rfl
@[simp] theorem State.onMeter_links : (s.onMeter f).links = s.links := rfl
@[simp] theorem State.onMeter_outbox : (s.onMeter f).outbox = s.outbox := rfl
@[simp] theorem State.onMeter_pending : (s.onMeter f).pending = s.pending := rfl
end onMeter

section onFrames
variable (f : Frames → Frames) (s : State)
@[simp] theorem State.onFrames_station : (s.onFrames f).station = s.station := rfl
@[simp] theorem State.onFrames_settings : (s.onFrames f).settings = s.settings := rfl
@[simp] theorem State.onFrames_custody : (s.onFrames f).custody = s.custody := rfl
@[simp] theorem State.onFrames_cradle : (s.onFrames f).cradle = s.cradle := rfl
@[simp] theorem State.onFrames_gauge : (s.onFrames f).gauge = s.gauge := rfl
@[simp] theorem State.onFrames_guards : (s.onFrames f).guards = s.guards := rfl
@[simp] theorem State.onFrames_lights : (s.onFrames f).lights = s.lights := rfl
@[simp] theorem State.onFrames_meter : (s.onFrames f).meter = s.meter := rfl
@[simp] theorem State.onFrames_frames : (s.onFrames f).frames = f s.frames := rfl
@[simp] theorem State.onFrames_walker : (s.onFrames f).walker = s.walker := rfl
@[simp] theorem State.onFrames_links : (s.onFrames f).links = s.links := rfl
@[simp] theorem State.onFrames_outbox : (s.onFrames f).outbox = s.outbox := rfl
@[simp] theorem State.onFrames_pending : (s.onFrames f).pending = s.pending := rfl
end onFrames

section onWalker
variable (f : Walker → Walker) (s : State)
@[simp] theorem State.onWalker_station : (s.onWalker f).station = s.station := rfl
@[simp] theorem State.onWalker_settings : (s.onWalker f).settings = s.settings := rfl
@[simp] theorem State.onWalker_custody : (s.onWalker f).custody = s.custody := rfl
@[simp] theorem State.onWalker_cradle : (s.onWalker f).cradle = s.cradle := rfl
@[simp] theorem State.onWalker_gauge : (s.onWalker f).gauge = s.gauge := rfl
@[simp] theorem State.onWalker_guards : (s.onWalker f).guards = s.guards := rfl
@[simp] theorem State.onWalker_lights : (s.onWalker f).lights = s.lights := rfl
@[simp] theorem State.onWalker_meter : (s.onWalker f).meter = s.meter := rfl
@[simp] theorem State.onWalker_frames : (s.onWalker f).frames = s.frames := rfl
@[simp] theorem State.onWalker_walker : (s.onWalker f).walker = f s.walker := rfl
@[simp] theorem State.onWalker_links : (s.onWalker f).links = s.links := rfl
@[simp] theorem State.onWalker_outbox : (s.onWalker f).outbox = s.outbox := rfl
@[simp] theorem State.onWalker_pending : (s.onWalker f).pending = s.pending := rfl
end onWalker

section onLinks
variable (f : Links → Links) (s : State)
@[simp] theorem State.onLinks_station : (s.onLinks f).station = s.station := rfl
@[simp] theorem State.onLinks_settings : (s.onLinks f).settings = s.settings := rfl
@[simp] theorem State.onLinks_custody : (s.onLinks f).custody = s.custody := rfl
@[simp] theorem State.onLinks_cradle : (s.onLinks f).cradle = s.cradle := rfl
@[simp] theorem State.onLinks_gauge : (s.onLinks f).gauge = s.gauge := rfl
@[simp] theorem State.onLinks_guards : (s.onLinks f).guards = s.guards := rfl
@[simp] theorem State.onLinks_lights : (s.onLinks f).lights = s.lights := rfl
@[simp] theorem State.onLinks_meter : (s.onLinks f).meter = s.meter := rfl
@[simp] theorem State.onLinks_frames : (s.onLinks f).frames = s.frames := rfl
@[simp] theorem State.onLinks_walker : (s.onLinks f).walker = s.walker := rfl
@[simp] theorem State.onLinks_links : (s.onLinks f).links = f s.links := rfl
@[simp] theorem State.onLinks_outbox : (s.onLinks f).outbox = s.outbox := rfl
@[simp] theorem State.onLinks_pending : (s.onLinks f).pending = s.pending := rfl
end onLinks

section onOutbox
variable (f : List Notice → List Notice) (s : State)
@[simp] theorem State.onOutbox_station : (s.onOutbox f).station = s.station := rfl
@[simp] theorem State.onOutbox_settings : (s.onOutbox f).settings = s.settings := rfl
@[simp] theorem State.onOutbox_custody : (s.onOutbox f).custody = s.custody := rfl
@[simp] theorem State.onOutbox_cradle : (s.onOutbox f).cradle = s.cradle := rfl
@[simp] theorem State.onOutbox_gauge : (s.onOutbox f).gauge = s.gauge := rfl
@[simp] theorem State.onOutbox_guards : (s.onOutbox f).guards = s.guards := rfl
@[simp] theorem State.onOutbox_lights : (s.onOutbox f).lights = s.lights := rfl
@[simp] theorem State.onOutbox_meter : (s.onOutbox f).meter = s.meter := rfl
@[simp] theorem State.onOutbox_frames : (s.onOutbox f).frames = s.frames := rfl
@[simp] theorem State.onOutbox_walker : (s.onOutbox f).walker = s.walker := rfl
@[simp] theorem State.onOutbox_links : (s.onOutbox f).links = s.links := rfl
@[simp] theorem State.onOutbox_outbox : (s.onOutbox f).outbox = f s.outbox := rfl
@[simp] theorem State.onOutbox_pending : (s.onOutbox f).pending = s.pending := rfl
end onOutbox

section withPending
variable (q : List Instr) (s : State)
@[simp] theorem State.withPending_station : (s.withPending q).station = s.station := rfl
@[simp] theorem State.withPending_settings : (s.withPending q).settings = s.settings := rfl
@[simp] theorem State.withPending_custody : (s.withPending q).custody = s.custody := rfl
@[simp] theorem State.withPending_cradle : (s.withPending q).cradle = s.cradle := rfl
@[simp] theorem State.withPending_gauge : (s.withPending q).gauge = s.gauge := rfl
@[simp] theorem State.withPending_guards : (s.withPending q).guards = s.guards := rfl
@[simp] theorem State.withPending_lights : (s.withPending q).lights = s.lights := rfl
@[simp] theorem State.withPending_meter : (s.withPending q).meter = s.meter := rfl
@[simp] theorem State.withPending_frames : (s.withPending q).frames = s.frames := rfl
@[simp] theorem State.withPending_walker : (s.withPending q).walker = s.walker := rfl
@[simp] theorem State.withPending_links : (s.withPending q).links = s.links := rfl
@[simp] theorem State.withPending_outbox : (s.withPending q).outbox = s.outbox := rfl
@[simp] theorem State.withPending_pending : (s.withPending q).pending = q := rfl
end withPending

end Sys2Proof.Machine
end

