-- ==== Sys2Proof/Laws/Ops.lean ====
section
/-! SUPPORT. Laws.Ops: what the shared operations do, said once: the end of an event, the ports of the links, the
serving of a request. The provers cite these instead of unfolding the operations. -/

namespace Sys2Proof.Machine

/-! ### The end of an event -/

@[simp] theorem Port.receive_nil (link : Link) (p : Port) : p.receive [] link = p := by
  have h : (List.range 14).flatMap (fun _ => ([] : List Notice)) = [] := List.flatMap_eq_nil_iff.mpr fun _ _ => rfl
  simp [Port.receive, inOrderOfKind, h]

@[simp] theorem State.announced_nil (s : State) : s.announced [] = s := by
  cases s; simp [State.announced, State.onLinks]

theorem State.flush_of_quiet (s : State) (h : s.outbox = []) : s.flush = s := by
  cases s; simp_all [State.flush, State.onLinks, State.onOutbox]

theorem State.flush_eq (s t : State) (notices : List Notice) (ht : t.outbox = [])
    (h : s = t.onOutbox fun _ => notices) : s.flush = t.announced notices := by
  subst h; cases t; simp_all [State.flush, State.announced, State.onLinks, State.onOutbox]

theorem State.flush_post (s : State) (n : Notice) (h : s.outbox = []) : (s.post n).flush = s.announced [n] := by
  apply State.flush_eq _ _ _ h
  cases s; simp_all [State.post, State.onOutbox]

theorem State.finish_eq_flush (before after : State)
    (h : before.frames.completed = [] → after.frames.completed = []) : before.finish after = after.flush := by
  have : ¬ (before.frames.completed = [] ∧ after.frames.completed ≠ []) := fun g => g.2 (h g.1)
  simp [State.finish, this]

theorem State.finish_of_quiet (before after : State) (hq : after.outbox = [])
    (h : before.frames.completed = [] → after.frames.completed = []) : before.finish after = after := by
  rw [State.finish_eq_flush _ _ h, State.flush_of_quiet _ hq]

@[simp] theorem State.flush_outbox (s : State) : s.flush.outbox = [] := rfl

@[simp] theorem State.finish_outbox (s t : State) : (s.finish t).outbox = [] := rfl

section flushFields
variable (s : State)
@[simp] theorem State.flush_station : s.flush.station = s.station := rfl
@[simp] theorem State.flush_settings : s.flush.settings = s.settings := rfl
@[simp] theorem State.flush_custody : s.flush.custody = s.custody := rfl
@[simp] theorem State.flush_cradle : s.flush.cradle = s.cradle := rfl
@[simp] theorem State.flush_gauge : s.flush.gauge = s.gauge := rfl
@[simp] theorem State.flush_guards : s.flush.guards = s.guards := rfl
@[simp] theorem State.flush_lights : s.flush.lights = s.lights := rfl
@[simp] theorem State.flush_meter : s.flush.meter = s.meter := rfl
@[simp] theorem State.flush_frames : s.flush.frames = s.frames := rfl
@[simp] theorem State.flush_walker : s.flush.walker = s.walker := rfl
@[simp] theorem State.flush_pending : s.flush.pending = s.pending := rfl
end flushFields

section postFields
variable (n : Notice) (s : State)
@[simp] theorem State.post_station : (s.post n).station = s.station := rfl
@[simp] theorem State.post_settings : (s.post n).settings = s.settings := rfl
@[simp] theorem State.post_custody : (s.post n).custody = s.custody := rfl
@[simp] theorem State.post_cradle : (s.post n).cradle = s.cradle := rfl
@[simp] theorem State.post_gauge : (s.post n).gauge = s.gauge := rfl
@[simp] theorem State.post_guards : (s.post n).guards = s.guards := rfl
@[simp] theorem State.post_lights : (s.post n).lights = s.lights := rfl
@[simp] theorem State.post_meter : (s.post n).meter = s.meter := rfl
@[simp] theorem State.post_frames : (s.post n).frames = s.frames := rfl
@[simp] theorem State.post_walker : (s.post n).walker = s.walker := rfl
@[simp] theorem State.post_links : (s.post n).links = s.links := rfl
@[simp] theorem State.post_pending : (s.post n).pending = s.pending := rfl
@[simp] theorem State.post_outbox : (s.post n).outbox = s.outbox ++ [n] := rfl
end postFields

section finishFields
variable (s t : State)
@[simp] theorem State.finish_station : (s.finish t).station = t.station := by simp only [State.finish]; split <;> rfl
@[simp] theorem State.finish_settings : (s.finish t).settings = t.settings := by simp only [State.finish]; split <;> rfl
@[simp] theorem State.finish_custody : (s.finish t).custody = t.custody := by simp only [State.finish]; split <;> rfl
@[simp] theorem State.finish_cradle : (s.finish t).cradle = t.cradle := by simp only [State.finish]; split <;> rfl
@[simp] theorem State.finish_gauge : (s.finish t).gauge = t.gauge := by simp only [State.finish]; split <;> rfl
@[simp] theorem State.finish_guards : (s.finish t).guards = t.guards := by simp only [State.finish]; split <;> rfl
@[simp] theorem State.finish_lights : (s.finish t).lights = t.lights := by simp only [State.finish]; split <;> rfl
@[simp] theorem State.finish_meter : (s.finish t).meter = t.meter := by simp only [State.finish]; split <;> rfl
@[simp] theorem State.finish_frames : (s.finish t).frames = t.frames := by simp only [State.finish]; split <;> rfl
@[simp] theorem State.finish_walker : (s.finish t).walker = t.walker := by simp only [State.finish]; split <;> rfl
@[simp] theorem State.finish_pending : (s.finish t).pending = t.pending := by simp only [State.finish]; split <;> rfl
end finishFields

/-! ### The ports of the links -/

theorem State.port_onPort (s : State) (a b : Link) (f : Port → Port) :
    (s.onPort a f).port b = if a = b then f (s.port b) else s.port b := by
  cases a <;> cases b <;> rfl

@[simp] theorem State.port_onPort_self (s : State) (a : Link) (f : Port → Port) :
    (s.onPort a f).port a = f (s.port a) := by
  simp [State.port_onPort]

theorem State.onPort_onPort (s : State) (a : Link) (f g : Port → Port) :
    (s.onPort a f).onPort a g = s.onPort a (g ∘ f) := by
  cases a <;> rfl

section onPortFields
variable (a : Link) (f : Port → Port) (s : State)
@[simp] theorem State.onPort_station : (s.onPort a f).station = s.station := rfl
@[simp] theorem State.onPort_settings : (s.onPort a f).settings = s.settings := rfl
@[simp] theorem State.onPort_custody : (s.onPort a f).custody = s.custody := rfl
@[simp] theorem State.onPort_cradle : (s.onPort a f).cradle = s.cradle := rfl
@[simp] theorem State.onPort_gauge : (s.onPort a f).gauge = s.gauge := rfl
@[simp] theorem State.onPort_guards : (s.onPort a f).guards = s.guards := rfl
@[simp] theorem State.onPort_lights : (s.onPort a f).lights = s.lights := rfl
@[simp] theorem State.onPort_meter : (s.onPort a f).meter = s.meter := rfl
@[simp] theorem State.onPort_frames : (s.onPort a f).frames = s.frames := rfl
@[simp] theorem State.onPort_walker : (s.onPort a f).walker = s.walker := rfl
@[simp] theorem State.onPort_outbox : (s.onPort a f).outbox = s.outbox := rfl
@[simp] theorem State.onPort_pending : (s.onPort a f).pending = s.pending := rfl
end onPortFields

/-! ### Requests -/

/-- A request on an idle port that permits it: its frame is received, the owning block takes it, and the reply is
being sent. -/
theorem State.serve_of_accepts (c : Instr) (o : Origin) (take : State → Served) (s : State)
    (h : s.accepts c o) : s.serve c o take = (s.heard o).answer c o take := by
  obtain ⟨_, ⟨h1, h2, h3⟩, h4, h5⟩ := h
  simp [State.serve, State.holdsRequest, h1, h2, h3, h4, h5, State.arrive, State.vet, State.heard,
    State.receiving]

/-- The outcome of a request that its port accepts. -/
theorem request_of_accepts (c : Instr) (o : Origin) (take : State → Served) (s : State) (h : s.accepts c o) :
    request c o take s = .next (s.finish ((s.heard o).answer c o take)) := by
  simp [request, event, State.serve_of_accepts c o take s h]

/-- The outcome of a request that its port holds untaken. -/
theorem request_of_held (c : Instr) (o : Origin) (take : State → Served) (s : State)
    (h : s.holdsRequest c o = true) : request c o take s = .next (s.finish (s.answer c o take)) := by
  simp [request, event, State.serve, h]

/-- A request whose owning block changes nothing but the answer. -/
theorem request_only_answers (c : Instr) (o : Origin) (take : State → Served) (s : State) (result : Result)
    (body : List Byte) (h : s.accepts c o) (ht : take (s.heard o) = ⟨s.heard o, result, body⟩) :
    request c o take s = .next ((s.heard o).answered o (codeByte c) result body) := by
  rw [request_of_accepts c o take s h]
  simp only [State.answer, ht]
  rw [State.finish_of_quiet]
  · rfl
  · exact h.1
  · exact fun g => g

/-- A request whose owning block changes the state and posts nothing, COMPLETED left empty if it was. -/
theorem request_quiet (c : Instr) (o : Origin) (take : State → Served) (s t : State) (result : Result)
    (body : List Byte) (h : s.accepts c o) (ht : take (s.heard o) = ⟨t, result, body⟩) (hq : t.outbox = [])
    (hc : s.frames.completed = [] → t.frames.completed = []) :
    request c o take s = .next (t.answered o (codeByte c) result body) := by
  rw [request_of_accepts c o take s h]
  simp only [State.answer, ht]
  rw [State.finish_of_quiet]
  · rfl
  · exact hq
  · exact hc

/-- A request whose owning block posts one notice. -/
theorem request_posts (c : Instr) (o : Origin) (take : State → Served) (s t : State) (n : Notice) (result : Result)
    (body : List Byte) (h : s.accepts c o) (ht : take (s.heard o) = ⟨t.post n, result, body⟩) (hq : t.outbox = [])
    (hc : s.frames.completed = [] → t.frames.completed = []) :
    request c o take s = .next ((t.answered o (codeByte c) result body).announced [n]) := by
  rw [request_of_accepts c o take s h]
  simp only [State.answer, ht]
  rw [State.finish_eq_flush _ _ (by exact hc)]
  have : (t.post n).reply o.link o.tag (codeByte c) result body =
      (t.answered o (codeByte c) result body).post n := rfl
  rw [this, State.flush_post _ _ (by exact hq)]

/-- An event that posts nothing. -/
theorem event_quiet (f : State → State) (s : State) (hq : (f s).outbox = [])
    (hc : s.frames.completed = [] → (f s).frames.completed = []) : event f s = .next (f s) := by
  simp only [event]
  rw [State.finish_of_quiet _ _ hq hc]

/-- An event that posts one notice. -/
theorem event_posts (f : State → State) (s t : State) (n : Notice) (ht : f s = t.post n) (hq : t.outbox = [])
    (hc : s.frames.completed = [] → t.frames.completed = []) : event f s = .next (t.announced [n]) := by
  simp only [event, ht]
  rw [State.finish_eq_flush _ _ (by exact hc), State.flush_post _ _ hq]

/-! ### What every request and every event keeps -/

/-- A property that the links, the outbox and the queue do not touch. -/
structure Undisturbed (P : State → Prop) : Prop where
  links : ∀ f s, P s → P (s.onLinks f)
  outbox : ∀ f s, P s → P (s.onOutbox f)
  pending : ∀ q s, P s → P (s.withPending q)

theorem Undisturbed.finish {P : State → Prop} (u : Undisturbed P) (s t : State) (h : P t) : P (s.finish t) := by
  unfold State.finish State.flush State.post
  split
  · exact u.outbox _ _ (u.links _ _ (u.outbox _ _ h))
  · exact u.outbox _ _ (u.links _ _ h)

theorem Undisturbed.onPort {P : State → Prop} (u : Undisturbed P) (link : Link) (f : Port → Port) (s : State) (h : P s) :
    P (s.onPort link f) := u.links _ _ h

theorem Undisturbed.serve {P : State → Prop} (u : Undisturbed P) (c : Instr) (o : Origin) (take : State → Served)
    (ht : ∀ s, P s → P (take s).state) (s : State) (h : P s) : P (s.serve c o take) := by
  have ha : ∀ s, P s → P (s.answer c o take) := by
    intro s h
    unfold State.answer State.reply
    exact u.onPort _ _ _ (ht s h)
  unfold State.serve
  split
  · exact ha s h
  split
  · exact h
  · have hr : P (s.receiving o.link .outside) := u.onPort _ _ _ h
    unfold State.arrive
    split
    · exact u.onPort _ _ _ hr
    split
    · exact hr
    · unfold State.vet
      split
      · exact u.onPort _ _ _ hr
      split
      · exact u.onPort _ _ _ hr
      · exact ha _ hr

/-- A request keeps what the taking of its owning block keeps. -/
theorem Undisturbed.request {P : State → Prop} (u : Undisturbed P) {c : Instr} {o : Origin} {take : State → Served}
    {s t : State} (ht : ∀ s, P s → P (take s).state) (h : P s) (hr : Machine.request c o take s = .next t) : P t := by
  simp only [Machine.request, event] at hr
  cases hr
  exact u.finish _ _ (u.serve _ _ _ ht _ h)

/-- An event keeps what its function keeps. -/
theorem Undisturbed.event {P : State → Prop} (u : Undisturbed P) {f : State → State} {s t : State}
    (hf : P s → P (f s)) (h : P s) (hr : Machine.event f s = .next t) : P t := by
  simp only [Machine.event] at hr
  cases hr
  exact u.finish _ _ (hf h)

section heardFields
variable (o : Origin) (s : State)
@[simp] theorem State.heard_station : (s.heard o).station = s.station := rfl
@[simp] theorem State.heard_settings : (s.heard o).settings = s.settings := rfl
@[simp] theorem State.heard_custody : (s.heard o).custody = s.custody := rfl
@[simp] theorem State.heard_cradle : (s.heard o).cradle = s.cradle := rfl
@[simp] theorem State.heard_gauge : (s.heard o).gauge = s.gauge := rfl
@[simp] theorem State.heard_guards : (s.heard o).guards = s.guards := rfl
@[simp] theorem State.heard_lights : (s.heard o).lights = s.lights := rfl
@[simp] theorem State.heard_meter : (s.heard o).meter = s.meter := rfl
@[simp] theorem State.heard_frames : (s.heard o).frames = s.frames := rfl
@[simp] theorem State.heard_walker : (s.heard o).walker = s.walker := rfl
@[simp] theorem State.heard_outbox : (s.heard o).outbox = s.outbox := rfl
@[simp] theorem State.heard_pending : (s.heard o).pending = s.pending := rfl
@[simp] theorem State.heard_entry (slot : Nat) : (s.heard o).entry slot = s.entry slot := rfl
@[simp] theorem State.heard_mountedSlot : (s.heard o).mountedSlot = s.mountedSlot := rfl
@[simp] theorem State.heard_word (i : Nat) : (s.heard o).word i = s.word i := rfl
@[simp] theorem State.heard_frame (i : Nat) : (s.heard o).frame i = s.frame i := rfl
@[simp] theorem State.heard_leaf (slot leaf : Nat) : (s.heard o).leaf slot leaf = s.leaf slot leaf := rfl
@[simp] theorem State.heard_visible : (s.heard o).visible = s.visible := rfl
end heardFields

/-! ### Custody entries -/

theorem Vec.at_edit {α : Type} {n : Nat} (v : Vector α n) (i j : Nat) (f : α → α) (d : α) (hj : j < n) :
    Vec.at (Vec.edit v i f) j d = if i = j then f (Vec.at v j d) else Vec.at v j d := by
  by_cases hi : i < n
  · simp only [Vec.at, Vec.edit, hi, dif_pos]
    by_cases hij : i = j
    · subst hij; simp [hi]
    · simp [hij]
  · have : i ≠ j := by omega
    simp [Vec.at, Vec.edit, hi, this]

theorem Vec.at_put {α : Type} {n : Nat} (v : Vector α n) (i j : Nat) (x d : α) (hj : j < n) :
    Vec.at (Vec.put v i x) j d = if i = j then x else Vec.at v j d := by
  by_cases hij : i = j
  · subst hij; simp [Vec.at, Vec.put, hj]
  · simp [Vec.at, Vec.put, hij]

/-- An entry after `onEntry`: rewritten at its slot, as it was elsewhere. -/
theorem State.entry_onEntry (s : State) (i j : Nat) (f : CustodyEntry → CustodyEntry) (hj : j < 8) :
    (s.onEntry i f).entry j = if i = j then f (s.entry j) else s.entry j :=
  Vec.at_edit _ _ _ _ _ hj

section onEntryFields
variable (i : Nat) (f : CustodyEntry → CustodyEntry) (s : State)
@[simp] theorem State.onEntry_station : (s.onEntry i f).station = s.station := rfl
@[simp] theorem State.onEntry_settings : (s.onEntry i f).settings = s.settings := rfl
@[simp] theorem State.onEntry_leaves : (s.onEntry i f).custody.leaves = s.custody.leaves := rfl
@[simp] theorem State.onEntry_nextSequence : (s.onEntry i f).custody.nextSequence = s.custody.nextSequence := rfl
@[simp] theorem State.onEntry_cradle : (s.onEntry i f).cradle = s.cradle := rfl
@[simp] theorem State.onEntry_gauge : (s.onEntry i f).gauge = s.gauge := rfl
@[simp] theorem State.onEntry_guards : (s.onEntry i f).guards = s.guards := rfl
@[simp] theorem State.onEntry_lights : (s.onEntry i f).lights = s.lights := rfl
@[simp] theorem State.onEntry_meter : (s.onEntry i f).meter = s.meter := rfl
@[simp] theorem State.onEntry_frames : (s.onEntry i f).frames = s.frames := rfl
@[simp] theorem State.onEntry_walker : (s.onEntry i f).walker = s.walker := rfl
@[simp] theorem State.onEntry_links : (s.onEntry i f).links = s.links := rfl
@[simp] theorem State.onEntry_outbox : (s.onEntry i f).outbox = s.outbox := rfl
@[simp] theorem State.onEntry_pending : (s.onEntry i f).pending = s.pending := rfl
end onEntryFields

end Sys2Proof.Machine
end

