-- ==== Sys2Proof/Laws/Motion.lean ====
section
/-! SUPPORT. Laws.Motion: what the bookings of the Custody Unit leave of the custody table and the leaf store, and the
frame of every operation of Motion: the blocks it never touches; a trip, whole. -/

namespace Sys2Proof.Machine

/-! ### What a booking leaves -/

/-- An entry without what the bookings of the other blocks move: hold, reference, turns, frames open, dose total. -/
def CustodyEntry.unbooked (e : CustodyEntry) : CustodyEntry :=
  { e with hold := none, reference := 0, turns := 0, framesOpen := 0, doseTotal := 0 }

/-- A leaf record without what the bookings of the other blocks move: its mark and the coverage of its faces. -/
def LeafRecord.unbooked (r : LeafRecord) : LeafMark × BandSet × BandSet := (r.mark, r.verso.coverage, r.recto.coverage)

/-- The part of the custody unit that no booking moves: who is in custody, with which extents, marks and coverage. -/
def Custody.skeleton (c : Custody) : List CustodyEntry × List (Nat × LeafMark × BandSet × BandSet) × Nat :=
  (c.entries.toList.map CustodyEntry.unbooked, c.leaves.map (fun p => (p.1, p.2.unbooked)), c.nextSequence)

theorem Vec.toList_edit {α β : Type} {n : Nat} (v : Vector α n) (i : Nat) (f : α → α) (g : α → β)
    (h : ∀ a, g (f a) = g a) : (Vec.edit v i f).toList.map g = v.toList.map g := by
  unfold Vec.edit
  split
  · next hi =>
    apply List.ext_getElem (by simp)
    intro k h1 h2
    simp only [List.getElem_map, Vector.getElem_toList, Vector.getElem_set]
    split
    · next hk => subst hk; exact h _
    · rfl
  · rfl

theorem Custody.skeleton_edit (c : Custody) (i : Nat) (f : CustodyEntry → CustodyEntry)
    (h : ∀ e, (f e).unbooked = e.unbooked) :
    Custody.skeleton { c with entries := Vec.edit c.entries i f } = c.skeleton := by
  simp only [Custody.skeleton, Vec.toList_edit _ _ _ _ h]

theorem Custody.skeleton_leaf (c : Custody) (i : Nat) (f : LeafRecord → LeafRecord)
    (h : ∀ r, (f r).unbooked = r.unbooked) :
    Custody.skeleton { c with leaves := LeafStore.edit i f c.leaves } = c.skeleton := by
  have : (LeafStore.edit i f c.leaves).map (fun p => (p.1, p.2.unbooked)) = c.leaves.map fun p => (p.1, p.2.unbooked) := by
    simp only [LeafStore.edit, List.map_map]
    apply List.map_congr_left
    intro p _
    simp only [Function.comp]
    split
    · simp [h]
    · rfl
  simp only [Custody.skeleton, this]

/-- The state after an entry update that books. -/
theorem State.skeleton_onEntry (s : State) (i : Nat) (f : CustodyEntry → CustodyEntry)
    (h : ∀ e, (f e).unbooked = e.unbooked) : (s.onEntry i f).custody.skeleton = s.custody.skeleton :=
  Custody.skeleton_edit _ _ _ h

/-- The state after a leaf update that books. -/
theorem State.skeleton_onLeaf (s : State) (i leaf : Nat) (f : LeafRecord → LeafRecord)
    (h : ∀ r, (f r).unbooked = r.unbooked) : (s.onLeaf i leaf f).custody.skeleton = s.custody.skeleton :=
  Custody.skeleton_leaf _ _ _ h

/-! ### The blocks that the work of the cradle never touches -/

/-- Every block but the Cradle Unit, the Leaf Gauge and the bookings of the Custody Unit. -/
abbrev State.motionFrame (s t : State) : Prop :=
  t.station = s.station ∧ t.settings = s.settings ∧ t.guards = s.guards ∧ t.lights = s.lights ∧ t.meter = s.meter ∧
    t.frames = s.frames ∧ t.walker = s.walker ∧ t.links = s.links ∧ t.pending = s.pending ∧
    t.custody.skeleton = s.custody.skeleton

theorem State.motionFrame.trans {s t u : State} (h : s.motionFrame t) (g : t.motionFrame u) : s.motionFrame u := by
  simp_all [State.motionFrame]

@[simp] theorem State.onCradle_keeps (f : Cradle → Cradle) (s : State) : s.motionFrame (s.onCradle f) := by
  simp [State.motionFrame]
@[simp] theorem State.onGauge_keeps (f : Gauge → Gauge) (s : State) : s.motionFrame (s.onGauge f) := by
  simp [State.motionFrame]
@[simp] theorem State.post_keeps (n : Notice) (s : State) : s.motionFrame (s.post n) := by
  simp [State.motionFrame]
@[simp] theorem State.onTurn_keeps (f : TurnRecord → TurnRecord) (s : State) : s.motionFrame (s.onTurn f) := by
  simp [State.motionFrame, State.onTurn]
@[simp] theorem State.onTimers_keeps (f : CradleTimers → CradleTimers) (s : State) : s.motionFrame (s.onTimers f) := by
  simp [State.motionFrame, State.onTimers]
@[simp] theorem State.onOutputs_keeps (f : Outputs → Outputs) (s : State) : s.motionFrame (s.onOutputs f) := by
  simp [State.motionFrame, State.onOutputs]
@[simp] theorem State.onSensors_keeps (f : Sensors → Sensors) (s : State) : s.motionFrame (s.onSensors f) := by
  simp [State.motionFrame, State.onSensors]
@[simp] theorem State.toCradle_keeps (c : CradleState) (s : State) : s.motionFrame (s.toCradle c) := by
  simp [State.motionFrame, State.toCradle]
@[simp] theorem State.toPhase_keeps (p : Phase) (k : Nat) (s : State) : s.motionFrame (s.toPhase p k) := by
  simp [State.motionFrame, State.toPhase]
@[simp] theorem State.startGate_keeps (p : GatePurpose) (s : State) : s.motionFrame (s.startGate p) := by
  simp [State.motionFrame, State.startGate]
@[simp] theorem State.abandonGate_keeps (s : State) : s.motionFrame (s.abandonGate) := by
  simp [State.motionFrame, State.abandonGate]

theorem State.onEntry_keeps (s : State) (i : Nat) (f : CustodyEntry → CustodyEntry)
    (h : ∀ e, (f e).unbooked = e.unbooked) : s.motionFrame (s.onEntry i f) := by
  simp only [State.motionFrame, State.skeleton_onEntry _ _ _ h]; simp

theorem State.onLeaf_keeps (s : State) (i leaf : Nat) (f : LeafRecord → LeafRecord)
    (h : ∀ r, (f r).unbooked = r.unbooked) : s.motionFrame (s.onLeaf i leaf f) := by
  simp only [State.motionFrame, State.skeleton_onLeaf _ _ _ _ h]; simp [State.onLeaf, State.onLeaves]

@[simp] theorem State.claimHold_keeps (cause : HoldCause) (s : State) : s.motionFrame (s.claimHold cause) := by
  unfold State.claimHold
  split
  · simp [State.motionFrame]
  · exact State.onEntry_keeps _ _ _ fun _ => rfl

@[simp] theorem State.bookTurn_keeps (leaf : Nat) (s : State) : s.motionFrame (s.bookTurn leaf) := by
  unfold State.bookTurn
  split
  · simp [State.motionFrame]
  · refine (State.onEntry_keeps _ _ _ ?_).trans (State.onLeaf_keeps _ _ _ _ ?_)
    · simp [CustodyEntry.unbooked]
    · simp [LeafRecord.unbooked]

@[simp] theorem State.turnFault_keeps (cause : FaultCause) (phase : Phase) (s : State) :
    s.motionFrame (s.turnFault cause phase) := by
  unfold State.turnFault
  extract_lets s1 s2 s3 s4 s5
  have h1 : s.motionFrame s1 := by simp only [s1]; split <;> simp [State.motionFrame]
  have h2 : s1.motionFrame s2 := by simp [State.motionFrame, s2]
  have h4 : s2.motionFrame s4 := by simp [State.motionFrame, s4, s3]
  have h5 : s4.motionFrame s5 := by simp [State.motionFrame, s5]
  exact (((h1.trans h2).trans h4).trans h5).trans (by simp [State.motionFrame])

@[simp] theorem State.vacuumLostInFault_keeps (s : State) : s.motionFrame (s.vacuumLostInFault) := by
  simp only [State.vacuumLostInFault]; (repeat' split) <;> simp [State.motionFrame]
@[simp] theorem State.endTurn_keeps (result : TurnResult) (leaf : Option Nat) (s : State) : s.motionFrame (s.endTurn result leaf) := by
  simp only [State.endTurn]; (repeat' split) <;> simp [State.motionFrame]
@[simp] theorem State.baselineGate_keeps (s : State) : s.motionFrame (s.baselineGate) := by
  simp only [State.baselineGate]; (repeat' split) <;> simp [State.motionFrame]
@[simp] theorem State.baselineTest_keeps (s : State) : s.motionFrame (s.baselineTest) := by
  simp only [State.baselineTest]; (repeat' split) <;> simp [State.motionFrame]
@[simp] theorem State.enterBaseline_keeps (s : State) : s.motionFrame (s.enterBaseline) := by
  simp only [State.enterBaseline]; (repeat' split) <;> simp [State.motionFrame]
@[simp] theorem State.startLeaf_keeps (s : State) : s.motionFrame (s.startLeaf) := by
  simp only [State.startLeaf]; (repeat' split) <;> simp [State.motionFrame]
@[simp] theorem State.enterLift_keeps (s : State) : s.motionFrame (s.enterLift) := by
  simp only [State.enterLift]; (repeat' split) <;> simp [State.motionFrame]
@[simp] theorem State.liftOpen_keeps (s : State) : s.motionFrame (s.liftOpen) := by
  simp only [State.liftOpen]; (repeat' split) <;> simp [State.motionFrame]
@[simp] theorem State.liftRaise_keeps (s : State) : s.motionFrame (s.liftRaise) := by
  simp only [State.liftRaise]; (repeat' split) <;> simp [State.motionFrame]
@[simp] theorem State.liftGate_keeps (s : State) : s.motionFrame (s.liftGate) := by
  simp only [State.liftGate]; (repeat' split) <;> simp [State.motionFrame]
@[simp] theorem State.enterPickConfirm_keeps (s : State) : s.motionFrame (s.enterPickConfirm) := by
  simp only [State.enterPickConfirm]; (repeat' split) <;> simp [State.motionFrame]
@[simp] theorem State.resolveDrop_keeps (s : State) : s.motionFrame (s.resolveDrop) := by
  simp only [State.resolveDrop]; (repeat' split) <;> simp [State.motionFrame]
@[simp] theorem State.dropTest_keeps (s : State) : s.motionFrame (s.dropTest) := by
  simp only [State.dropTest]; (repeat' split) <;> simp [State.motionFrame]
@[simp] theorem State.enterDrop_keeps (kind : DropKind) (s : State) : s.motionFrame (s.enterDrop kind) := by
  simp only [State.enterDrop]; (repeat' split) <;> simp [State.motionFrame]
@[simp] theorem State.settleEnd_keeps (s : State) : s.motionFrame (s.settleEnd) := by
  simp only [State.settleEnd]; (repeat' split) <;> simp [State.motionFrame]
@[simp] theorem State.enterSettle_keeps (s : State) : s.motionFrame (s.enterSettle) := by
  simp only [State.enterSettle]; (repeat' split) <;> simp [State.motionFrame]
@[simp] theorem State.returnTest_keeps (s : State) : s.motionFrame (s.returnTest) := by
  simp only [State.returnTest]; (repeat' split) <;> simp [State.motionFrame]
@[simp] theorem State.enterReturn_keeps (s : State) : s.motionFrame (s.enterReturn) := by
  simp only [State.enterReturn]; (repeat' split) <;> simp [State.motionFrame]
@[simp] theorem State.layRelease_keeps (s : State) : s.motionFrame (s.layRelease) := by
  simp only [State.layRelease]; (repeat' split) <;> simp [State.motionFrame]
@[simp] theorem State.enterLay_keeps (s : State) : s.motionFrame (s.enterLay) := by
  simp only [State.enterLay]; (repeat' split) <;> simp [State.motionFrame]
@[simp] theorem State.enterCarry_keeps (s : State) : s.motionFrame (s.enterCarry) := by
  simp only [State.enterCarry]; (repeat' split) <;> simp [State.motionFrame]
@[simp] theorem State.afterLift_keeps (slot : Nat) (pick : PickClass) (s : State) : s.motionFrame (s.afterLift slot pick) := by
  simp only [State.afterLift]; (repeat' split) <;> simp [State.motionFrame]
@[simp] theorem State.liftGateEnd_keeps (slot : Nat) (s : State) : s.motionFrame (s.liftGateEnd slot) := by
  unfold State.liftGateEnd
  extract_lets reference s1 pick s2
  have h1 : s.motionFrame s1 := by simp [State.motionFrame, s1]
  have h2 : s1.motionFrame s2 := by
    simp only [s2]
    split
    · exact State.onEntry_keeps _ _ _ fun _ => rfl
    · simp [State.motionFrame]
  exact (h1.trans h2).trans (by simp [State.motionFrame])

@[simp] theorem State.gateEnd_keeps (s : State) : s.motionFrame (s.gateEnd) := by
  simp only [State.gateEnd]; (repeat' split) <;> simp [State.motionFrame]
@[simp] theorem State.settlingTest_keeps (s : State) : s.motionFrame (s.settlingTest) := by
  simp only [State.settlingTest]; (repeat' split) <;> simp [State.motionFrame]
@[simp] theorem State.driveSettling_keeps (s : State) : s.motionFrame (s.driveSettling) := by
  simp only [State.driveSettling]; (repeat' split) <;> simp [State.motionFrame]
@[simp] theorem State.beginSettling_keeps (s : State) : s.motionFrame (s.beginSettling) := by
  simp only [State.beginSettling]; (repeat' split) <;> simp [State.motionFrame]
@[simp] theorem State.postParking_keeps (n : Notice) (s : State) : s.motionFrame (s.postParking n) := by
  simp only [State.postParking]; split <;> simp [State.motionFrame]
@[simp] theorem State.postParking_custody (n : Notice) (s : State) : (s.postParking n).custody = s.custody := by
  simp only [State.postParking]; split <;> simp
@[simp] theorem State.postParking_cradle (n : Notice) (s : State) : (s.postParking n).cradle = s.cradle := by
  simp only [State.postParking]; split <;> simp
@[simp] theorem State.parkingTest_keeps (s : State) : s.motionFrame (s.parkingTest) := by
  simp only [State.parkingTest]; (repeat' split) <;> simp [State.motionFrame]
@[simp] theorem State.driveParking_keeps (s : State) : s.motionFrame (s.driveParking) := by
  simp only [State.driveParking]; (repeat' split) <;> simp [State.motionFrame]
@[simp] theorem State.beginParking_keeps (c : Nat) (parked : Option VolumeName) (s : State) : s.motionFrame (s.beginParking c parked) := by
  simp only [State.beginParking]; (repeat' split) <;> simp [State.motionFrame]
@[simp] theorem State.angleTimeout_keeps (s : State) : s.motionFrame (s.angleTimeout) := by
  simp only [State.angleTimeout]; (repeat' split) <;> simp [State.motionFrame]
@[simp] theorem State.cradleTrip_keeps (cause : StopCause) (s : State) : s.motionFrame (s.cradleTrip cause) := by
  simp only [State.cradleTrip]; (repeat' split) <;> simp [State.motionFrame]
@[simp] theorem State.liftOutputs_keeps (wand : WandDrive) (s : State) : s.motionFrame (s.liftOutputs wand) := by
  simp only [State.liftOutputs]; (repeat' split) <;> simp [State.motionFrame]
@[simp] theorem State.startLiftTimer_keeps (s : State) : s.motionFrame (s.startLiftTimer) := by
  simp only [State.startLiftTimer]; (repeat' split) <;> simp [State.motionFrame]
@[simp] theorem State.resumeStep_keeps (t : TurnRecord) (s : State) : s.motionFrame (s.resumeStep t) := by
  simp only [State.resumeStep]; (repeat' split) <;> simp [State.motionFrame]
@[simp] theorem State.recoveryTest_keeps (s : State) : s.motionFrame (s.recoveryTest) := by
  simp only [State.recoveryTest]; (repeat' split) <;> simp [State.motionFrame]
@[simp] theorem State.beginRecovery_keeps (target : Nat) (s : State) : s.motionFrame (s.beginRecovery target) := by
  simp only [State.beginRecovery]; (repeat' split) <;> simp [State.motionFrame]
@[simp] theorem State.recoveryTimeout_keeps (s : State) : s.motionFrame (s.recoveryTimeout) := by
  simp only [State.recoveryTimeout]; (repeat' split) <;> simp [State.motionFrame]
@[simp] theorem State.wandDownTaken_keeps (level : Bool) (s : State) : s.motionFrame (s.wandDownTaken level) := by
  simp only [State.wandDownTaken]; (repeat' split) <;> simp [State.motionFrame]
@[simp] theorem State.vacuumHeldTaken_keeps (level : Bool) (s : State) : s.motionFrame (s.vacuumHeldTaken level) := by
  simp only [State.vacuumHeldTaken]; (repeat' split) <;> simp [State.motionFrame]
@[simp] theorem State.armFarTaken_keeps (level : Bool) (s : State) : s.motionFrame (s.armFarTaken level) := by
  simp only [State.armFarTaken]; (repeat' split) <;> simp [State.motionFrame]
@[simp] theorem State.armRestTaken_keeps (s : State) : s.motionFrame (s.armRestTaken) := by
  simp only [State.armRestTaken]; (repeat' split) <;> simp [State.motionFrame]
@[simp] theorem State.angleTaken_keeps (s : State) : s.motionFrame (s.angleTaken) := by
  simp only [State.angleTaken]; (repeat' split) <;> simp [State.motionFrame]

@[simp] theorem State.resumeWork_keeps (s : State) : s.motionFrame s.resumeWork.2 := by
  simp only [State.resumeWork]; split <;> simp [State.motionFrame]

/-! ### The operations that book nothing -/

@[simp] theorem State.onTurn_custody (f : TurnRecord → TurnRecord) (s : State) : (s.onTurn f).custody = s.custody := by simp [State.onTurn]
@[simp] theorem State.onTimers_custody (f : CradleTimers → CradleTimers) (s : State) : (s.onTimers f).custody = s.custody := by simp [State.onTimers]
@[simp] theorem State.onOutputs_custody (f : Outputs → Outputs) (s : State) : (s.onOutputs f).custody = s.custody := by simp [State.onOutputs]
@[simp] theorem State.onSensors_custody (f : Sensors → Sensors) (s : State) : (s.onSensors f).custody = s.custody := by simp [State.onSensors]
@[simp] theorem State.toCradle_custody (c : CradleState) (s : State) : (s.toCradle c).custody = s.custody := by simp [State.toCradle]
@[simp] theorem State.toPhase_custody (p : Phase) (k : Nat) (s : State) : (s.toPhase p k).custody = s.custody := by simp [State.toPhase]
@[simp] theorem State.startGate_custody (p : GatePurpose) (s : State) : (s.startGate p).custody = s.custody := by simp [State.startGate]
@[simp] theorem State.abandonGate_custody (s : State) : s.abandonGate.custody = s.custody := by simp [State.abandonGate]
@[simp] theorem State.baselineGate_custody (s : State) : s.baselineGate.custody = s.custody := by
  simp only [State.baselineGate]; (repeat' split) <;> simp
@[simp] theorem State.baselineTest_custody (s : State) : s.baselineTest.custody = s.custody := by
  simp only [State.baselineTest]; (repeat' split) <;> simp
@[simp] theorem State.enterBaseline_custody (s : State) : s.enterBaseline.custody = s.custody := by
  simp only [State.enterBaseline]; (repeat' split) <;> simp
@[simp] theorem State.startLeaf_custody (s : State) : s.startLeaf.custody = s.custody := by
  simp only [State.startLeaf]
  (repeat' split) <;> first | rfl | simp
@[simp] theorem State.enterLift_custody (s : State) : s.enterLift.custody = s.custody := by
  simp only [State.enterLift]; (repeat' split) <;> simp
@[simp] theorem State.liftOpen_custody (s : State) : s.liftOpen.custody = s.custody := by
  simp only [State.liftOpen]; (repeat' split) <;> simp
@[simp] theorem State.liftRaise_custody (s : State) : s.liftRaise.custody = s.custody := by
  simp only [State.liftRaise]; (repeat' split) <;> simp
@[simp] theorem State.liftGate_custody (s : State) : s.liftGate.custody = s.custody := by
  simp only [State.liftGate]; (repeat' split) <;> simp
@[simp] theorem State.enterPickConfirm_custody (s : State) : s.enterPickConfirm.custody = s.custody := by
  simp only [State.enterPickConfirm]; (repeat' split) <;> simp
@[simp] theorem State.endTurn_custody (result : TurnResult) (leaf : Option Nat) (s : State) : (s.endTurn result leaf).custody = s.custody := by
  simp only [State.endTurn]; (repeat' split) <;> simp
@[simp] theorem State.enterReturn_custody (s : State) : s.enterReturn.custody = s.custody := by
  simp only [State.enterReturn]; (repeat' split) <;> simp
@[simp] theorem State.layRelease_custody (s : State) : s.layRelease.custody = s.custody := by
  simp only [State.layRelease]; (repeat' split) <;> simp
@[simp] theorem State.enterLay_custody (s : State) : s.enterLay.custody = s.custody := by
  simp only [State.enterLay]; (repeat' split) <;> simp
@[simp] theorem State.enterCarry_custody (s : State) : s.enterCarry.custody = s.custody := by
  simp only [State.enterCarry]; (repeat' split) <;> simp
@[simp] theorem State.settlingTest_custody (s : State) : s.settlingTest.custody = s.custody := by
  simp only [State.settlingTest]; (repeat' split) <;> simp
@[simp] theorem State.driveSettling_custody (s : State) : s.driveSettling.custody = s.custody := by
  simp only [State.driveSettling]; (repeat' split) <;> simp
@[simp] theorem State.beginSettling_custody (s : State) : s.beginSettling.custody = s.custody := by
  simp only [State.beginSettling]; (repeat' split) <;> simp
@[simp] theorem State.parkingTest_custody (s : State) : s.parkingTest.custody = s.custody := by
  simp only [State.parkingTest]; (repeat' split) <;> simp
@[simp] theorem State.driveParking_custody (s : State) : s.driveParking.custody = s.custody := by
  simp only [State.driveParking]; (repeat' split) <;> simp
@[simp] theorem State.beginParking_custody (c : Nat) (parked : Option VolumeName) (s : State) : (s.beginParking c parked).custody = s.custody := by
  simp only [State.beginParking]; (repeat' split) <;> simp
@[simp] theorem State.cradleTrip_custody (cause : StopCause) (s : State) : (s.cradleTrip cause).custody = s.custody := by
  simp only [State.cradleTrip]; (repeat' split) <;> simp
@[simp] theorem State.liftOutputs_custody (wand : WandDrive) (s : State) : (s.liftOutputs wand).custody = s.custody := by
  simp only [State.liftOutputs]; (repeat' split) <;> simp
@[simp] theorem State.startLiftTimer_custody (s : State) : s.startLiftTimer.custody = s.custody := by
  simp only [State.startLiftTimer]; (repeat' split) <;> simp

/-! ### Trips -/

/-- What `State.postParking` does, whole: nothing with the parked volume none, else the notice behind the others (R51). -/
theorem State.postParking_eq (n : Notice) (s : State) :
    s.postParking n = { s with outbox := s.outbox ++ if s.cradle.parked = none then [] else [n] } := by
  unfold State.postParking; split <;> simp [State.post, State.onOutbox]

/-- A trip at the Cradle Unit, whole (R68, R69): the cradle as `Cradle.trippedBy` says, a gauge gate discarded with a turn,
TURN HELD posted for the work it stops, every other block as it was. -/
theorem State.cradleTrip_eq (cause : StopCause) (s : State) :
    s.cradleTrip cause =
      { s with
        cradle := s.cradle.trippedBy cause
        gauge :=
          if s.cradle.state = .turning then
            { s.gauge with gate := none, count := 0, countSaturated := false, timer := none }
          else s.gauge
        outbox := s.outbox ++ s.heldNotices cause } := by
  unfold State.cradleTrip Cradle.trippedBy State.heldNotices
  cases h : s.cradle.state <;>
    simp [State.post, State.postParking_eq, State.onOutbox, State.onCradle, State.onOutputs, State.abandonGate,
      State.onGauge, State.doneCount, Outputs.stopped, Gauge.idle, Gauge.values, h]
  by_cases hd : s.cradle.drive = .moving <;> simp [hd]

end Sys2Proof.Machine
end

