-- ==== Sys2Proof/Laws/Views.lean ====
section
/-! SUPPORT. Laws.Views: the values the blocks compute from the state (entries, visible faces, setting words, frames) after
every update of another block: they stand. -/

namespace Sys2Proof.Machine

section onStationViews
variable (f : Station → Station) (s : State)
@[simp] theorem State.onStation_entry (k : Nat) : (s.onStation f).entry k = s.entry k := rfl
@[simp] theorem State.onStation_leaf (k l : Nat) : (s.onStation f).leaf k l = s.leaf k l := rfl
@[simp] theorem State.onStation_mountedSlot : (s.onStation f).mountedSlot = s.mountedSlot := rfl
@[simp] theorem State.onStation_mountedVolume : (s.onStation f).mountedVolume = s.mountedVolume := rfl
@[simp] theorem State.onStation_mountedLeafCount : (s.onStation f).mountedLeafCount = s.mountedLeafCount := rfl
@[simp] theorem State.onStation_angleLimit : (s.onStation f).angleLimit = s.angleLimit := rfl
@[simp] theorem State.onStation_visible : (s.onStation f).visible = s.visible := rfl
@[simp] theorem State.onStation_faceAtBudget : (s.onStation f).faceAtBudget = s.faceAtBudget := rfl
@[simp] theorem State.onStation_word (k : Nat) : (s.onStation f).word k = s.word k := rfl
@[simp] theorem State.onStation_setting (k : Nat) : (s.onStation f).setting k = s.setting k := rfl
@[simp] theorem State.onStation_airLevel (c : Nat) : (s.onStation f).airLevel c = s.airLevel c := rfl
@[simp] theorem State.onStation_carrySpeed (c : Nat) : (s.onStation f).carrySpeed c = s.carrySpeed c := rfl
@[simp] theorem State.onStation_retries (c : Nat) : (s.onStation f).retries c = s.retries c := rfl
@[simp] theorem State.onStation_liftTime (c : Nat) : (s.onStation f).liftTime c = s.liftTime c := rfl
@[simp] theorem State.onStation_carryTime (c : Nat) : (s.onStation f).carryTime c = s.carryTime c := rfl
@[simp] theorem State.onStation_layTime (c : Nat) : (s.onStation f).layTime c = s.layTime c := rfl
@[simp] theorem State.onStation_settleTime (c : Nat) : (s.onStation f).settleTime c = s.settleTime c := rfl
@[simp] theorem State.onStation_angleTime (c : Nat) : (s.onStation f).angleTime c = s.angleTime c := rfl
@[simp] theorem State.onStation_calibration (b k : Nat) : (s.onStation f).calibration b k = s.calibration b k := rfl
@[simp] theorem State.onStation_gateTime : (s.onStation f).gateTime = s.gateTime := rfl
@[simp] theorem State.onStation_cameraReadyTime : (s.onStation f).cameraReadyTime = s.cameraReadyTime := rfl
@[simp] theorem State.onStation_cameraConfirmTime : (s.onStation f).cameraConfirmTime = s.cameraConfirmTime := rfl
@[simp] theorem State.onStation_pickConfirmTime : (s.onStation f).pickConfirmTime = s.pickConfirmTime := rfl
@[simp] theorem State.onStation_previewCap : (s.onStation f).previewCap = s.previewCap := rfl
@[simp] theorem State.onStation_frame (k : Nat) : (s.onStation f).frame k = s.frame k := rfl
@[simp] theorem State.onStation_slotCameras : (s.onStation f).slotCameras = s.slotCameras := rfl
@[simp] theorem State.onStation_lightOwner : (s.onStation f).lightOwner = s.lightOwner := rfl
@[simp] theorem State.onStation_effectiveClass : (s.onStation f).effectiveClass = s.effectiveClass := rfl
@[simp] theorem State.onStation_doneCount : (s.onStation f).doneCount = s.doneCount := rfl
end onStationViews

section onSettingsViews
variable (f : Settings → Settings) (s : State)
@[simp] theorem State.onSettings_entry (k : Nat) : (s.onSettings f).entry k = s.entry k := rfl
@[simp] theorem State.onSettings_leaf (k l : Nat) : (s.onSettings f).leaf k l = s.leaf k l := rfl
@[simp] theorem State.onSettings_mountedSlot : (s.onSettings f).mountedSlot = s.mountedSlot := rfl
@[simp] theorem State.onSettings_mountedVolume : (s.onSettings f).mountedVolume = s.mountedVolume := rfl
@[simp] theorem State.onSettings_mountedLeafCount : (s.onSettings f).mountedLeafCount = s.mountedLeafCount := rfl
@[simp] theorem State.onSettings_angleLimit : (s.onSettings f).angleLimit = s.angleLimit := rfl
@[simp] theorem State.onSettings_visible : (s.onSettings f).visible = s.visible := rfl
@[simp] theorem State.onSettings_faceAtBudget : (s.onSettings f).faceAtBudget = s.faceAtBudget := rfl
@[simp] theorem State.onSettings_frame (k : Nat) : (s.onSettings f).frame k = s.frame k := rfl
@[simp] theorem State.onSettings_slotCameras : (s.onSettings f).slotCameras = s.slotCameras := rfl
@[simp] theorem State.onSettings_lightOwner : (s.onSettings f).lightOwner = s.lightOwner := rfl
@[simp] theorem State.onSettings_effectiveClass : (s.onSettings f).effectiveClass = s.effectiveClass := rfl
@[simp] theorem State.onSettings_doneCount : (s.onSettings f).doneCount = s.doneCount := rfl
end onSettingsViews

section onCustodyViews
variable (f : Custody → Custody) (s : State)
@[simp] theorem State.onCustody_word (k : Nat) : (s.onCustody f).word k = s.word k := rfl
@[simp] theorem State.onCustody_setting (k : Nat) : (s.onCustody f).setting k = s.setting k := rfl
@[simp] theorem State.onCustody_airLevel (c : Nat) : (s.onCustody f).airLevel c = s.airLevel c := rfl
@[simp] theorem State.onCustody_carrySpeed (c : Nat) : (s.onCustody f).carrySpeed c = s.carrySpeed c := rfl
@[simp] theorem State.onCustody_retries (c : Nat) : (s.onCustody f).retries c = s.retries c := rfl
@[simp] theorem State.onCustody_liftTime (c : Nat) : (s.onCustody f).liftTime c = s.liftTime c := rfl
@[simp] theorem State.onCustody_carryTime (c : Nat) : (s.onCustody f).carryTime c = s.carryTime c := rfl
@[simp] theorem State.onCustody_layTime (c : Nat) : (s.onCustody f).layTime c = s.layTime c := rfl
@[simp] theorem State.onCustody_settleTime (c : Nat) : (s.onCustody f).settleTime c = s.settleTime c := rfl
@[simp] theorem State.onCustody_angleTime (c : Nat) : (s.onCustody f).angleTime c = s.angleTime c := rfl
@[simp] theorem State.onCustody_calibration (b k : Nat) : (s.onCustody f).calibration b k = s.calibration b k := rfl
@[simp] theorem State.onCustody_gateTime : (s.onCustody f).gateTime = s.gateTime := rfl
@[simp] theorem State.onCustody_cameraReadyTime : (s.onCustody f).cameraReadyTime = s.cameraReadyTime := rfl
@[simp] theorem State.onCustody_cameraConfirmTime : (s.onCustody f).cameraConfirmTime = s.cameraConfirmTime := rfl
@[simp] theorem State.onCustody_pickConfirmTime : (s.onCustody f).pickConfirmTime = s.pickConfirmTime := rfl
@[simp] theorem State.onCustody_previewCap : (s.onCustody f).previewCap = s.previewCap := rfl
@[simp] theorem State.onCustody_frame (k : Nat) : (s.onCustody f).frame k = s.frame k := rfl
@[simp] theorem State.onCustody_slotCameras : (s.onCustody f).slotCameras = s.slotCameras := rfl
@[simp] theorem State.onCustody_lightOwner : (s.onCustody f).lightOwner = s.lightOwner := rfl
@[simp] theorem State.onCustody_effectiveClass : (s.onCustody f).effectiveClass = s.effectiveClass := rfl
@[simp] theorem State.onCustody_doneCount : (s.onCustody f).doneCount = s.doneCount := rfl
end onCustodyViews

section onEntryViews
variable (i : Nat) (f : CustodyEntry → CustodyEntry) (s : State)
@[simp] theorem State.onEntry_word (k : Nat) : (s.onEntry i f).word k = s.word k := rfl
@[simp] theorem State.onEntry_setting (k : Nat) : (s.onEntry i f).setting k = s.setting k := rfl
@[simp] theorem State.onEntry_airLevel (c : Nat) : (s.onEntry i f).airLevel c = s.airLevel c := rfl
@[simp] theorem State.onEntry_carrySpeed (c : Nat) : (s.onEntry i f).carrySpeed c = s.carrySpeed c := rfl
@[simp] theorem State.onEntry_retries (c : Nat) : (s.onEntry i f).retries c = s.retries c := rfl
@[simp] theorem State.onEntry_liftTime (c : Nat) : (s.onEntry i f).liftTime c = s.liftTime c := rfl
@[simp] theorem State.onEntry_carryTime (c : Nat) : (s.onEntry i f).carryTime c = s.carryTime c := rfl
@[simp] theorem State.onEntry_layTime (c : Nat) : (s.onEntry i f).layTime c = s.layTime c := rfl
@[simp] theorem State.onEntry_settleTime (c : Nat) : (s.onEntry i f).settleTime c = s.settleTime c := rfl
@[simp] theorem State.onEntry_angleTime (c : Nat) : (s.onEntry i f).angleTime c = s.angleTime c := rfl
@[simp] theorem State.onEntry_calibration (b k : Nat) : (s.onEntry i f).calibration b k = s.calibration b k := rfl
@[simp] theorem State.onEntry_gateTime : (s.onEntry i f).gateTime = s.gateTime := rfl
@[simp] theorem State.onEntry_cameraReadyTime : (s.onEntry i f).cameraReadyTime = s.cameraReadyTime := rfl
@[simp] theorem State.onEntry_cameraConfirmTime : (s.onEntry i f).cameraConfirmTime = s.cameraConfirmTime := rfl
@[simp] theorem State.onEntry_pickConfirmTime : (s.onEntry i f).pickConfirmTime = s.pickConfirmTime := rfl
@[simp] theorem State.onEntry_previewCap : (s.onEntry i f).previewCap = s.previewCap := rfl
@[simp] theorem State.onEntry_frame (k : Nat) : (s.onEntry i f).frame k = s.frame k := rfl
@[simp] theorem State.onEntry_slotCameras : (s.onEntry i f).slotCameras = s.slotCameras := rfl
@[simp] theorem State.onEntry_lightOwner : (s.onEntry i f).lightOwner = s.lightOwner := rfl
@[simp] theorem State.onEntry_effectiveClass : (s.onEntry i f).effectiveClass = s.effectiveClass := rfl
@[simp] theorem State.onEntry_doneCount : (s.onEntry i f).doneCount = s.doneCount := rfl
end onEntryViews

section onLeavesViews
variable (f : LeafStore → LeafStore) (s : State)
@[simp] theorem State.onLeaves_entry (k : Nat) : (s.onLeaves f).entry k = s.entry k := rfl
@[simp] theorem State.onLeaves_mountedSlot : (s.onLeaves f).mountedSlot = s.mountedSlot := rfl
@[simp] theorem State.onLeaves_mountedVolume : (s.onLeaves f).mountedVolume = s.mountedVolume := rfl
@[simp] theorem State.onLeaves_mountedLeafCount : (s.onLeaves f).mountedLeafCount = s.mountedLeafCount := rfl
@[simp] theorem State.onLeaves_angleLimit : (s.onLeaves f).angleLimit = s.angleLimit := rfl
@[simp] theorem State.onLeaves_visible : (s.onLeaves f).visible = s.visible := rfl
@[simp] theorem State.onLeaves_word (k : Nat) : (s.onLeaves f).word k = s.word k := rfl
@[simp] theorem State.onLeaves_setting (k : Nat) : (s.onLeaves f).setting k = s.setting k := rfl
@[simp] theorem State.onLeaves_airLevel (c : Nat) : (s.onLeaves f).airLevel c = s.airLevel c := rfl
@[simp] theorem State.onLeaves_carrySpeed (c : Nat) : (s.onLeaves f).carrySpeed c = s.carrySpeed c := rfl
@[simp] theorem State.onLeaves_retries (c : Nat) : (s.onLeaves f).retries c = s.retries c := rfl
@[simp] theorem State.onLeaves_liftTime (c : Nat) : (s.onLeaves f).liftTime c = s.liftTime c := rfl
@[simp] theorem State.onLeaves_carryTime (c : Nat) : (s.onLeaves f).carryTime c = s.carryTime c := rfl
@[simp] theorem State.onLeaves_layTime (c : Nat) : (s.onLeaves f).layTime c = s.layTime c := rfl
@[simp] theorem State.onLeaves_settleTime (c : Nat) : (s.onLeaves f).settleTime c = s.settleTime c := rfl
@[simp] theorem State.onLeaves_angleTime (c : Nat) : (s.onLeaves f).angleTime c = s.angleTime c := rfl
@[simp] theorem State.onLeaves_calibration (b k : Nat) : (s.onLeaves f).calibration b k = s.calibration b k := rfl
@[simp] theorem State.onLeaves_gateTime : (s.onLeaves f).gateTime = s.gateTime := rfl
@[simp] theorem State.onLeaves_cameraReadyTime : (s.onLeaves f).cameraReadyTime = s.cameraReadyTime := rfl
@[simp] theorem State.onLeaves_cameraConfirmTime : (s.onLeaves f).cameraConfirmTime = s.cameraConfirmTime := rfl
@[simp] theorem State.onLeaves_pickConfirmTime : (s.onLeaves f).pickConfirmTime = s.pickConfirmTime := rfl
@[simp] theorem State.onLeaves_previewCap : (s.onLeaves f).previewCap = s.previewCap := rfl
@[simp] theorem State.onLeaves_frame (k : Nat) : (s.onLeaves f).frame k = s.frame k := rfl
@[simp] theorem State.onLeaves_slotCameras : (s.onLeaves f).slotCameras = s.slotCameras := rfl
@[simp] theorem State.onLeaves_lightOwner : (s.onLeaves f).lightOwner = s.lightOwner := rfl
@[simp] theorem State.onLeaves_effectiveClass : (s.onLeaves f).effectiveClass = s.effectiveClass := rfl
@[simp] theorem State.onLeaves_doneCount : (s.onLeaves f).doneCount = s.doneCount := rfl
end onLeavesViews

section onLeafViews
variable (i k : Nat) (f : LeafRecord → LeafRecord) (s : State)
@[simp] theorem State.onLeaf_entry (k : Nat) : (s.onLeaf i k f).entry k = s.entry k := rfl
@[simp] theorem State.onLeaf_mountedSlot : (s.onLeaf i k f).mountedSlot = s.mountedSlot := rfl
@[simp] theorem State.onLeaf_mountedVolume : (s.onLeaf i k f).mountedVolume = s.mountedVolume := rfl
@[simp] theorem State.onLeaf_mountedLeafCount : (s.onLeaf i k f).mountedLeafCount = s.mountedLeafCount := rfl
@[simp] theorem State.onLeaf_angleLimit : (s.onLeaf i k f).angleLimit = s.angleLimit := rfl
@[simp] theorem State.onLeaf_visible : (s.onLeaf i k f).visible = s.visible := rfl
@[simp] theorem State.onLeaf_word (k : Nat) : (s.onLeaf i k f).word k = s.word k := rfl
@[simp] theorem State.onLeaf_setting (k : Nat) : (s.onLeaf i k f).setting k = s.setting k := rfl
@[simp] theorem State.onLeaf_airLevel (c : Nat) : (s.onLeaf i k f).airLevel c = s.airLevel c := rfl
@[simp] theorem State.onLeaf_carrySpeed (c : Nat) : (s.onLeaf i k f).carrySpeed c = s.carrySpeed c := rfl
@[simp] theorem State.onLeaf_retries (c : Nat) : (s.onLeaf i k f).retries c = s.retries c := rfl
@[simp] theorem State.onLeaf_liftTime (c : Nat) : (s.onLeaf i k f).liftTime c = s.liftTime c := rfl
@[simp] theorem State.onLeaf_carryTime (c : Nat) : (s.onLeaf i k f).carryTime c = s.carryTime c := rfl
@[simp] theorem State.onLeaf_layTime (c : Nat) : (s.onLeaf i k f).layTime c = s.layTime c := rfl
@[simp] theorem State.onLeaf_settleTime (c : Nat) : (s.onLeaf i k f).settleTime c = s.settleTime c := rfl
@[simp] theorem State.onLeaf_angleTime (c : Nat) : (s.onLeaf i k f).angleTime c = s.angleTime c := rfl
@[simp] theorem State.onLeaf_calibration (b k : Nat) : (s.onLeaf i k f).calibration b k = s.calibration b k := rfl
@[simp] theorem State.onLeaf_gateTime : (s.onLeaf i k f).gateTime = s.gateTime := rfl
@[simp] theorem State.onLeaf_cameraReadyTime : (s.onLeaf i k f).cameraReadyTime = s.cameraReadyTime := rfl
@[simp] theorem State.onLeaf_cameraConfirmTime : (s.onLeaf i k f).cameraConfirmTime = s.cameraConfirmTime := rfl
@[simp] theorem State.onLeaf_pickConfirmTime : (s.onLeaf i k f).pickConfirmTime = s.pickConfirmTime := rfl
@[simp] theorem State.onLeaf_previewCap : (s.onLeaf i k f).previewCap = s.previewCap := rfl
@[simp] theorem State.onLeaf_frame (k : Nat) : (s.onLeaf i k f).frame k = s.frame k := rfl
@[simp] theorem State.onLeaf_slotCameras : (s.onLeaf i k f).slotCameras = s.slotCameras := rfl
@[simp] theorem State.onLeaf_lightOwner : (s.onLeaf i k f).lightOwner = s.lightOwner := rfl
@[simp] theorem State.onLeaf_effectiveClass : (s.onLeaf i k f).effectiveClass = s.effectiveClass := rfl
@[simp] theorem State.onLeaf_doneCount : (s.onLeaf i k f).doneCount = s.doneCount := rfl
end onLeafViews

section onCradleViews
variable (f : Cradle → Cradle) (s : State)
@[simp] theorem State.onCradle_entry (k : Nat) : (s.onCradle f).entry k = s.entry k := rfl
@[simp] theorem State.onCradle_leaf (k l : Nat) : (s.onCradle f).leaf k l = s.leaf k l := rfl
@[simp] theorem State.onCradle_mountedSlot : (s.onCradle f).mountedSlot = s.mountedSlot := rfl
@[simp] theorem State.onCradle_mountedVolume : (s.onCradle f).mountedVolume = s.mountedVolume := rfl
@[simp] theorem State.onCradle_mountedLeafCount : (s.onCradle f).mountedLeafCount = s.mountedLeafCount := rfl
@[simp] theorem State.onCradle_angleLimit : (s.onCradle f).angleLimit = s.angleLimit := rfl
@[simp] theorem State.onCradle_word (k : Nat) : (s.onCradle f).word k = s.word k := rfl
@[simp] theorem State.onCradle_setting (k : Nat) : (s.onCradle f).setting k = s.setting k := rfl
@[simp] theorem State.onCradle_airLevel (c : Nat) : (s.onCradle f).airLevel c = s.airLevel c := rfl
@[simp] theorem State.onCradle_carrySpeed (c : Nat) : (s.onCradle f).carrySpeed c = s.carrySpeed c := rfl
@[simp] theorem State.onCradle_retries (c : Nat) : (s.onCradle f).retries c = s.retries c := rfl
@[simp] theorem State.onCradle_liftTime (c : Nat) : (s.onCradle f).liftTime c = s.liftTime c := rfl
@[simp] theorem State.onCradle_carryTime (c : Nat) : (s.onCradle f).carryTime c = s.carryTime c := rfl
@[simp] theorem State.onCradle_layTime (c : Nat) : (s.onCradle f).layTime c = s.layTime c := rfl
@[simp] theorem State.onCradle_settleTime (c : Nat) : (s.onCradle f).settleTime c = s.settleTime c := rfl
@[simp] theorem State.onCradle_angleTime (c : Nat) : (s.onCradle f).angleTime c = s.angleTime c := rfl
@[simp] theorem State.onCradle_calibration (b k : Nat) : (s.onCradle f).calibration b k = s.calibration b k := rfl
@[simp] theorem State.onCradle_gateTime : (s.onCradle f).gateTime = s.gateTime := rfl
@[simp] theorem State.onCradle_cameraReadyTime : (s.onCradle f).cameraReadyTime = s.cameraReadyTime := rfl
@[simp] theorem State.onCradle_cameraConfirmTime : (s.onCradle f).cameraConfirmTime = s.cameraConfirmTime := rfl
@[simp] theorem State.onCradle_pickConfirmTime : (s.onCradle f).pickConfirmTime = s.pickConfirmTime := rfl
@[simp] theorem State.onCradle_previewCap : (s.onCradle f).previewCap = s.previewCap := rfl
@[simp] theorem State.onCradle_frame (k : Nat) : (s.onCradle f).frame k = s.frame k := rfl
@[simp] theorem State.onCradle_slotCameras : (s.onCradle f).slotCameras = s.slotCameras := rfl
@[simp] theorem State.onCradle_lightOwner : (s.onCradle f).lightOwner = s.lightOwner := rfl
end onCradleViews

section onGaugeViews
variable (f : Gauge → Gauge) (s : State)
@[simp] theorem State.onGauge_entry (k : Nat) : (s.onGauge f).entry k = s.entry k := rfl
@[simp] theorem State.onGauge_leaf (k l : Nat) : (s.onGauge f).leaf k l = s.leaf k l := rfl
@[simp] theorem State.onGauge_mountedSlot : (s.onGauge f).mountedSlot = s.mountedSlot := rfl
@[simp] theorem State.onGauge_mountedVolume : (s.onGauge f).mountedVolume = s.mountedVolume := rfl
@[simp] theorem State.onGauge_mountedLeafCount : (s.onGauge f).mountedLeafCount = s.mountedLeafCount := rfl
@[simp] theorem State.onGauge_angleLimit : (s.onGauge f).angleLimit = s.angleLimit := rfl
@[simp] theorem State.onGauge_visible : (s.onGauge f).visible = s.visible := rfl
@[simp] theorem State.onGauge_faceAtBudget : (s.onGauge f).faceAtBudget = s.faceAtBudget := rfl
@[simp] theorem State.onGauge_word (k : Nat) : (s.onGauge f).word k = s.word k := rfl
@[simp] theorem State.onGauge_setting (k : Nat) : (s.onGauge f).setting k = s.setting k := rfl
@[simp] theorem State.onGauge_airLevel (c : Nat) : (s.onGauge f).airLevel c = s.airLevel c := rfl
@[simp] theorem State.onGauge_carrySpeed (c : Nat) : (s.onGauge f).carrySpeed c = s.carrySpeed c := rfl
@[simp] theorem State.onGauge_retries (c : Nat) : (s.onGauge f).retries c = s.retries c := rfl
@[simp] theorem State.onGauge_liftTime (c : Nat) : (s.onGauge f).liftTime c = s.liftTime c := rfl
@[simp] theorem State.onGauge_carryTime (c : Nat) : (s.onGauge f).carryTime c = s.carryTime c := rfl
@[simp] theorem State.onGauge_layTime (c : Nat) : (s.onGauge f).layTime c = s.layTime c := rfl
@[simp] theorem State.onGauge_settleTime (c : Nat) : (s.onGauge f).settleTime c = s.settleTime c := rfl
@[simp] theorem State.onGauge_angleTime (c : Nat) : (s.onGauge f).angleTime c = s.angleTime c := rfl
@[simp] theorem State.onGauge_calibration (b k : Nat) : (s.onGauge f).calibration b k = s.calibration b k := rfl
@[simp] theorem State.onGauge_gateTime : (s.onGauge f).gateTime = s.gateTime := rfl
@[simp] theorem State.onGauge_cameraReadyTime : (s.onGauge f).cameraReadyTime = s.cameraReadyTime := rfl
@[simp] theorem State.onGauge_cameraConfirmTime : (s.onGauge f).cameraConfirmTime = s.cameraConfirmTime := rfl
@[simp] theorem State.onGauge_pickConfirmTime : (s.onGauge f).pickConfirmTime = s.pickConfirmTime := rfl
@[simp] theorem State.onGauge_previewCap : (s.onGauge f).previewCap = s.previewCap := rfl
@[simp] theorem State.onGauge_frame (k : Nat) : (s.onGauge f).frame k = s.frame k := rfl
@[simp] theorem State.onGauge_slotCameras : (s.onGauge f).slotCameras = s.slotCameras := rfl
@[simp] theorem State.onGauge_lightOwner : (s.onGauge f).lightOwner = s.lightOwner := rfl
@[simp] theorem State.onGauge_effectiveClass : (s.onGauge f).effectiveClass = s.effectiveClass := rfl
@[simp] theorem State.onGauge_doneCount : (s.onGauge f).doneCount = s.doneCount := rfl
end onGaugeViews

section onGuardsViews
variable (f : Guards → Guards) (s : State)
@[simp] theorem State.onGuards_entry (k : Nat) : (s.onGuards f).entry k = s.entry k := rfl
@[simp] theorem State.onGuards_leaf (k l : Nat) : (s.onGuards f).leaf k l = s.leaf k l := rfl
@[simp] theorem State.onGuards_mountedSlot : (s.onGuards f).mountedSlot = s.mountedSlot := rfl
@[simp] theorem State.onGuards_mountedVolume : (s.onGuards f).mountedVolume = s.mountedVolume := rfl
@[simp] theorem State.onGuards_mountedLeafCount : (s.onGuards f).mountedLeafCount = s.mountedLeafCount := rfl
@[simp] theorem State.onGuards_angleLimit : (s.onGuards f).angleLimit = s.angleLimit := rfl
@[simp] theorem State.onGuards_visible : (s.onGuards f).visible = s.visible := rfl
@[simp] theorem State.onGuards_faceAtBudget : (s.onGuards f).faceAtBudget = s.faceAtBudget := rfl
@[simp] theorem State.onGuards_word (k : Nat) : (s.onGuards f).word k = s.word k := rfl
@[simp] theorem State.onGuards_setting (k : Nat) : (s.onGuards f).setting k = s.setting k := rfl
@[simp] theorem State.onGuards_airLevel (c : Nat) : (s.onGuards f).airLevel c = s.airLevel c := rfl
@[simp] theorem State.onGuards_carrySpeed (c : Nat) : (s.onGuards f).carrySpeed c = s.carrySpeed c := rfl
@[simp] theorem State.onGuards_retries (c : Nat) : (s.onGuards f).retries c = s.retries c := rfl
@[simp] theorem State.onGuards_liftTime (c : Nat) : (s.onGuards f).liftTime c = s.liftTime c := rfl
@[simp] theorem State.onGuards_carryTime (c : Nat) : (s.onGuards f).carryTime c = s.carryTime c := rfl
@[simp] theorem State.onGuards_layTime (c : Nat) : (s.onGuards f).layTime c = s.layTime c := rfl
@[simp] theorem State.onGuards_settleTime (c : Nat) : (s.onGuards f).settleTime c = s.settleTime c := rfl
@[simp] theorem State.onGuards_angleTime (c : Nat) : (s.onGuards f).angleTime c = s.angleTime c := rfl
@[simp] theorem State.onGuards_calibration (b k : Nat) : (s.onGuards f).calibration b k = s.calibration b k := rfl
@[simp] theorem State.onGuards_gateTime : (s.onGuards f).gateTime = s.gateTime := rfl
@[simp] theorem State.onGuards_cameraReadyTime : (s.onGuards f).cameraReadyTime = s.cameraReadyTime := rfl
@[simp] theorem State.onGuards_cameraConfirmTime : (s.onGuards f).cameraConfirmTime = s.cameraConfirmTime := rfl
@[simp] theorem State.onGuards_pickConfirmTime : (s.onGuards f).pickConfirmTime = s.pickConfirmTime := rfl
@[simp] theorem State.onGuards_previewCap : (s.onGuards f).previewCap = s.previewCap := rfl
@[simp] theorem State.onGuards_frame (k : Nat) : (s.onGuards f).frame k = s.frame k := rfl
@[simp] theorem State.onGuards_slotCameras : (s.onGuards f).slotCameras = s.slotCameras := rfl
@[simp] theorem State.onGuards_lightOwner : (s.onGuards f).lightOwner = s.lightOwner := rfl
@[simp] theorem State.onGuards_effectiveClass : (s.onGuards f).effectiveClass = s.effectiveClass := rfl
@[simp] theorem State.onGuards_doneCount : (s.onGuards f).doneCount = s.doneCount := rfl
end onGuardsViews

section onLightsViews
variable (f : Lights → Lights) (s : State)
@[simp] theorem State.onLights_entry (k : Nat) : (s.onLights f).entry k = s.entry k := rfl
@[simp] theorem State.onLights_leaf (k l : Nat) : (s.onLights f).leaf k l = s.leaf k l := rfl
@[simp] theorem State.onLights_mountedSlot : (s.onLights f).mountedSlot = s.mountedSlot := rfl
@[simp] theorem State.onLights_mountedVolume : (s.onLights f).mountedVolume = s.mountedVolume := rfl
@[simp] theorem State.onLights_mountedLeafCount : (s.onLights f).mountedLeafCount = s.mountedLeafCount := rfl
@[simp] theorem State.onLights_angleLimit : (s.onLights f).angleLimit = s.angleLimit := rfl
@[simp] theorem State.onLights_visible : (s.onLights f).visible = s.visible := rfl
@[simp] theorem State.onLights_faceAtBudget : (s.onLights f).faceAtBudget = s.faceAtBudget := rfl
@[simp] theorem State.onLights_word (k : Nat) : (s.onLights f).word k = s.word k := rfl
@[simp] theorem State.onLights_setting (k : Nat) : (s.onLights f).setting k = s.setting k := rfl
@[simp] theorem State.onLights_airLevel (c : Nat) : (s.onLights f).airLevel c = s.airLevel c := rfl
@[simp] theorem State.onLights_carrySpeed (c : Nat) : (s.onLights f).carrySpeed c = s.carrySpeed c := rfl
@[simp] theorem State.onLights_retries (c : Nat) : (s.onLights f).retries c = s.retries c := rfl
@[simp] theorem State.onLights_liftTime (c : Nat) : (s.onLights f).liftTime c = s.liftTime c := rfl
@[simp] theorem State.onLights_carryTime (c : Nat) : (s.onLights f).carryTime c = s.carryTime c := rfl
@[simp] theorem State.onLights_layTime (c : Nat) : (s.onLights f).layTime c = s.layTime c := rfl
@[simp] theorem State.onLights_settleTime (c : Nat) : (s.onLights f).settleTime c = s.settleTime c := rfl
@[simp] theorem State.onLights_angleTime (c : Nat) : (s.onLights f).angleTime c = s.angleTime c := rfl
@[simp] theorem State.onLights_calibration (b k : Nat) : (s.onLights f).calibration b k = s.calibration b k := rfl
@[simp] theorem State.onLights_gateTime : (s.onLights f).gateTime = s.gateTime := rfl
@[simp] theorem State.onLights_cameraReadyTime : (s.onLights f).cameraReadyTime = s.cameraReadyTime := rfl
@[simp] theorem State.onLights_cameraConfirmTime : (s.onLights f).cameraConfirmTime = s.cameraConfirmTime := rfl
@[simp] theorem State.onLights_pickConfirmTime : (s.onLights f).pickConfirmTime = s.pickConfirmTime := rfl
@[simp] theorem State.onLights_previewCap : (s.onLights f).previewCap = s.previewCap := rfl
@[simp] theorem State.onLights_frame (k : Nat) : (s.onLights f).frame k = s.frame k := rfl
@[simp] theorem State.onLights_slotCameras : (s.onLights f).slotCameras = s.slotCameras := rfl
@[simp] theorem State.onLights_effectiveClass : (s.onLights f).effectiveClass = s.effectiveClass := rfl
@[simp] theorem State.onLights_doneCount : (s.onLights f).doneCount = s.doneCount := rfl
end onLightsViews

section onMeterViews
variable (f : Meter → Meter) (s : State)
@[simp] theorem State.onMeter_entry (k : Nat) : (s.onMeter f).entry k = s.entry k := rfl
@[simp] theorem State.onMeter_leaf (k l : Nat) : (s.onMeter f).leaf k l = s.leaf k l := rfl
@[simp] theorem State.onMeter_mountedSlot : (s.onMeter f).mountedSlot = s.mountedSlot := rfl
@[simp] theorem State.onMeter_mountedVolume : (s.onMeter f).mountedVolume = s.mountedVolume := rfl
@[simp] theorem State.onMeter_mountedLeafCount : (s.onMeter f).mountedLeafCount = s.mountedLeafCount := rfl
@[simp] theorem State.onMeter_angleLimit : (s.onMeter f).angleLimit = s.angleLimit := rfl
@[simp] theorem State.onMeter_visible : (s.onMeter f).visible = s.visible := rfl
@[simp] theorem State.onMeter_faceAtBudget : (s.onMeter f).faceAtBudget = s.faceAtBudget := rfl
@[simp] theorem State.onMeter_word (k : Nat) : (s.onMeter f).word k = s.word k := rfl
@[simp] theorem State.onMeter_setting (k : Nat) : (s.onMeter f).setting k = s.setting k := rfl
@[simp] theorem State.onMeter_airLevel (c : Nat) : (s.onMeter f).airLevel c = s.airLevel c := rfl
@[simp] theorem State.onMeter_carrySpeed (c : Nat) : (s.onMeter f).carrySpeed c = s.carrySpeed c := rfl
@[simp] theorem State.onMeter_retries (c : Nat) : (s.onMeter f).retries c = s.retries c := rfl
@[simp] theorem State.onMeter_liftTime (c : Nat) : (s.onMeter f).liftTime c = s.liftTime c := rfl
@[simp] theorem State.onMeter_carryTime (c : Nat) : (s.onMeter f).carryTime c = s.carryTime c := rfl
@[simp] theorem State.onMeter_layTime (c : Nat) : (s.onMeter f).layTime c = s.layTime c := rfl
@[simp] theorem State.onMeter_settleTime (c : Nat) : (s.onMeter f).settleTime c = s.settleTime c := rfl
@[simp] theorem State.onMeter_angleTime (c : Nat) : (s.onMeter f).angleTime c = s.angleTime c := rfl
@[simp] theorem State.onMeter_calibration (b k : Nat) : (s.onMeter f).calibration b k = s.calibration b k := rfl
@[simp] theorem State.onMeter_gateTime : (s.onMeter f).gateTime = s.gateTime := rfl
@[simp] theorem State.onMeter_cameraReadyTime : (s.onMeter f).cameraReadyTime = s.cameraReadyTime := rfl
@[simp] theorem State.onMeter_cameraConfirmTime : (s.onMeter f).cameraConfirmTime = s.cameraConfirmTime := rfl
@[simp] theorem State.onMeter_pickConfirmTime : (s.onMeter f).pickConfirmTime = s.pickConfirmTime := rfl
@[simp] theorem State.onMeter_previewCap : (s.onMeter f).previewCap = s.previewCap := rfl
@[simp] theorem State.onMeter_frame (k : Nat) : (s.onMeter f).frame k = s.frame k := rfl
@[simp] theorem State.onMeter_slotCameras : (s.onMeter f).slotCameras = s.slotCameras := rfl
@[simp] theorem State.onMeter_lightOwner : (s.onMeter f).lightOwner = s.lightOwner := rfl
@[simp] theorem State.onMeter_effectiveClass : (s.onMeter f).effectiveClass = s.effectiveClass := rfl
@[simp] theorem State.onMeter_doneCount : (s.onMeter f).doneCount = s.doneCount := rfl
end onMeterViews

section onFramesViews
variable (f : Frames → Frames) (s : State)
@[simp] theorem State.onFrames_entry (k : Nat) : (s.onFrames f).entry k = s.entry k := rfl
@[simp] theorem State.onFrames_leaf (k l : Nat) : (s.onFrames f).leaf k l = s.leaf k l := rfl
@[simp] theorem State.onFrames_mountedSlot : (s.onFrames f).mountedSlot = s.mountedSlot := rfl
@[simp] theorem State.onFrames_mountedVolume : (s.onFrames f).mountedVolume = s.mountedVolume := rfl
@[simp] theorem State.onFrames_mountedLeafCount : (s.onFrames f).mountedLeafCount = s.mountedLeafCount := rfl
@[simp] theorem State.onFrames_angleLimit : (s.onFrames f).angleLimit = s.angleLimit := rfl
@[simp] theorem State.onFrames_visible : (s.onFrames f).visible = s.visible := rfl
@[simp] theorem State.onFrames_faceAtBudget : (s.onFrames f).faceAtBudget = s.faceAtBudget := rfl
@[simp] theorem State.onFrames_word (k : Nat) : (s.onFrames f).word k = s.word k := rfl
@[simp] theorem State.onFrames_setting (k : Nat) : (s.onFrames f).setting k = s.setting k := rfl
@[simp] theorem State.onFrames_airLevel (c : Nat) : (s.onFrames f).airLevel c = s.airLevel c := rfl
@[simp] theorem State.onFrames_carrySpeed (c : Nat) : (s.onFrames f).carrySpeed c = s.carrySpeed c := rfl
@[simp] theorem State.onFrames_retries (c : Nat) : (s.onFrames f).retries c = s.retries c := rfl
@[simp] theorem State.onFrames_liftTime (c : Nat) : (s.onFrames f).liftTime c = s.liftTime c := rfl
@[simp] theorem State.onFrames_carryTime (c : Nat) : (s.onFrames f).carryTime c = s.carryTime c := rfl
@[simp] theorem State.onFrames_layTime (c : Nat) : (s.onFrames f).layTime c = s.layTime c := rfl
@[simp] theorem State.onFrames_settleTime (c : Nat) : (s.onFrames f).settleTime c = s.settleTime c := rfl
@[simp] theorem State.onFrames_angleTime (c : Nat) : (s.onFrames f).angleTime c = s.angleTime c := rfl
@[simp] theorem State.onFrames_calibration (b k : Nat) : (s.onFrames f).calibration b k = s.calibration b k := rfl
@[simp] theorem State.onFrames_gateTime : (s.onFrames f).gateTime = s.gateTime := rfl
@[simp] theorem State.onFrames_cameraReadyTime : (s.onFrames f).cameraReadyTime = s.cameraReadyTime := rfl
@[simp] theorem State.onFrames_cameraConfirmTime : (s.onFrames f).cameraConfirmTime = s.cameraConfirmTime := rfl
@[simp] theorem State.onFrames_pickConfirmTime : (s.onFrames f).pickConfirmTime = s.pickConfirmTime := rfl
@[simp] theorem State.onFrames_previewCap : (s.onFrames f).previewCap = s.previewCap := rfl
@[simp] theorem State.onFrames_lightOwner : (s.onFrames f).lightOwner = s.lightOwner := rfl
@[simp] theorem State.onFrames_effectiveClass : (s.onFrames f).effectiveClass = s.effectiveClass := rfl
@[simp] theorem State.onFrames_doneCount : (s.onFrames f).doneCount = s.doneCount := rfl
end onFramesViews

section onWalkerViews
variable (f : Walker → Walker) (s : State)
@[simp] theorem State.onWalker_entry (k : Nat) : (s.onWalker f).entry k = s.entry k := rfl
@[simp] theorem State.onWalker_leaf (k l : Nat) : (s.onWalker f).leaf k l = s.leaf k l := rfl
@[simp] theorem State.onWalker_mountedSlot : (s.onWalker f).mountedSlot = s.mountedSlot := rfl
@[simp] theorem State.onWalker_mountedVolume : (s.onWalker f).mountedVolume = s.mountedVolume := rfl
@[simp] theorem State.onWalker_mountedLeafCount : (s.onWalker f).mountedLeafCount = s.mountedLeafCount := rfl
@[simp] theorem State.onWalker_angleLimit : (s.onWalker f).angleLimit = s.angleLimit := rfl
@[simp] theorem State.onWalker_visible : (s.onWalker f).visible = s.visible := rfl
@[simp] theorem State.onWalker_faceAtBudget : (s.onWalker f).faceAtBudget = s.faceAtBudget := rfl
@[simp] theorem State.onWalker_word (k : Nat) : (s.onWalker f).word k = s.word k := rfl
@[simp] theorem State.onWalker_setting (k : Nat) : (s.onWalker f).setting k = s.setting k := rfl
@[simp] theorem State.onWalker_airLevel (c : Nat) : (s.onWalker f).airLevel c = s.airLevel c := rfl
@[simp] theorem State.onWalker_carrySpeed (c : Nat) : (s.onWalker f).carrySpeed c = s.carrySpeed c := rfl
@[simp] theorem State.onWalker_retries (c : Nat) : (s.onWalker f).retries c = s.retries c := rfl
@[simp] theorem State.onWalker_liftTime (c : Nat) : (s.onWalker f).liftTime c = s.liftTime c := rfl
@[simp] theorem State.onWalker_carryTime (c : Nat) : (s.onWalker f).carryTime c = s.carryTime c := rfl
@[simp] theorem State.onWalker_layTime (c : Nat) : (s.onWalker f).layTime c = s.layTime c := rfl
@[simp] theorem State.onWalker_settleTime (c : Nat) : (s.onWalker f).settleTime c = s.settleTime c := rfl
@[simp] theorem State.onWalker_angleTime (c : Nat) : (s.onWalker f).angleTime c = s.angleTime c := rfl
@[simp] theorem State.onWalker_calibration (b k : Nat) : (s.onWalker f).calibration b k = s.calibration b k := rfl
@[simp] theorem State.onWalker_gateTime : (s.onWalker f).gateTime = s.gateTime := rfl
@[simp] theorem State.onWalker_cameraReadyTime : (s.onWalker f).cameraReadyTime = s.cameraReadyTime := rfl
@[simp] theorem State.onWalker_cameraConfirmTime : (s.onWalker f).cameraConfirmTime = s.cameraConfirmTime := rfl
@[simp] theorem State.onWalker_pickConfirmTime : (s.onWalker f).pickConfirmTime = s.pickConfirmTime := rfl
@[simp] theorem State.onWalker_previewCap : (s.onWalker f).previewCap = s.previewCap := rfl
@[simp] theorem State.onWalker_frame (k : Nat) : (s.onWalker f).frame k = s.frame k := rfl
@[simp] theorem State.onWalker_slotCameras : (s.onWalker f).slotCameras = s.slotCameras := rfl
@[simp] theorem State.onWalker_lightOwner : (s.onWalker f).lightOwner = s.lightOwner := rfl
@[simp] theorem State.onWalker_effectiveClass : (s.onWalker f).effectiveClass = s.effectiveClass := rfl
@[simp] theorem State.onWalker_doneCount : (s.onWalker f).doneCount = s.doneCount := rfl
end onWalkerViews

section onLinksViews
variable (f : Links → Links) (s : State)
@[simp] theorem State.onLinks_entry (k : Nat) : (s.onLinks f).entry k = s.entry k := rfl
@[simp] theorem State.onLinks_leaf (k l : Nat) : (s.onLinks f).leaf k l = s.leaf k l := rfl
@[simp] theorem State.onLinks_mountedSlot : (s.onLinks f).mountedSlot = s.mountedSlot := rfl
@[simp] theorem State.onLinks_mountedVolume : (s.onLinks f).mountedVolume = s.mountedVolume := rfl
@[simp] theorem State.onLinks_mountedLeafCount : (s.onLinks f).mountedLeafCount = s.mountedLeafCount := rfl
@[simp] theorem State.onLinks_angleLimit : (s.onLinks f).angleLimit = s.angleLimit := rfl
@[simp] theorem State.onLinks_visible : (s.onLinks f).visible = s.visible := rfl
@[simp] theorem State.onLinks_faceAtBudget : (s.onLinks f).faceAtBudget = s.faceAtBudget := rfl
@[simp] theorem State.onLinks_word (k : Nat) : (s.onLinks f).word k = s.word k := rfl
@[simp] theorem State.onLinks_setting (k : Nat) : (s.onLinks f).setting k = s.setting k := rfl
@[simp] theorem State.onLinks_airLevel (c : Nat) : (s.onLinks f).airLevel c = s.airLevel c := rfl
@[simp] theorem State.onLinks_carrySpeed (c : Nat) : (s.onLinks f).carrySpeed c = s.carrySpeed c := rfl
@[simp] theorem State.onLinks_retries (c : Nat) : (s.onLinks f).retries c = s.retries c := rfl
@[simp] theorem State.onLinks_liftTime (c : Nat) : (s.onLinks f).liftTime c = s.liftTime c := rfl
@[simp] theorem State.onLinks_carryTime (c : Nat) : (s.onLinks f).carryTime c = s.carryTime c := rfl
@[simp] theorem State.onLinks_layTime (c : Nat) : (s.onLinks f).layTime c = s.layTime c := rfl
@[simp] theorem State.onLinks_settleTime (c : Nat) : (s.onLinks f).settleTime c = s.settleTime c := rfl
@[simp] theorem State.onLinks_angleTime (c : Nat) : (s.onLinks f).angleTime c = s.angleTime c := rfl
@[simp] theorem State.onLinks_calibration (b k : Nat) : (s.onLinks f).calibration b k = s.calibration b k := rfl
@[simp] theorem State.onLinks_gateTime : (s.onLinks f).gateTime = s.gateTime := rfl
@[simp] theorem State.onLinks_cameraReadyTime : (s.onLinks f).cameraReadyTime = s.cameraReadyTime := rfl
@[simp] theorem State.onLinks_cameraConfirmTime : (s.onLinks f).cameraConfirmTime = s.cameraConfirmTime := rfl
@[simp] theorem State.onLinks_pickConfirmTime : (s.onLinks f).pickConfirmTime = s.pickConfirmTime := rfl
@[simp] theorem State.onLinks_previewCap : (s.onLinks f).previewCap = s.previewCap := rfl
@[simp] theorem State.onLinks_frame (k : Nat) : (s.onLinks f).frame k = s.frame k := rfl
@[simp] theorem State.onLinks_slotCameras : (s.onLinks f).slotCameras = s.slotCameras := rfl
@[simp] theorem State.onLinks_lightOwner : (s.onLinks f).lightOwner = s.lightOwner := rfl
@[simp] theorem State.onLinks_effectiveClass : (s.onLinks f).effectiveClass = s.effectiveClass := rfl
@[simp] theorem State.onLinks_doneCount : (s.onLinks f).doneCount = s.doneCount := rfl
end onLinksViews

section onOutboxViews
variable (f : List Notice → List Notice) (s : State)
@[simp] theorem State.onOutbox_entry (k : Nat) : (s.onOutbox f).entry k = s.entry k := rfl
@[simp] theorem State.onOutbox_leaf (k l : Nat) : (s.onOutbox f).leaf k l = s.leaf k l := rfl
@[simp] theorem State.onOutbox_mountedSlot : (s.onOutbox f).mountedSlot = s.mountedSlot := rfl
@[simp] theorem State.onOutbox_mountedVolume : (s.onOutbox f).mountedVolume = s.mountedVolume := rfl
@[simp] theorem State.onOutbox_mountedLeafCount : (s.onOutbox f).mountedLeafCount = s.mountedLeafCount := rfl
@[simp] theorem State.onOutbox_angleLimit : (s.onOutbox f).angleLimit = s.angleLimit := rfl
@[simp] theorem State.onOutbox_visible : (s.onOutbox f).visible = s.visible := rfl
@[simp] theorem State.onOutbox_faceAtBudget : (s.onOutbox f).faceAtBudget = s.faceAtBudget := rfl
@[simp] theorem State.onOutbox_word (k : Nat) : (s.onOutbox f).word k = s.word k := rfl
@[simp] theorem State.onOutbox_setting (k : Nat) : (s.onOutbox f).setting k = s.setting k := rfl
@[simp] theorem State.onOutbox_airLevel (c : Nat) : (s.onOutbox f).airLevel c = s.airLevel c := rfl
@[simp] theorem State.onOutbox_carrySpeed (c : Nat) : (s.onOutbox f).carrySpeed c = s.carrySpeed c := rfl
@[simp] theorem State.onOutbox_retries (c : Nat) : (s.onOutbox f).retries c = s.retries c := rfl
@[simp] theorem State.onOutbox_liftTime (c : Nat) : (s.onOutbox f).liftTime c = s.liftTime c := rfl
@[simp] theorem State.onOutbox_carryTime (c : Nat) : (s.onOutbox f).carryTime c = s.carryTime c := rfl
@[simp] theorem State.onOutbox_layTime (c : Nat) : (s.onOutbox f).layTime c = s.layTime c := rfl
@[simp] theorem State.onOutbox_settleTime (c : Nat) : (s.onOutbox f).settleTime c = s.settleTime c := rfl
@[simp] theorem State.onOutbox_angleTime (c : Nat) : (s.onOutbox f).angleTime c = s.angleTime c := rfl
@[simp] theorem State.onOutbox_calibration (b k : Nat) : (s.onOutbox f).calibration b k = s.calibration b k := rfl
@[simp] theorem State.onOutbox_gateTime : (s.onOutbox f).gateTime = s.gateTime := rfl
@[simp] theorem State.onOutbox_cameraReadyTime : (s.onOutbox f).cameraReadyTime = s.cameraReadyTime := rfl
@[simp] theorem State.onOutbox_cameraConfirmTime : (s.onOutbox f).cameraConfirmTime = s.cameraConfirmTime := rfl
@[simp] theorem State.onOutbox_pickConfirmTime : (s.onOutbox f).pickConfirmTime = s.pickConfirmTime := rfl
@[simp] theorem State.onOutbox_previewCap : (s.onOutbox f).previewCap = s.previewCap := rfl
@[simp] theorem State.onOutbox_frame (k : Nat) : (s.onOutbox f).frame k = s.frame k := rfl
@[simp] theorem State.onOutbox_slotCameras : (s.onOutbox f).slotCameras = s.slotCameras := rfl
@[simp] theorem State.onOutbox_lightOwner : (s.onOutbox f).lightOwner = s.lightOwner := rfl
@[simp] theorem State.onOutbox_effectiveClass : (s.onOutbox f).effectiveClass = s.effectiveClass := rfl
@[simp] theorem State.onOutbox_doneCount : (s.onOutbox f).doneCount = s.doneCount := rfl
end onOutboxViews

section withPendingViews
variable (q : List Instr) (s : State)
@[simp] theorem State.withPending_entry (k : Nat) : (s.withPending q).entry k = s.entry k := rfl
@[simp] theorem State.withPending_leaf (k l : Nat) : (s.withPending q).leaf k l = s.leaf k l := rfl
@[simp] theorem State.withPending_mountedSlot : (s.withPending q).mountedSlot = s.mountedSlot := rfl
@[simp] theorem State.withPending_mountedVolume : (s.withPending q).mountedVolume = s.mountedVolume := rfl
@[simp] theorem State.withPending_mountedLeafCount : (s.withPending q).mountedLeafCount = s.mountedLeafCount := rfl
@[simp] theorem State.withPending_angleLimit : (s.withPending q).angleLimit = s.angleLimit := rfl
@[simp] theorem State.withPending_visible : (s.withPending q).visible = s.visible := rfl
@[simp] theorem State.withPending_faceAtBudget : (s.withPending q).faceAtBudget = s.faceAtBudget := rfl
@[simp] theorem State.withPending_word (k : Nat) : (s.withPending q).word k = s.word k := rfl
@[simp] theorem State.withPending_setting (k : Nat) : (s.withPending q).setting k = s.setting k := rfl
@[simp] theorem State.withPending_airLevel (c : Nat) : (s.withPending q).airLevel c = s.airLevel c := rfl
@[simp] theorem State.withPending_carrySpeed (c : Nat) : (s.withPending q).carrySpeed c = s.carrySpeed c := rfl
@[simp] theorem State.withPending_retries (c : Nat) : (s.withPending q).retries c = s.retries c := rfl
@[simp] theorem State.withPending_liftTime (c : Nat) : (s.withPending q).liftTime c = s.liftTime c := rfl
@[simp] theorem State.withPending_carryTime (c : Nat) : (s.withPending q).carryTime c = s.carryTime c := rfl
@[simp] theorem State.withPending_layTime (c : Nat) : (s.withPending q).layTime c = s.layTime c := rfl
@[simp] theorem State.withPending_settleTime (c : Nat) : (s.withPending q).settleTime c = s.settleTime c := rfl
@[simp] theorem State.withPending_angleTime (c : Nat) : (s.withPending q).angleTime c = s.angleTime c := rfl
@[simp] theorem State.withPending_calibration (b k : Nat) : (s.withPending q).calibration b k = s.calibration b k := rfl
@[simp] theorem State.withPending_gateTime : (s.withPending q).gateTime = s.gateTime := rfl
@[simp] theorem State.withPending_cameraReadyTime : (s.withPending q).cameraReadyTime = s.cameraReadyTime := rfl
@[simp] theorem State.withPending_cameraConfirmTime : (s.withPending q).cameraConfirmTime = s.cameraConfirmTime := rfl
@[simp] theorem State.withPending_pickConfirmTime : (s.withPending q).pickConfirmTime = s.pickConfirmTime := rfl
@[simp] theorem State.withPending_previewCap : (s.withPending q).previewCap = s.previewCap := rfl
@[simp] theorem State.withPending_frame (k : Nat) : (s.withPending q).frame k = s.frame k := rfl
@[simp] theorem State.withPending_slotCameras : (s.withPending q).slotCameras = s.slotCameras := rfl
@[simp] theorem State.withPending_lightOwner : (s.withPending q).lightOwner = s.lightOwner := rfl
@[simp] theorem State.withPending_effectiveClass : (s.withPending q).effectiveClass = s.effectiveClass := rfl
@[simp] theorem State.withPending_doneCount : (s.withPending q).doneCount = s.doneCount := rfl
end withPendingViews

section postViews
variable (n : Notice) (s : State)
@[simp] theorem State.post_entry (k : Nat) : (s.post n).entry k = s.entry k := rfl
@[simp] theorem State.post_leaf (k l : Nat) : (s.post n).leaf k l = s.leaf k l := rfl
@[simp] theorem State.post_mountedSlot : (s.post n).mountedSlot = s.mountedSlot := rfl
@[simp] theorem State.post_mountedVolume : (s.post n).mountedVolume = s.mountedVolume := rfl
@[simp] theorem State.post_mountedLeafCount : (s.post n).mountedLeafCount = s.mountedLeafCount := rfl
@[simp] theorem State.post_angleLimit : (s.post n).angleLimit = s.angleLimit := rfl
@[simp] theorem State.post_visible : (s.post n).visible = s.visible := rfl
@[simp] theorem State.post_faceAtBudget : (s.post n).faceAtBudget = s.faceAtBudget := rfl
@[simp] theorem State.post_word (k : Nat) : (s.post n).word k = s.word k := rfl
@[simp] theorem State.post_setting (k : Nat) : (s.post n).setting k = s.setting k := rfl
@[simp] theorem State.post_airLevel (c : Nat) : (s.post n).airLevel c = s.airLevel c := rfl
@[simp] theorem State.post_carrySpeed (c : Nat) : (s.post n).carrySpeed c = s.carrySpeed c := rfl
@[simp] theorem State.post_retries (c : Nat) : (s.post n).retries c = s.retries c := rfl
@[simp] theorem State.post_liftTime (c : Nat) : (s.post n).liftTime c = s.liftTime c := rfl
@[simp] theorem State.post_carryTime (c : Nat) : (s.post n).carryTime c = s.carryTime c := rfl
@[simp] theorem State.post_layTime (c : Nat) : (s.post n).layTime c = s.layTime c := rfl
@[simp] theorem State.post_settleTime (c : Nat) : (s.post n).settleTime c = s.settleTime c := rfl
@[simp] theorem State.post_angleTime (c : Nat) : (s.post n).angleTime c = s.angleTime c := rfl
@[simp] theorem State.post_calibration (b k : Nat) : (s.post n).calibration b k = s.calibration b k := rfl
@[simp] theorem State.post_gateTime : (s.post n).gateTime = s.gateTime := rfl
@[simp] theorem State.post_cameraReadyTime : (s.post n).cameraReadyTime = s.cameraReadyTime := rfl
@[simp] theorem State.post_cameraConfirmTime : (s.post n).cameraConfirmTime = s.cameraConfirmTime := rfl
@[simp] theorem State.post_pickConfirmTime : (s.post n).pickConfirmTime = s.pickConfirmTime := rfl
@[simp] theorem State.post_previewCap : (s.post n).previewCap = s.previewCap := rfl
@[simp] theorem State.post_frame (k : Nat) : (s.post n).frame k = s.frame k := rfl
@[simp] theorem State.post_slotCameras : (s.post n).slotCameras = s.slotCameras := rfl
@[simp] theorem State.post_lightOwner : (s.post n).lightOwner = s.lightOwner := rfl
@[simp] theorem State.post_effectiveClass : (s.post n).effectiveClass = s.effectiveClass := rfl
@[simp] theorem State.post_doneCount : (s.post n).doneCount = s.doneCount := rfl
end postViews

section onPortViews
variable (a : Link) (f : Port → Port) (s : State)
@[simp] theorem State.onPort_entry (k : Nat) : (s.onPort a f).entry k = s.entry k := rfl
@[simp] theorem State.onPort_leaf (k l : Nat) : (s.onPort a f).leaf k l = s.leaf k l := rfl
@[simp] theorem State.onPort_mountedSlot : (s.onPort a f).mountedSlot = s.mountedSlot := rfl
@[simp] theorem State.onPort_mountedVolume : (s.onPort a f).mountedVolume = s.mountedVolume := rfl
@[simp] theorem State.onPort_mountedLeafCount : (s.onPort a f).mountedLeafCount = s.mountedLeafCount := rfl
@[simp] theorem State.onPort_angleLimit : (s.onPort a f).angleLimit = s.angleLimit := rfl
@[simp] theorem State.onPort_visible : (s.onPort a f).visible = s.visible := rfl
@[simp] theorem State.onPort_faceAtBudget : (s.onPort a f).faceAtBudget = s.faceAtBudget := rfl
@[simp] theorem State.onPort_word (k : Nat) : (s.onPort a f).word k = s.word k := rfl
@[simp] theorem State.onPort_setting (k : Nat) : (s.onPort a f).setting k = s.setting k := rfl
@[simp] theorem State.onPort_airLevel (c : Nat) : (s.onPort a f).airLevel c = s.airLevel c := rfl
@[simp] theorem State.onPort_carrySpeed (c : Nat) : (s.onPort a f).carrySpeed c = s.carrySpeed c := rfl
@[simp] theorem State.onPort_retries (c : Nat) : (s.onPort a f).retries c = s.retries c := rfl
@[simp] theorem State.onPort_liftTime (c : Nat) : (s.onPort a f).liftTime c = s.liftTime c := rfl
@[simp] theorem State.onPort_carryTime (c : Nat) : (s.onPort a f).carryTime c = s.carryTime c := rfl
@[simp] theorem State.onPort_layTime (c : Nat) : (s.onPort a f).layTime c = s.layTime c := rfl
@[simp] theorem State.onPort_settleTime (c : Nat) : (s.onPort a f).settleTime c = s.settleTime c := rfl
@[simp] theorem State.onPort_angleTime (c : Nat) : (s.onPort a f).angleTime c = s.angleTime c := rfl
@[simp] theorem State.onPort_calibration (b k : Nat) : (s.onPort a f).calibration b k = s.calibration b k := rfl
@[simp] theorem State.onPort_gateTime : (s.onPort a f).gateTime = s.gateTime := rfl
@[simp] theorem State.onPort_cameraReadyTime : (s.onPort a f).cameraReadyTime = s.cameraReadyTime := rfl
@[simp] theorem State.onPort_cameraConfirmTime : (s.onPort a f).cameraConfirmTime = s.cameraConfirmTime := rfl
@[simp] theorem State.onPort_pickConfirmTime : (s.onPort a f).pickConfirmTime = s.pickConfirmTime := rfl
@[simp] theorem State.onPort_previewCap : (s.onPort a f).previewCap = s.previewCap := rfl
@[simp] theorem State.onPort_frame (k : Nat) : (s.onPort a f).frame k = s.frame k := rfl
@[simp] theorem State.onPort_slotCameras : (s.onPort a f).slotCameras = s.slotCameras := rfl
@[simp] theorem State.onPort_lightOwner : (s.onPort a f).lightOwner = s.lightOwner := rfl
@[simp] theorem State.onPort_effectiveClass : (s.onPort a f).effectiveClass = s.effectiveClass := rfl
@[simp] theorem State.onPort_doneCount : (s.onPort a f).doneCount = s.doneCount := rfl
end onPortViews

section heardViews
variable (o : Origin) (s : State)
@[simp] theorem State.heard_mountedVolume : (s.heard o).mountedVolume = s.mountedVolume := rfl
@[simp] theorem State.heard_mountedLeafCount : (s.heard o).mountedLeafCount = s.mountedLeafCount := rfl
@[simp] theorem State.heard_angleLimit : (s.heard o).angleLimit = s.angleLimit := rfl
@[simp] theorem State.heard_faceAtBudget : (s.heard o).faceAtBudget = s.faceAtBudget := rfl
@[simp] theorem State.heard_setting (k : Nat) : (s.heard o).setting k = s.setting k := rfl
@[simp] theorem State.heard_airLevel (c : Nat) : (s.heard o).airLevel c = s.airLevel c := rfl
@[simp] theorem State.heard_carrySpeed (c : Nat) : (s.heard o).carrySpeed c = s.carrySpeed c := rfl
@[simp] theorem State.heard_retries (c : Nat) : (s.heard o).retries c = s.retries c := rfl
@[simp] theorem State.heard_liftTime (c : Nat) : (s.heard o).liftTime c = s.liftTime c := rfl
@[simp] theorem State.heard_carryTime (c : Nat) : (s.heard o).carryTime c = s.carryTime c := rfl
@[simp] theorem State.heard_layTime (c : Nat) : (s.heard o).layTime c = s.layTime c := rfl
@[simp] theorem State.heard_settleTime (c : Nat) : (s.heard o).settleTime c = s.settleTime c := rfl
@[simp] theorem State.heard_angleTime (c : Nat) : (s.heard o).angleTime c = s.angleTime c := rfl
@[simp] theorem State.heard_calibration (b k : Nat) : (s.heard o).calibration b k = s.calibration b k := rfl
@[simp] theorem State.heard_gateTime : (s.heard o).gateTime = s.gateTime := rfl
@[simp] theorem State.heard_cameraReadyTime : (s.heard o).cameraReadyTime = s.cameraReadyTime := rfl
@[simp] theorem State.heard_cameraConfirmTime : (s.heard o).cameraConfirmTime = s.cameraConfirmTime := rfl
@[simp] theorem State.heard_pickConfirmTime : (s.heard o).pickConfirmTime = s.pickConfirmTime := rfl
@[simp] theorem State.heard_previewCap : (s.heard o).previewCap = s.previewCap := rfl
@[simp] theorem State.heard_slotCameras : (s.heard o).slotCameras = s.slotCameras := rfl
@[simp] theorem State.heard_lightOwner : (s.heard o).lightOwner = s.lightOwner := rfl
@[simp] theorem State.heard_effectiveClass : (s.heard o).effectiveClass = s.effectiveClass := rfl
@[simp] theorem State.heard_doneCount : (s.heard o).doneCount = s.doneCount := rfl
end heardViews

section replyViews
variable (a : Link) (tag code : Byte) (result : Result) (body : List Byte) (s : State)
@[simp] theorem State.reply_entry (k : Nat) : (s.reply a tag code result body).entry k = s.entry k := rfl
@[simp] theorem State.reply_leaf (k l : Nat) : (s.reply a tag code result body).leaf k l = s.leaf k l := rfl
@[simp] theorem State.reply_mountedSlot : (s.reply a tag code result body).mountedSlot = s.mountedSlot := rfl
@[simp] theorem State.reply_mountedVolume : (s.reply a tag code result body).mountedVolume = s.mountedVolume := rfl
@[simp] theorem State.reply_mountedLeafCount : (s.reply a tag code result body).mountedLeafCount = s.mountedLeafCount := rfl
@[simp] theorem State.reply_angleLimit : (s.reply a tag code result body).angleLimit = s.angleLimit := rfl
@[simp] theorem State.reply_visible : (s.reply a tag code result body).visible = s.visible := rfl
@[simp] theorem State.reply_faceAtBudget : (s.reply a tag code result body).faceAtBudget = s.faceAtBudget := rfl
@[simp] theorem State.reply_word (k : Nat) : (s.reply a tag code result body).word k = s.word k := rfl
@[simp] theorem State.reply_setting (k : Nat) : (s.reply a tag code result body).setting k = s.setting k := rfl
@[simp] theorem State.reply_airLevel (c : Nat) : (s.reply a tag code result body).airLevel c = s.airLevel c := rfl
@[simp] theorem State.reply_carrySpeed (c : Nat) : (s.reply a tag code result body).carrySpeed c = s.carrySpeed c := rfl
@[simp] theorem State.reply_retries (c : Nat) : (s.reply a tag code result body).retries c = s.retries c := rfl
@[simp] theorem State.reply_liftTime (c : Nat) : (s.reply a tag code result body).liftTime c = s.liftTime c := rfl
@[simp] theorem State.reply_carryTime (c : Nat) : (s.reply a tag code result body).carryTime c = s.carryTime c := rfl
@[simp] theorem State.reply_layTime (c : Nat) : (s.reply a tag code result body).layTime c = s.layTime c := rfl
@[simp] theorem State.reply_settleTime (c : Nat) : (s.reply a tag code result body).settleTime c = s.settleTime c := rfl
@[simp] theorem State.reply_angleTime (c : Nat) : (s.reply a tag code result body).angleTime c = s.angleTime c := rfl
@[simp] theorem State.reply_calibration (b k : Nat) : (s.reply a tag code result body).calibration b k = s.calibration b k := rfl
@[simp] theorem State.reply_gateTime : (s.reply a tag code result body).gateTime = s.gateTime := rfl
@[simp] theorem State.reply_cameraReadyTime : (s.reply a tag code result body).cameraReadyTime = s.cameraReadyTime := rfl
@[simp] theorem State.reply_cameraConfirmTime : (s.reply a tag code result body).cameraConfirmTime = s.cameraConfirmTime := rfl
@[simp] theorem State.reply_pickConfirmTime : (s.reply a tag code result body).pickConfirmTime = s.pickConfirmTime := rfl
@[simp] theorem State.reply_previewCap : (s.reply a tag code result body).previewCap = s.previewCap := rfl
@[simp] theorem State.reply_frame (k : Nat) : (s.reply a tag code result body).frame k = s.frame k := rfl
@[simp] theorem State.reply_slotCameras : (s.reply a tag code result body).slotCameras = s.slotCameras := rfl
@[simp] theorem State.reply_lightOwner : (s.reply a tag code result body).lightOwner = s.lightOwner := rfl
@[simp] theorem State.reply_effectiveClass : (s.reply a tag code result body).effectiveClass = s.effectiveClass := rfl
@[simp] theorem State.reply_doneCount : (s.reply a tag code result body).doneCount = s.doneCount := rfl
end replyViews

section answeredViews
variable (o : Origin) (code : Byte) (result : Result) (body : List Byte) (s : State)
@[simp] theorem State.answered_entry (k : Nat) : (s.answered o code result body).entry k = s.entry k := rfl
@[simp] theorem State.answered_leaf (k l : Nat) : (s.answered o code result body).leaf k l = s.leaf k l := rfl
@[simp] theorem State.answered_mountedSlot : (s.answered o code result body).mountedSlot = s.mountedSlot := rfl
@[simp] theorem State.answered_mountedVolume : (s.answered o code result body).mountedVolume = s.mountedVolume := rfl
@[simp] theorem State.answered_mountedLeafCount : (s.answered o code result body).mountedLeafCount = s.mountedLeafCount := rfl
@[simp] theorem State.answered_angleLimit : (s.answered o code result body).angleLimit = s.angleLimit := rfl
@[simp] theorem State.answered_visible : (s.answered o code result body).visible = s.visible := rfl
@[simp] theorem State.answered_faceAtBudget : (s.answered o code result body).faceAtBudget = s.faceAtBudget := rfl
@[simp] theorem State.answered_word (k : Nat) : (s.answered o code result body).word k = s.word k := rfl
@[simp] theorem State.answered_setting (k : Nat) : (s.answered o code result body).setting k = s.setting k := rfl
@[simp] theorem State.answered_airLevel (c : Nat) : (s.answered o code result body).airLevel c = s.airLevel c := rfl
@[simp] theorem State.answered_carrySpeed (c : Nat) : (s.answered o code result body).carrySpeed c = s.carrySpeed c := rfl
@[simp] theorem State.answered_retries (c : Nat) : (s.answered o code result body).retries c = s.retries c := rfl
@[simp] theorem State.answered_liftTime (c : Nat) : (s.answered o code result body).liftTime c = s.liftTime c := rfl
@[simp] theorem State.answered_carryTime (c : Nat) : (s.answered o code result body).carryTime c = s.carryTime c := rfl
@[simp] theorem State.answered_layTime (c : Nat) : (s.answered o code result body).layTime c = s.layTime c := rfl
@[simp] theorem State.answered_settleTime (c : Nat) : (s.answered o code result body).settleTime c = s.settleTime c := rfl
@[simp] theorem State.answered_angleTime (c : Nat) : (s.answered o code result body).angleTime c = s.angleTime c := rfl
@[simp] theorem State.answered_calibration (b k : Nat) : (s.answered o code result body).calibration b k = s.calibration b k := rfl
@[simp] theorem State.answered_gateTime : (s.answered o code result body).gateTime = s.gateTime := rfl
@[simp] theorem State.answered_cameraReadyTime : (s.answered o code result body).cameraReadyTime = s.cameraReadyTime := rfl
@[simp] theorem State.answered_cameraConfirmTime : (s.answered o code result body).cameraConfirmTime = s.cameraConfirmTime := rfl
@[simp] theorem State.answered_pickConfirmTime : (s.answered o code result body).pickConfirmTime = s.pickConfirmTime := rfl
@[simp] theorem State.answered_previewCap : (s.answered o code result body).previewCap = s.previewCap := rfl
@[simp] theorem State.answered_frame (k : Nat) : (s.answered o code result body).frame k = s.frame k := rfl
@[simp] theorem State.answered_slotCameras : (s.answered o code result body).slotCameras = s.slotCameras := rfl
@[simp] theorem State.answered_lightOwner : (s.answered o code result body).lightOwner = s.lightOwner := rfl
@[simp] theorem State.answered_effectiveClass : (s.answered o code result body).effectiveClass = s.effectiveClass := rfl
@[simp] theorem State.answered_doneCount : (s.answered o code result body).doneCount = s.doneCount := rfl
end answeredViews

section flushViews
variable (s : State)
@[simp] theorem State.flush_entry (k : Nat) : s.flush.entry k = s.entry k := rfl
@[simp] theorem State.flush_leaf (k l : Nat) : s.flush.leaf k l = s.leaf k l := rfl
@[simp] theorem State.flush_mountedSlot : s.flush.mountedSlot = s.mountedSlot := rfl
@[simp] theorem State.flush_mountedVolume : s.flush.mountedVolume = s.mountedVolume := rfl
@[simp] theorem State.flush_mountedLeafCount : s.flush.mountedLeafCount = s.mountedLeafCount := rfl
@[simp] theorem State.flush_angleLimit : s.flush.angleLimit = s.angleLimit := rfl
@[simp] theorem State.flush_visible : s.flush.visible = s.visible := rfl
@[simp] theorem State.flush_faceAtBudget : s.flush.faceAtBudget = s.faceAtBudget := rfl
@[simp] theorem State.flush_word (k : Nat) : s.flush.word k = s.word k := rfl
@[simp] theorem State.flush_setting (k : Nat) : s.flush.setting k = s.setting k := rfl
@[simp] theorem State.flush_airLevel (c : Nat) : s.flush.airLevel c = s.airLevel c := rfl
@[simp] theorem State.flush_carrySpeed (c : Nat) : s.flush.carrySpeed c = s.carrySpeed c := rfl
@[simp] theorem State.flush_retries (c : Nat) : s.flush.retries c = s.retries c := rfl
@[simp] theorem State.flush_liftTime (c : Nat) : s.flush.liftTime c = s.liftTime c := rfl
@[simp] theorem State.flush_carryTime (c : Nat) : s.flush.carryTime c = s.carryTime c := rfl
@[simp] theorem State.flush_layTime (c : Nat) : s.flush.layTime c = s.layTime c := rfl
@[simp] theorem State.flush_settleTime (c : Nat) : s.flush.settleTime c = s.settleTime c := rfl
@[simp] theorem State.flush_angleTime (c : Nat) : s.flush.angleTime c = s.angleTime c := rfl
@[simp] theorem State.flush_calibration (b k : Nat) : s.flush.calibration b k = s.calibration b k := rfl
@[simp] theorem State.flush_gateTime : s.flush.gateTime = s.gateTime := rfl
@[simp] theorem State.flush_cameraReadyTime : s.flush.cameraReadyTime = s.cameraReadyTime := rfl
@[simp] theorem State.flush_cameraConfirmTime : s.flush.cameraConfirmTime = s.cameraConfirmTime := rfl
@[simp] theorem State.flush_pickConfirmTime : s.flush.pickConfirmTime = s.pickConfirmTime := rfl
@[simp] theorem State.flush_previewCap : s.flush.previewCap = s.previewCap := rfl
@[simp] theorem State.flush_frame (k : Nat) : s.flush.frame k = s.frame k := rfl
@[simp] theorem State.flush_slotCameras : s.flush.slotCameras = s.slotCameras := rfl
@[simp] theorem State.flush_lightOwner : s.flush.lightOwner = s.lightOwner := rfl
@[simp] theorem State.flush_effectiveClass : s.flush.effectiveClass = s.effectiveClass := rfl
@[simp] theorem State.flush_doneCount : s.flush.doneCount = s.doneCount := rfl
end flushViews

end Sys2Proof.Machine
end

