-- ==== Sys2Proof/Laws/Sweeping.lean ====
section
/-! SUPPORT. Laws.Sweeping: the frame of every operation of Sweeping: which blocks it leaves as they were. -/

namespace Sys2Proof.Machine

@[simp] theorem State.lightUp_only (bank level : Nat) (owner : LightOwner) (s : State) :
    (s.lightUp bank level owner).station = s.station ∧ (s.lightUp bank level owner).settings = s.settings ∧ (s.lightUp bank level owner).custody = s.custody ∧
    (s.lightUp bank level owner).cradle = s.cradle ∧ (s.lightUp bank level owner).gauge = s.gauge ∧ (s.lightUp bank level owner).guards = s.guards ∧
    (s.lightUp bank level owner).frames = s.frames ∧ (s.lightUp bank level owner).walker = s.walker ∧ (s.lightUp bank level owner).links = s.links ∧
    (s.lightUp bank level owner).outbox = s.outbox ∧ (s.lightUp bank level owner).pending = s.pending := by
  simp [State.lightUp]

@[simp] theorem State.putOut_only (s : State) :
    s.putOut.station = s.station ∧ s.putOut.settings = s.settings ∧ s.putOut.custody = s.custody ∧
    s.putOut.cradle = s.cradle ∧ s.putOut.gauge = s.gauge ∧ s.putOut.guards = s.guards ∧
    s.putOut.frames = s.frames ∧ s.putOut.walker = s.walker ∧ s.putOut.links = s.links ∧
    s.putOut.outbox = s.outbox ∧ s.putOut.pending = s.pending := by
  simp only [State.putOut]; (repeat' split) <;> simp

@[simp] theorem State.endPreview_only (cause : PreviewEnd) (s : State) :
    (s.endPreview cause).station = s.station ∧ (s.endPreview cause).settings = s.settings ∧ (s.endPreview cause).custody = s.custody ∧
    (s.endPreview cause).cradle = s.cradle ∧ (s.endPreview cause).gauge = s.gauge ∧ (s.endPreview cause).guards = s.guards ∧
    (s.endPreview cause).frames = s.frames ∧ (s.endPreview cause).walker = s.walker ∧ (s.endPreview cause).links = s.links ∧
    (s.endPreview cause).outbox = s.outbox ∧ (s.endPreview cause).pending = s.pending := by
  simp only [State.endPreview]; (repeat' split) <;> simp

@[simp] theorem State.onFrame_only (index : Nat) (f : Descriptor → Descriptor) (s : State) :
    (s.onFrame index f).station = s.station ∧ (s.onFrame index f).settings = s.settings ∧ (s.onFrame index f).custody = s.custody ∧
    (s.onFrame index f).cradle = s.cradle ∧ (s.onFrame index f).gauge = s.gauge ∧ (s.onFrame index f).guards = s.guards ∧
    (s.onFrame index f).lights = s.lights ∧ (s.onFrame index f).meter = s.meter ∧ (s.onFrame index f).walker = s.walker ∧
    (s.onFrame index f).links = s.links ∧ (s.onFrame index f).outbox = s.outbox ∧ (s.onFrame index f).pending = s.pending := by
  simp [State.onFrame]

@[simp] theorem State.onEach_only (indices : List Nat) (f : Descriptor → Descriptor) (s : State) :
    (s.onEach indices f).station = s.station ∧ (s.onEach indices f).settings = s.settings ∧ (s.onEach indices f).custody = s.custody ∧
    (s.onEach indices f).cradle = s.cradle ∧ (s.onEach indices f).gauge = s.gauge ∧ (s.onEach indices f).guards = s.guards ∧
    (s.onEach indices f).lights = s.lights ∧ (s.onEach indices f).meter = s.meter ∧ (s.onEach indices f).walker = s.walker ∧
    (s.onEach indices f).links = s.links ∧ (s.onEach indices f).outbox = s.outbox ∧ (s.onEach indices f).pending = s.pending := by
  simp only [State.onEach]
  induction indices generalizing s with
  | nil => simp
  | cons i rest ih => simp only [List.foldl_cons]; have := ih (s.onFrame i f); simp_all

@[simp] theorem State.onSweep_only (f : Sweep → Sweep) (s : State) :
    (s.onSweep f).station = s.station ∧ (s.onSweep f).settings = s.settings ∧ (s.onSweep f).custody = s.custody ∧
    (s.onSweep f).cradle = s.cradle ∧ (s.onSweep f).gauge = s.gauge ∧ (s.onSweep f).guards = s.guards ∧
    (s.onSweep f).lights = s.lights ∧ (s.onSweep f).meter = s.meter ∧ (s.onSweep f).frames = s.frames ∧
    (s.onSweep f).links = s.links ∧ (s.onSweep f).outbox = s.outbox ∧ (s.onSweep f).pending = s.pending := by
  simp [State.onSweep]

@[simp] theorem State.onCounts_only (f : SweepCounts → SweepCounts) (s : State) :
    (s.onCounts f).station = s.station ∧ (s.onCounts f).settings = s.settings ∧ (s.onCounts f).custody = s.custody ∧
    (s.onCounts f).cradle = s.cradle ∧ (s.onCounts f).gauge = s.gauge ∧ (s.onCounts f).guards = s.guards ∧
    (s.onCounts f).lights = s.lights ∧ (s.onCounts f).meter = s.meter ∧ (s.onCounts f).frames = s.frames ∧
    (s.onCounts f).links = s.links ∧ (s.onCounts f).outbox = s.outbox ∧ (s.onCounts f).pending = s.pending := by
  simp [State.onCounts]

@[simp] theorem State.onCamera_only (camera : Camera) (f : CameraPort → CameraPort) (s : State) :
    (s.onCamera camera f).station = s.station ∧ (s.onCamera camera f).settings = s.settings ∧ (s.onCamera camera f).custody = s.custody ∧
    (s.onCamera camera f).cradle = s.cradle ∧ (s.onCamera camera f).gauge = s.gauge ∧ (s.onCamera camera f).guards = s.guards ∧
    (s.onCamera camera f).lights = s.lights ∧ (s.onCamera camera f).meter = s.meter ∧ (s.onCamera camera f).frames = s.frames ∧
    (s.onCamera camera f).links = s.links ∧ (s.onCamera camera f).outbox = s.outbox ∧ (s.onCamera camera f).pending = s.pending := by
  simp [State.onCamera]

@[simp] theorem State.onCameras_only (f : CameraPort → CameraPort) (s : State) :
    (s.onCameras f).station = s.station ∧ (s.onCameras f).settings = s.settings ∧ (s.onCameras f).custody = s.custody ∧
    (s.onCameras f).cradle = s.cradle ∧ (s.onCameras f).gauge = s.gauge ∧ (s.onCameras f).guards = s.guards ∧
    (s.onCameras f).lights = s.lights ∧ (s.onCameras f).meter = s.meter ∧ (s.onCameras f).frames = s.frames ∧
    (s.onCameras f).links = s.links ∧ (s.onCameras f).outbox = s.outbox ∧ (s.onCameras f).pending = s.pending := by
  simp [State.onCameras]

@[simp] theorem State.toStage_only (stage : SlotStage) (state : SweepState) (s : State) :
    (s.toStage stage state).station = s.station ∧ (s.toStage stage state).settings = s.settings ∧ (s.toStage stage state).custody = s.custody ∧
    (s.toStage stage state).cradle = s.cradle ∧ (s.toStage stage state).gauge = s.gauge ∧ (s.toStage stage state).guards = s.guards ∧
    (s.toStage stage state).lights = s.lights ∧ (s.toStage stage state).meter = s.meter ∧ (s.toStage stage state).frames = s.frames ∧
    (s.toStage stage state).links = s.links ∧ (s.toStage stage state).outbox = s.outbox ∧ (s.toStage stage state).pending = s.pending := by
  simp [State.toStage]

@[simp] theorem State.lowerTriggers_only (s : State) :
    s.lowerTriggers.station = s.station ∧ s.lowerTriggers.settings = s.settings ∧ s.lowerTriggers.custody = s.custody ∧
    s.lowerTriggers.cradle = s.cradle ∧ s.lowerTriggers.gauge = s.gauge ∧ s.lowerTriggers.guards = s.guards ∧
    s.lowerTriggers.lights = s.lights ∧ s.lowerTriggers.meter = s.meter ∧ s.lowerTriggers.frames = s.frames ∧
    s.lowerTriggers.links = s.links ∧ s.lowerTriggers.outbox = s.outbox ∧ s.lowerTriggers.pending = s.pending := by
  simp [State.lowerTriggers]

@[simp] theorem State.stopCameraTimers_only (s : State) :
    s.stopCameraTimers.station = s.station ∧ s.stopCameraTimers.settings = s.settings ∧ s.stopCameraTimers.custody = s.custody ∧
    s.stopCameraTimers.cradle = s.cradle ∧ s.stopCameraTimers.gauge = s.gauge ∧ s.stopCameraTimers.guards = s.guards ∧
    s.stopCameraTimers.lights = s.lights ∧ s.stopCameraTimers.meter = s.meter ∧ s.stopCameraTimers.frames = s.frames ∧
    s.stopCameraTimers.links = s.links ∧ s.stopCameraTimers.outbox = s.outbox ∧ s.stopCameraTimers.pending = s.pending := by
  simp [State.stopCameraTimers]

@[simp] theorem State.fillSlot_only (s : State) :
    s.fillSlot.station = s.station ∧ s.fillSlot.settings = s.settings ∧ s.fillSlot.custody = s.custody ∧
    s.fillSlot.cradle = s.cradle ∧ s.fillSlot.gauge = s.gauge ∧ s.fillSlot.guards = s.guards ∧
    s.fillSlot.lights = s.lights ∧ s.fillSlot.meter = s.meter ∧ s.fillSlot.walker = s.walker ∧
    s.fillSlot.links = s.links ∧ s.fillSlot.outbox = s.outbox ∧ s.fillSlot.pending = s.pending := by
  simp only [State.fillSlot]; (repeat' split) <;> simp

@[simp] theorem State.handMeasured_only (s : State) :
    s.handMeasured.station = s.station ∧ s.handMeasured.settings = s.settings ∧ s.handMeasured.custody = s.custody ∧
    s.handMeasured.cradle = s.cradle ∧ s.handMeasured.gauge = s.gauge ∧ s.handMeasured.guards = s.guards ∧
    s.handMeasured.lights = s.lights ∧ s.handMeasured.meter = s.meter ∧ s.handMeasured.walker = s.walker ∧
    s.handMeasured.links = s.links ∧ s.handMeasured.outbox = s.outbox ∧ s.handMeasured.pending = s.pending := by
  simp only [State.handMeasured]; (repeat' split) <;> simp

@[simp] theorem State.completeSlot_only (status : FrameStatus) (s : State) :
    (s.completeSlot status).station = s.station ∧ (s.completeSlot status).settings = s.settings ∧ (s.completeSlot status).custody = s.custody ∧
    (s.completeSlot status).cradle = s.cradle ∧ (s.completeSlot status).gauge = s.gauge ∧ (s.completeSlot status).guards = s.guards ∧
    (s.completeSlot status).lights = s.lights ∧ (s.completeSlot status).meter = s.meter ∧ (s.completeSlot status).walker = s.walker ∧
    (s.completeSlot status).links = s.links ∧ (s.completeSlot status).outbox = s.outbox ∧ (s.completeSlot status).pending = s.pending := by
  simp [State.completeSlot]

@[simp] theorem State.completeOne_only (index : Nat) (status : FrameStatus) (s : State) :
    (s.completeOne index status).station = s.station ∧ (s.completeOne index status).settings = s.settings ∧ (s.completeOne index status).custody = s.custody ∧
    (s.completeOne index status).cradle = s.cradle ∧ (s.completeOne index status).gauge = s.gauge ∧ (s.completeOne index status).guards = s.guards ∧
    (s.completeOne index status).lights = s.lights ∧ (s.completeOne index status).meter = s.meter ∧ (s.completeOne index status).walker = s.walker ∧
    (s.completeOne index status).links = s.links ∧ (s.completeOne index status).outbox = s.outbox ∧ (s.completeOne index status).pending = s.pending := by
  simp [State.completeOne]

@[simp] theorem State.divert_only (s : State) :
    s.divert.station = s.station ∧ s.divert.settings = s.settings ∧ s.divert.custody = s.custody ∧
    s.divert.cradle = s.cradle ∧ s.divert.gauge = s.gauge ∧ s.divert.guards = s.guards ∧
    s.divert.lights = s.lights ∧ s.divert.meter = s.meter ∧ s.divert.links = s.links ∧
    s.divert.outbox = s.outbox ∧ s.divert.pending = s.pending := by
  simp [State.divert]

@[simp] theorem State.refuseSlot_only (s : State) :
    s.refuseSlot.station = s.station ∧ s.refuseSlot.settings = s.settings ∧ s.refuseSlot.custody = s.custody ∧
    s.refuseSlot.cradle = s.cradle ∧ s.refuseSlot.gauge = s.gauge ∧ s.refuseSlot.guards = s.guards ∧
    s.refuseSlot.lights = s.lights ∧ s.refuseSlot.meter = s.meter ∧ s.refuseSlot.links = s.links ∧
    s.refuseSlot.outbox = s.outbox ∧ s.refuseSlot.pending = s.pending := by
  simp [State.refuseSlot]

@[simp] theorem State.tearSlot_only (s : State) :
    s.tearSlot.station = s.station ∧ s.tearSlot.settings = s.settings ∧ s.tearSlot.custody = s.custody ∧
    s.tearSlot.cradle = s.cradle ∧ s.tearSlot.gauge = s.gauge ∧ s.tearSlot.guards = s.guards ∧
    s.tearSlot.links = s.links ∧ s.tearSlot.outbox = s.outbox ∧ s.tearSlot.pending = s.pending := by
  simp only [State.tearSlot]; (repeat' split) <;> simp

@[simp] theorem State.endSweep_only (reason : SweepEnd) (s : State) :
    (s.endSweep reason).station = s.station ∧ (s.endSweep reason).settings = s.settings ∧ (s.endSweep reason).custody = s.custody ∧
    (s.endSweep reason).cradle = s.cradle ∧ (s.endSweep reason).gauge = s.gauge ∧ (s.endSweep reason).guards = s.guards ∧
    (s.endSweep reason).links = s.links ∧ (s.endSweep reason).pending = s.pending := by
  simp only [State.endSweep]; (repeat' split) <;> simp

@[simp] theorem State.sweepTrip_only (reason : SweepEnd) (s : State) :
    (s.sweepTrip reason).station = s.station ∧ (s.sweepTrip reason).settings = s.settings ∧ (s.sweepTrip reason).custody = s.custody ∧
    (s.sweepTrip reason).cradle = s.cradle ∧ (s.sweepTrip reason).gauge = s.gauge ∧ (s.sweepTrip reason).guards = s.guards ∧
    (s.sweepTrip reason).links = s.links ∧ (s.sweepTrip reason).pending = s.pending := by
  simp only [State.sweepTrip]; (repeat' split) <;> simp

@[simp] theorem State.onEachCamera_only (cameras : List Camera) (f : CameraPort → CameraPort) (s : State) :
    (s.onEachCamera cameras f).station = s.station ∧ (s.onEachCamera cameras f).settings = s.settings ∧ (s.onEachCamera cameras f).custody = s.custody ∧
    (s.onEachCamera cameras f).cradle = s.cradle ∧ (s.onEachCamera cameras f).gauge = s.gauge ∧ (s.onEachCamera cameras f).guards = s.guards ∧
    (s.onEachCamera cameras f).lights = s.lights ∧ (s.onEachCamera cameras f).meter = s.meter ∧ (s.onEachCamera cameras f).frames = s.frames ∧
    (s.onEachCamera cameras f).links = s.links ∧ (s.onEachCamera cameras f).outbox = s.outbox ∧ (s.onEachCamera cameras f).pending = s.pending := by
  simp only [State.onEachCamera]
  induction cameras generalizing s with
  | nil => simp
  | cons c rest ih => simp only [List.foldl_cons]; have := ih (s.onCamera c f); simp_all

@[simp] theorem State.pulseEnd_only (s : State) :
    s.pulseEnd.station = s.station ∧ s.pulseEnd.settings = s.settings ∧ s.pulseEnd.custody = s.custody ∧
    s.pulseEnd.cradle = s.cradle ∧ s.pulseEnd.gauge = s.gauge ∧ s.pulseEnd.guards = s.guards ∧
    s.pulseEnd.links = s.links ∧ s.pulseEnd.outbox = s.outbox ∧ s.pulseEnd.pending = s.pending := by
  simp [State.pulseEnd]

@[simp] theorem State.grantLight_only (d : Descriptor) (s : State) :
    (s.grantLight d).station = s.station ∧ (s.grantLight d).settings = s.settings ∧ (s.grantLight d).custody = s.custody ∧
    (s.grantLight d).cradle = s.cradle ∧ (s.grantLight d).gauge = s.gauge ∧ (s.grantLight d).guards = s.guards ∧
    (s.grantLight d).links = s.links ∧ (s.grantLight d).outbox = s.outbox ∧ (s.grantLight d).pending = s.pending := by
  simp [State.grantLight]

@[simp] theorem State.postBudget_only (slot : Nat) (faces : List VisibleFace) (source : BudgetSource) (owner : LightOwner)
    (ending : LightEnd) (s : State) :
    (s.postBudget slot faces source owner ending).station = s.station ∧ (s.postBudget slot faces source owner ending).settings = s.settings ∧ (s.postBudget slot faces source owner ending).custody = s.custody ∧
    (s.postBudget slot faces source owner ending).cradle = s.cradle ∧ (s.postBudget slot faces source owner ending).gauge = s.gauge ∧ (s.postBudget slot faces source owner ending).guards = s.guards ∧
    (s.postBudget slot faces source owner ending).lights = s.lights ∧ (s.postBudget slot faces source owner ending).meter = s.meter ∧ (s.postBudget slot faces source owner ending).frames = s.frames ∧
    (s.postBudget slot faces source owner ending).walker = s.walker ∧ (s.postBudget slot faces source owner ending).links = s.links ∧ (s.postBudget slot faces source owner ending).pending = s.pending := by
  simp only [State.postBudget]
  generalize s.entry slot = e
  induction faces generalizing s with
  | nil => simp
  | cons v rest ih => simp only [List.foldl_cons, ih]; simp

@[simp] theorem State.stopLightAndSweep_only (sweep : SweepEnd) (preview : PreviewEnd) (s : State) :
    (s.stopLightAndSweep sweep preview).station = s.station ∧ (s.stopLightAndSweep sweep preview).settings = s.settings ∧ (s.stopLightAndSweep sweep preview).custody = s.custody ∧
    (s.stopLightAndSweep sweep preview).cradle = s.cradle ∧ (s.stopLightAndSweep sweep preview).gauge = s.gauge ∧ (s.stopLightAndSweep sweep preview).guards = s.guards ∧
    (s.stopLightAndSweep sweep preview).links = s.links ∧ (s.stopLightAndSweep sweep preview).pending = s.pending := by
  simp [State.stopLightAndSweep]

/-! ### The work of the sweep: frames, bookings and light, never the cradle -/

/-- Every block but the Lighting Unit, the Dose Meter, the Frame Queue Manager, the Sweep Walker and the bookings of the
Custody Unit. -/
abbrev State.captureFrame (s t : State) : Prop :=
  t.station = s.station ∧ t.settings = s.settings ∧ t.cradle = s.cradle ∧ t.gauge = s.gauge ∧ t.guards = s.guards ∧
    t.links = s.links ∧ t.pending = s.pending ∧ t.custody.skeleton = s.custody.skeleton

theorem State.captureFrame.trans {s t u : State} (h : s.captureFrame t) (g : t.captureFrame u) : s.captureFrame u := by
  simp_all [State.captureFrame]

theorem State.captureFrame.refl (s : State) : s.captureFrame s := by simp [State.captureFrame]

theorem State.onEntry_captures (s : State) (i : Nat) (f : CustodyEntry → CustodyEntry)
    (h : ∀ e, (f e).unbooked = e.unbooked) : s.captureFrame (s.onEntry i f) := by
  simp only [State.captureFrame, State.skeleton_onEntry _ _ _ h]; simp

theorem State.onLeaf_captures (s : State) (i leaf : Nat) (f : LeafRecord → LeafRecord)
    (h : ∀ r, (f r).unbooked = r.unbooked) : s.captureFrame (s.onLeaf i leaf f) := by
  simp only [State.captureFrame, State.skeleton_onLeaf _ _ _ _ h]; simp [State.onLeaf, State.onLeaves]

theorem State.onFace_captures (s : State) (slot : Nat) (face : Face) (f : FaceRecord → FaceRecord)
    (h : ∀ r, (f r).coverage = r.coverage) : s.captureFrame (s.onFace slot face f) := by
  unfold State.onFace
  split
  · exact State.onLeaf_captures _ _ _ _ fun r => by simp [LeafRecord.unbooked, LeafRecord.onSide, h]
  · exact State.onLeaf_captures _ _ _ _ fun r => by simp [LeafRecord.unbooked, LeafRecord.onSide, h]
  · exact .refl s

/-- What a booking of the Custody Unit leaves as it was. -/
theorem State.onFace_only (slot : Nat) (face : Face) (f : FaceRecord → FaceRecord) (s : State) :
    (s.onFace slot face f).lights = s.lights ∧ (s.onFace slot face f).meter = s.meter ∧
      (s.onFace slot face f).frames = s.frames ∧ (s.onFace slot face f).walker = s.walker ∧
      (s.onFace slot face f).outbox = s.outbox := by
  unfold State.onFace; split <;> simp [State.onLeaf, State.onLeaves]

@[simp] theorem State.bookFrame_captures (slot : Nat) (face : Face) (s : State) : s.captureFrame (s.bookFrame slot face) := by
  refine (State.onEntry_captures _ _ _ ?_).trans (State.onFace_captures _ _ _ _ ?_) <;> simp [CustodyEntry.unbooked]

@[simp] theorem State.releaseFrame_captures (slot : Nat) (face : Face) (s : State) : s.captureFrame (s.releaseFrame slot face) := by
  refine (State.onEntry_captures _ _ _ ?_).trans (State.onFace_captures _ _ _ _ ?_) <;> simp [CustodyEntry.unbooked]

@[simp] theorem State.bookFrame_only (slot : Nat) (face : Face) (s : State) :
    (s.bookFrame slot face).lights = s.lights ∧ (s.bookFrame slot face).meter = s.meter ∧
      (s.bookFrame slot face).frames = s.frames ∧ (s.bookFrame slot face).walker = s.walker ∧
      (s.bookFrame slot face).outbox = s.outbox := by
  simp [State.bookFrame, State.onFace_only]

@[simp] theorem State.releaseFrame_only (slot : Nat) (face : Face) (s : State) :
    (s.releaseFrame slot face).lights = s.lights ∧ (s.releaseFrame slot face).meter = s.meter ∧
      (s.releaseFrame slot face).frames = s.frames ∧ (s.releaseFrame slot face).walker = s.walker ∧
      (s.releaseFrame slot face).outbox = s.outbox := by
  simp [State.releaseFrame, State.onFace_only]

/-- The charge of one face after the other. -/
theorem State.foldCharge_captures (slot charge : Nat) (faces : List VisibleFace) (s : State) :
    s.captureFrame (faces.foldl (fun s v => s.onLeaf slot v.leaf (LeafRecord.onSide v.side fun r =>
      { r with dose := r.dose + charge })) s) := by
  induction faces generalizing s with
  | nil => exact .refl s
  | cons v rest ih =>
    refine (State.onLeaf_captures _ _ _ _ fun r => ?_).trans (ih _)
    cases v with | mk leaf side => cases side <;> rfl

@[simp] theorem State.chargeFaces_captures (charge : Nat) (s : State) : s.captureFrame (s.chargeFaces charge) := by
  unfold State.chargeFaces
  split
  · exact .refl s
  · exact (State.foldCharge_captures _ _ _ _).trans (State.onEntry_captures _ _ _ fun _ => by simp [CustodyEntry.unbooked])

@[simp] theorem State.onLeaf_only (slot leaf : Nat) (f : LeafRecord → LeafRecord) (s : State) :
    (s.onLeaf slot leaf f).lights = s.lights ∧ (s.onLeaf slot leaf f).meter = s.meter ∧
      (s.onLeaf slot leaf f).frames = s.frames ∧ (s.onLeaf slot leaf f).walker = s.walker ∧
      (s.onLeaf slot leaf f).outbox = s.outbox := by
  simp [State.onLeaf, State.onLeaves]

theorem State.foldCharge_only (slot charge : Nat) (faces : List VisibleFace) (s : State) :
    let t := faces.foldl (fun s v => s.onLeaf slot v.leaf (LeafRecord.onSide v.side fun r =>
      { r with dose := r.dose + charge })) s
    t.lights = s.lights ∧ t.meter = s.meter ∧ t.frames = s.frames ∧ t.walker = s.walker ∧ t.outbox = s.outbox := by
  induction faces generalizing s with
  | nil => simp
  | cons v rest ih =>
    have h := ih (s.onLeaf slot v.leaf (LeafRecord.onSide v.side fun r => { r with dose := r.dose + charge }))
    simp only [State.onLeaf_only] at h
    exact h

@[simp] theorem State.chargeFaces_only (charge : Nat) (s : State) :
    (s.chargeFaces charge).lights = s.lights ∧ (s.chargeFaces charge).meter = s.meter ∧
      (s.chargeFaces charge).frames = s.frames ∧ (s.chargeFaces charge).walker = s.walker ∧
      (s.chargeFaces charge).outbox = s.outbox := by
  unfold State.chargeFaces
  split
  · simp
  · next slot _ => simpa using State.foldCharge_only slot charge s.visible s

@[simp] theorem State.takeFromFree_captures (volume : VolumeName) (opening : Nat) (camera : Camera) (face : Face) (entry : Nat)
    (e : PlanEntry) (s : State) : s.captureFrame (s.takeFromFree volume opening camera face entry e) := by
  unfold State.takeFromFree
  split
  · exact .refl s
  · simp [State.captureFrame]

@[simp] theorem State.takeFromFree_only (volume : VolumeName) (opening : Nat) (camera : Camera) (face : Face) (entry : Nat)
    (e : PlanEntry) (s : State) :
    (s.takeFromFree volume opening camera face entry e).lights = s.lights ∧
      (s.takeFromFree volume opening camera face entry e).meter = s.meter ∧
      (s.takeFromFree volume opening camera face entry e).outbox = s.outbox := by
  unfold State.takeFromFree; split <;> simp

theorem State.foldTake_captures (volume : VolumeName) (n l entry : Nat) (e : PlanEntry) (cameras : List Camera)
    (s : State) :
    let t := cameras.foldl (fun s camera => s.takeFromFree volume n camera (faceSeen l n camera) entry e) s
    s.captureFrame t ∧ t.lights = s.lights ∧ t.meter = s.meter ∧ t.outbox = s.outbox := by
  induction cameras generalizing s with
  | nil => exact ⟨.refl s, rfl, rfl, rfl⟩
  | cons c rest ih =>
    have h := ih (s.takeFromFree volume n c (faceSeen l n c) entry e)
    exact ⟨(State.takeFromFree_captures ..).trans h.1, by simpa using h.2⟩

@[simp] theorem State.buildEntry_captures (index : Nat) (s : State) : s.captureFrame (s.buildEntry index) := by
  unfold State.buildEntry
  split
  · exact (State.foldTake_captures ..).1
  · exact .refl s

@[simp] theorem State.buildEntry_only (index : Nat) (s : State) :
    (s.buildEntry index).lights = s.lights ∧ (s.buildEntry index).meter = s.meter ∧
      (s.buildEntry index).outbox = s.outbox := by
  unfold State.buildEntry
  split
  · exact (State.foldTake_captures ..).2
  · exact ⟨rfl, rfl, rfl⟩

@[simp] theorem State.returnToFree_captures (index : Nat) (s : State) : s.captureFrame (s.returnToFree index) := by
  unfold State.returnToFree
  exact State.captureFrame.trans (by simp [State.captureFrame]) (State.releaseFrame_captures ..)

@[simp] theorem State.returnToFree_only (index : Nat) (s : State) :
    (s.returnToFree index).lights = s.lights ∧ (s.returnToFree index).meter = s.meter ∧
      (s.returnToFree index).walker = s.walker ∧ (s.returnToFree index).outbox = s.outbox := by
  simp [State.returnToFree]

theorem State.nextBuild_captures (start : State → State) (h : ∀ s : State, s.captureFrame (start s)) (s : State) :
    s.captureFrame (s.nextBuild start) := by
  unfold State.nextBuild
  dsimp only
  split
  · refine State.captureFrame.trans ?_ (h _)
    simp [State.captureFrame]
  · simp [State.captureFrame]

theorem State.endSweep_captures (reason : SweepEnd) (s : State) : s.captureFrame (s.endSweep reason) := by
  simp [State.captureFrame]

theorem State.onSweep_captures (f : Sweep → Sweep) (s : State) : s.captureFrame (s.onSweep f) := by
  simp [State.captureFrame]

@[simp] theorem State.runOut_only (reason : SweepEnd) (s : State) :
    (s.runOut reason).station = s.station ∧ (s.runOut reason).settings = s.settings ∧
      (s.runOut reason).custody = s.custody ∧ (s.runOut reason).cradle = s.cradle ∧ (s.runOut reason).gauge = s.gauge ∧
      (s.runOut reason).guards = s.guards ∧ (s.runOut reason).links = s.links ∧
      (s.runOut reason).pending = s.pending := by
  simp [State.runOut]

@[simp] theorem State.countStart_only (lit : Bool) (s : State) :
    (s.countStart lit).station = s.station ∧ (s.countStart lit).settings = s.settings ∧
      (s.countStart lit).custody = s.custody ∧ (s.countStart lit).cradle = s.cradle ∧
      (s.countStart lit).gauge = s.gauge ∧ (s.countStart lit).guards = s.guards ∧
      (s.countStart lit).lights = s.lights ∧ (s.countStart lit).meter = s.meter ∧
      (s.countStart lit).frames = s.frames ∧ (s.countStart lit).links = s.links ∧
      (s.countStart lit).outbox = s.outbox ∧ (s.countStart lit).pending = s.pending := by
  simp only [State.countStart]; split <;> simp

theorem State.buildOrEnd_captures (start : State → State) (h : ∀ s : State, s.captureFrame (start s)) (s : State) :
    s.captureFrame (s.buildOrEnd start) := by
  unfold State.buildOrEnd
  split
  · simp [State.captureFrame]
  · exact State.nextBuild_captures _ h _

theorem State.goOn_captures (start : State → State) (h : ∀ s : State, s.captureFrame (start s)) (lit : Bool) (s : State) :
    s.captureFrame (s.goOn start lit) := by
  unfold State.goOn
  split
  · exact State.endSweep_captures _ _
  · refine (State.onSweep_captures (fun w => { w with state := .walking, stage := none }) s).trans ?_
    have hc : ∀ s : State, s.captureFrame (s.countStart lit) := fun s => by simp [State.captureFrame]
    unfold State.goOnByMode
    split
    · split
      · simp [State.captureFrame]
      · exact h _
    · split
      · simp [State.captureFrame]
      · exact (hc _).trans (State.buildOrEnd_captures _ h _)
    · exact (hc _).trans (State.buildOrEnd_captures _ h _)

theorem State.requestLight_captures (next : State → State) (h : ∀ s : State, s.captureFrame (next s)) (s : State) :
    s.captureFrame (s.requestLight next) := by
  unfold State.requestLight
  refine State.captureFrame.trans (t := s.onCameras fun p => { p with readyTimer := none }) (by simp [State.captureFrame]) ?_
  dsimp only
  split
  · exact .refl _
  · split
    · simp [State.captureFrame]
    · refine State.captureFrame.trans ?_ (h _)
      simp [State.captureFrame]

theorem State.awaitCameras_captures (next : State → State) (h : ∀ s : State, s.captureFrame (next s)) (s : State) :
    s.captureFrame (s.awaitCameras next) := by
  unfold State.awaitCameras
  refine State.captureFrame.trans (t := s.toStage .waitCamera .waitCamera) (by simp [State.captureFrame]) ?_
  dsimp only
  split
  · exact State.requestLight_captures _ h _
  · simp [State.captureFrame]

theorem State.startExposure_captures (bound : Nat) (s : State) : s.captureFrame (s.startExposure bound) := by
  induction bound generalizing s with
  | zero => exact .refl s
  | succ bound ih =>
    unfold State.startExposure
    refine State.captureFrame.trans (t := s.fillSlot) (by simp [State.captureFrame]) ?_
    dsimp only
    split
    · exact .refl _
    · split
      · exact State.awaitCameras_captures _ (fun s => State.goOn_captures _ ih _ s) _
      · refine State.captureFrame.trans ?_ (State.goOn_captures _ ih _ _)
        simp [State.captureFrame]

@[simp] theorem State.start_captures (s : State) : s.captureFrame s.start := State.startExposure_captures _ _

@[simp] theorem State.slotEmptied_captures (lit : Bool) (s : State) : s.captureFrame (s.slotEmptied lit) :=
  State.goOn_captures _ State.start_captures _ _

@[simp] theorem State.tryPendingBuild_captures (s : State) : s.captureFrame s.tryPendingBuild := by
  unfold State.tryPendingBuild
  split
  · exact State.nextBuild_captures _ State.start_captures _
  · exact .refl s

@[simp] theorem State.cutExposure_captures (s : State) : s.captureFrame s.cutExposure := by
  unfold State.cutExposure
  simp [State.captureFrame]

@[simp] theorem State.goOnIfEmpty_captures (s : State) : s.captureFrame s.goOnIfEmpty := by
  unfold State.goOnIfEmpty
  split
  · exact State.slotEmptied_captures _ _
  · exact .refl s

@[simp] theorem State.meterExpiry_captures (raw : Nat) (s : State) : s.captureFrame (s.meterExpiry raw) := by
  unfold State.meterExpiry
  split
  · exact .refl s
  · exact .refl s
  · extract_lets irradiance charge budget below s1 crossed reached
    have h1 : s.captureFrame s1 := by simp [State.captureFrame, s1]
    refine h1.trans ?_
    split
    · split
      · simp [State.captureFrame]
      split
      · simp [State.captureFrame]
      · exact .refl _
    · split <;> simp [State.captureFrame]

@[simp] theorem State.budgetChanged_captures (slot : Nat) (s : State) : s.captureFrame (s.budgetChanged slot) := by
  unfold State.budgetChanged
  dsimp only
  split
  · exact .refl s
  · split
    · exact .refl s
    · simp [State.captureFrame]
  · split <;> simp [State.captureFrame]

@[simp] theorem State.readyTaken_captures (camera : Camera) (s : State) : s.captureFrame (s.readyTaken camera) := by
  unfold State.readyTaken
  split
  · exact State.requestLight_captures _ (State.slotEmptied_captures _) _
  · exact .refl s

@[simp] theorem State.doneTaken_captures (camera : Camera) (s : State) : s.captureFrame (s.doneTaken camera) := by
  unfold State.doneTaken
  dsimp only
  split
  · simp [State.captureFrame]
  · simp [State.captureFrame]

@[simp] theorem State.readyTimeout_captures (camera : Camera) (s : State) : s.captureFrame (s.readyTimeout camera) := by
  unfold State.readyTimeout
  split
  · simp [State.captureFrame]
  · exact .refl s

@[simp] theorem State.confirmTimeout_captures (camera : Camera) (s : State) : s.captureFrame (s.confirmTimeout camera) := by
  unfold State.confirmTimeout
  split
  · exact .refl s
  · dsimp only
    split
    · exact .refl _
    · simp [State.captureFrame]


end Sys2Proof.Machine
end

