-- ==== Sys2Proof/Laws/Frames.lean ====
section
/-! SUPPORT. Laws.Frames: every move between the holders keeps each descriptor in exactly one of them (R128);
the end of a sweep that tears, whole (R157). -/

namespace Sys2Proof.Machine

theorem perm_move {l : List Nat} {i : Nat} (hn : l.Nodup) (hi : i ∈ l) : (l.filter (· ≠ i) ++ [i]).Perm l := by
  have h : l.filter (· ≠ i) = l.erase i := by rw [hn.erase_eq_filter]; congr 1; funext x; by_cases hx : x = i <;> simp [hx]
  rw [h]
  exact (List.perm_append_singleton i (l.erase i)).trans (List.perm_cons_erase hi).symm

theorem Frames.whole_nodup {f : Frames} (h : f.whole) :
    (f.free ++ f.planned ++ f.slot ++ f.completed ++ f.verdict).Nodup := h.nodup_iff.2 List.nodup_range

theorem Frames.whole_slot_nodup {f : Frames} (h : f.whole) : f.slot.Nodup := by
  have := Frames.whole_nodup h; simp [List.nodup_append] at this; tauto

theorem Frames.whole_verdict_nodup {f : Frames} (h : f.whole) : f.verdict.Nodup := by
  have := Frames.whole_nodup h; simp [List.nodup_append] at this; tauto

theorem Frames.whole_lt {f : Frames} (h : f.whole) {i : Nat}
    (hi : i ∈ f.free ∨ i ∈ f.planned ∨ i ∈ f.slot ∨ i ∈ f.completed ∨ i ∈ f.verdict) : i < 256 := by
  have := (h.mem_iff (a := i)).1 (by simp; tauto)
  simpa using this

/-- Rewrites of descriptors move none. -/
theorem State.onFrame_holders (index : Nat) (f : Descriptor → Descriptor) (s : State) :
    (s.onFrame index f).frames.free = s.frames.free ∧ (s.onFrame index f).frames.planned = s.frames.planned ∧
      (s.onFrame index f).frames.slot = s.frames.slot ∧ (s.onFrame index f).frames.completed = s.frames.completed ∧
      (s.onFrame index f).frames.verdict = s.frames.verdict := by
  simp [State.onFrame]

@[simp] theorem State.onEach_holders (indices : List Nat) (f : Descriptor → Descriptor) (s : State) :
    (s.onEach indices f).frames.free = s.frames.free ∧ (s.onEach indices f).frames.planned = s.frames.planned ∧
      (s.onEach indices f).frames.slot = s.frames.slot ∧ (s.onEach indices f).frames.completed = s.frames.completed ∧
      (s.onEach indices f).frames.verdict = s.frames.verdict := by
  simp only [State.onEach]
  induction indices generalizing s with
  | nil => simp
  | cons i rest ih =>
    have h := ih (s.onFrame i f)
    simp only [State.onFrame_holders] at h
    exact h

theorem State.onEach_whole (indices : List Nat) (f : Descriptor → Descriptor) (s : State) :
    (s.onEach indices f).frames.whole ↔ s.frames.whole := by simp [Frames.whole]

theorem State.takeFromFree_whole (volume : VolumeName) (opening : Nat) (camera : Camera) (face : Face) (entry : Nat)
    (e : PlanEntry) (s : State) (h : s.frames.whole) : (s.takeFromFree volume opening camera face entry e).frames.whole := by
  unfold State.takeFromFree
  split
  · exact h
  · next index rest hf =>
    simp only [State.onCounts_only, State.bookFrame_only, State.onFrames_frames, State.onFrame_holders]
    refine List.Perm.trans ?_ h
    simp only [State.onFrame, State.onFrames_frames, hf, List.perm_iff_count]
    intro a; simp [List.count_cons]; omega

theorem State.foldTake_whole (volume : VolumeName) (n l entry : Nat) (e : PlanEntry) (cameras : List Camera)
    (s : State) (h : s.frames.whole) :
    (cameras.foldl (fun s camera => s.takeFromFree volume n camera (faceSeen l n camera) entry e) s).frames.whole := by
  induction cameras generalizing s with
  | nil => exact h
  | cons c rest ih => exact ih _ (State.takeFromFree_whole _ _ _ _ _ _ _ h)

theorem State.buildEntry_whole (index : Nat) (s : State) (h : s.frames.whole) : (s.buildEntry index).frames.whole := by
  unfold State.buildEntry
  split
  · exact State.foldTake_whole _ _ _ _ _ _ _ h
  · exact h

theorem State.fillSlot_whole (s : State) (h : s.frames.whole) : s.fillSlot.frames.whole := by
  unfold State.fillSlot
  split
  · exact h
  · exact h
  · next hs hp =>
    refine List.Perm.trans ?_ h
    simp only [State.onFrames_frames, hs, hp, List.perm_iff_count]
    intro a; simp
  · next hs hp =>
    split <;>
    · refine List.Perm.trans ?_ h
      simp only [State.onFrames_frames, hs, hp, List.perm_iff_count]
      intro x; simp [List.count_cons]; try omega

theorem State.completeSlot_whole (status : FrameStatus) (s : State) (h : s.frames.whole) :
    (s.completeSlot status).frames.whole := by
  refine List.Perm.trans ?_ h
  simp only [State.completeSlot, State.onFrames_frames, State.onEach_holders, List.perm_iff_count]
  intro a; simp; omega

theorem State.completeOne_whole (index : Nat) (status : FrameStatus) (s : State) (h : s.frames.whole)
    (hi : index ∈ s.frames.slot) : (s.completeOne index status).frames.whole := by
  refine List.Perm.trans ?_ h
  have hm := perm_move (Frames.whole_slot_nodup h) hi
  rw [List.perm_iff_count] at hm ⊢
  intro a
  have := hm a
  simp only [State.completeOne, State.onFrames_frames, State.onFrame_holders, List.count_append] at *
  omega

theorem State.divert_whole (s : State) (h : s.frames.whole) : s.divert.frames.whole := by
  refine List.Perm.trans ?_ h
  simp only [State.divert, State.onCounts_only, State.onFrames_frames, State.onEach_holders, List.perm_iff_count]
  intro a; simp; omega

theorem State.returnToFree_whole (index : Nat) (s : State) (h : s.frames.whole) (hi : index ∈ s.frames.verdict) :
    (s.returnToFree index).frames.whole := by
  refine List.Perm.trans ?_ h
  have hm := perm_move (Frames.whole_verdict_nodup h) hi
  rw [List.perm_iff_count] at hm ⊢
  intro a
  have := hm a
  simp only [State.returnToFree, State.releaseFrame_only, State.onFrames_frames, List.count_append] at *
  omega

/-- TAKE FRAMES moves the head of COMPLETED to VERDICT. -/
theorem Frames.take_whole (f : Frames) (k : Nat) (h : f.whole) :
    Frames.whole { f with completed := f.completed.drop k, verdict := f.verdict ++ f.completed.take k } := by
  refine List.Perm.trans ?_ h
  rw [List.perm_iff_count]
  intro a
  have : List.count a f.completed = List.count a (f.completed.take k) + List.count a (f.completed.drop k) := by
    rw [← List.count_append, List.take_append_drop]
  simp; omega

theorem Frames.holder_free (f : Frames) (i : Nat) :
    f.holder i = .free ↔ i ∉ f.planned ∧ i ∉ f.slot ∧ i ∉ f.completed ∧ i ∉ f.verdict := by
  simp only [Frames.holder]; split_ifs <;> simp_all

/-- A RESTART returns every descriptor to FREE. -/
theorem Frames.restart_whole (f : Frames) (h : f.whole) : f.restart.whole := by
  have hn := Frames.whole_nodup h
  have hm : ∀ a, a ∈ f.free ++ f.planned ++ f.slot ++ f.completed ++ f.verdict ↔ a < 256 := fun a => by
    rw [h.mem_iff]; simp
  have ho : ∀ a, a ∈ f.outside ↔ a < 256 ∧ ¬ (a ∉ f.planned ∧ a ∉ f.slot ∧ a ∉ f.completed ∧ a ∉ f.verdict) := fun a => by
    simp [Frames.outside, Frames.holder_free]
  simp only [Frames.whole, Frames.restart, List.append_nil]
  apply (List.perm_ext_iff_of_nodup _ List.nodup_range).2
  · intro a
    have := hm a
    have := ho a
    simp only [List.mem_append, List.mem_range] at *
    tauto
  · rw [List.nodup_append]
    refine ⟨by simp [List.nodup_append] at hn; tauto, List.Nodup.filter _ List.nodup_range, ?_⟩
    intro a ha b hb hab
    subst hab
    rw [ho] at hb
    simp [List.nodup_append] at hn
    have h2 := hn.2.2 a ha a
    tauto

theorem State.nextBuild_whole (start : State → State) (h : ∀ s : State, s.frames.whole → (start s).frames.whole) (s : State)
    (hs : s.frames.whole) : (s.nextBuild start).frames.whole := by
  unfold State.nextBuild
  dsimp only
  split
  · exact h _ (by simpa using State.buildEntry_whole _ _ hs)
  · simpa using hs

theorem State.putOut_frames (s : State) : s.putOut.frames = s.frames := by simp

theorem State.handMeasured_whole (s : State) : s.handMeasured.frames.whole ↔ s.frames.whole :=
  State.onEach_whole _ _ _

theorem State.tearSlot_whole (s : State) (h : s.frames.whole) : s.tearSlot.frames.whole := by
  unfold State.tearSlot
  split
  · exact h
  · dsimp only
    have hm := (State.handMeasured_whole s).2 h
    split <;> simp only [State.onCounts_only] <;> apply State.completeSlot_whole <;> simpa

theorem State.endSweep_whole (reason : SweepEnd) (s : State) (h : s.frames.whole) : (s.endSweep reason).frames.whole := by
  unfold State.endSweep
  simp only [State.post_frames, State.onSweep_only]
  apply State.divert_whole
  split
  · exact State.tearSlot_whole s h
  · exact h

theorem State.sweepTrip_whole (reason : SweepEnd) (s : State) (h : s.frames.whole) : (s.sweepTrip reason).frames.whole := by
  unfold State.sweepTrip
  split
  · exact h
  · exact State.endSweep_whole _ _ h

theorem State.refuseSlot_whole (s : State) (h : s.frames.whole) : s.refuseSlot.frames.whole := by
  simpa [State.refuseSlot] using State.completeSlot_whole _ _ h

theorem State.buildOrEnd_whole (start : State → State) (h : ∀ s : State, s.frames.whole → (start s).frames.whole)
    (s : State) (hs : s.frames.whole) : (s.buildOrEnd start).frames.whole := by
  unfold State.buildOrEnd
  split
  · exact State.endSweep_whole _ _ hs
  · exact State.nextBuild_whole _ h _ hs

theorem State.goOn_whole (start : State → State) (h : ∀ s : State, s.frames.whole → (start s).frames.whole) (lit : Bool)
    (s : State) (hs : s.frames.whole) : (s.goOn start lit).frames.whole := by
  unfold State.goOn
  split
  · exact State.endSweep_whole _ _ hs
  · have hs' : (s.onSweep fun w => { w with state := .walking, stage := none }).frames.whole := by simpa using hs
    have hc : ∀ s : State, s.frames.whole → (s.countStart lit).frames.whole := fun s h => by simpa using h
    unfold State.goOnByMode
    split
    · split
      · exact State.endSweep_whole _ _ hs'
      · exact h _ hs'
    · split
      · exact State.endSweep_whole _ _ (hc _ hs')
      · exact State.buildOrEnd_whole _ h _ (hc _ hs')
    · exact State.buildOrEnd_whole _ h _ (hc _ hs')

theorem State.grantLight_whole (d : Descriptor) (s : State) (h : s.frames.whole) : (s.grantLight d).frames.whole := by
  simp only [State.grantLight, State.onSweep_only, State.toStage_only, State.onEachCamera_only]
  rw [State.onEach_whole]
  simpa using h

theorem State.requestLight_whole (next : State → State) (h : ∀ s : State, s.frames.whole → (next s).frames.whole)
    (s : State) (hs : s.frames.whole) : (s.requestLight next).frames.whole := by
  unfold State.requestLight
  have hs' : (s.onCameras fun p => { p with readyTimer := none }).frames.whole := by simpa using hs
  dsimp only
  split
  · exact hs'
  · split
    · exact State.grantLight_whole _ _ hs'
    · exact h _ (State.refuseSlot_whole _ hs')

theorem State.awaitCameras_whole (next : State → State) (h : ∀ s : State, s.frames.whole → (next s).frames.whole)
    (s : State) (hs : s.frames.whole) : (s.awaitCameras next).frames.whole := by
  unfold State.awaitCameras
  have hs' : (s.toStage .waitCamera .waitCamera).frames.whole := by simpa using hs
  dsimp only
  split
  · exact State.requestLight_whole _ h _ hs'
  · simpa using hs'

theorem State.startExposure_whole (bound : Nat) (s : State) (h : s.frames.whole) : (s.startExposure bound).frames.whole := by
  induction bound generalizing s with
  | zero => exact h
  | succ bound ih =>
    unfold State.startExposure
    have h' := State.fillSlot_whole s h
    dsimp only
    split
    · exact h'
    · split
      · exact State.awaitCameras_whole _ (fun s h => State.goOn_whole _ ih _ s h) _ h'
      · exact State.goOn_whole _ ih _ _ (State.refuseSlot_whole _ h')

theorem State.start_whole (s : State) (h : s.frames.whole) : s.start.frames.whole := State.startExposure_whole _ _ h

theorem State.slotEmptied_whole (lit : Bool) (s : State) (h : s.frames.whole) : (s.slotEmptied lit).frames.whole :=
  State.goOn_whole _ State.start_whole _ _ h

theorem State.tryPendingBuild_whole (s : State) (h : s.frames.whole) : s.tryPendingBuild.frames.whole := by
  unfold State.tryPendingBuild
  split
  · exact State.nextBuild_whole _ State.start_whole _ h
  · exact h

theorem State.goOnIfEmpty_whole (s : State) (h : s.frames.whole) : s.goOnIfEmpty.frames.whole := by
  unfold State.goOnIfEmpty
  split
  · exact State.slotEmptied_whole _ _ h
  · exact h

theorem State.pulseEnd_whole (s : State) (h : s.frames.whole) : s.pulseEnd.frames.whole := by
  simp only [State.pulseEnd, State.toStage_only, State.onEachCamera_only]
  rw [State.onEach_whole]
  simpa [State.handMeasured_whole] using h

theorem State.cutExposure_whole (s : State) (h : s.frames.whole) : s.cutExposure.frames.whole := by
  unfold State.cutExposure
  apply State.slotEmptied_whole
  simp only [State.onCounts_only]
  apply State.completeSlot_whole
  simpa [State.handMeasured_whole] using h

theorem State.meterExpiry_whole (raw : Nat) (s : State) (h : s.frames.whole) : (s.meterExpiry raw).frames.whole := by
  unfold State.meterExpiry
  split
  · exact h
  · exact h
  · extract_lets irradiance charge budget below s1 crossed reached
    have h1 : s1.frames.whole := by simpa [s1] using h
    split
    · split
      · exact State.pulseEnd_whole _ (by simpa using h1)
      split
      · exact State.cutExposure_whole _ (by simpa using h1)
      · exact h1
    · split
      · simpa using h1
      · exact h1

theorem State.budgetChanged_whole (slot : Nat) (s : State) (h : s.frames.whole) : (s.budgetChanged slot).frames.whole := by
  unfold State.budgetChanged
  dsimp only
  split
  · exact h
  · split
    · exact h
    · exact State.cutExposure_whole _ (by simpa using h)
  · split
    · exact h
    · simpa using h

theorem State.confirming_mem {camera : Camera} {s : State} {i : Nat} (h : s.confirming camera = some i) :
    i ∈ s.frames.slot := List.mem_of_find?_eq_some h

theorem State.doneTaken_whole (camera : Camera) (s : State) (h : s.frames.whole) : (s.doneTaken camera).frames.whole := by
  unfold State.doneTaken
  dsimp only
  split
  · simpa using h
  · next i hi =>
    have := State.confirming_mem hi
    apply State.goOnIfEmpty_whole
    simp only [State.onCounts_only]
    apply State.completeOne_whole
    · simpa [State.onFrame] using h
    · simpa [State.onFrame] using this

theorem State.readyTimeout_whole (camera : Camera) (s : State) (h : s.frames.whole) :
    (s.readyTimeout camera).frames.whole := by
  unfold State.readyTimeout
  split
  · apply State.slotEmptied_whole
    simp only [State.onCounts_only]
    apply State.completeSlot_whole
    simpa using h
  · exact h

theorem State.confirmTimeout_whole (camera : Camera) (s : State) (h : s.frames.whole) :
    (s.confirmTimeout camera).frames.whole := by
  unfold State.confirmTimeout
  split
  · exact h
  · dsimp only
    split
    · simpa using h
    · next i hi =>
      have := State.confirming_mem hi
      apply State.goOnIfEmpty_whole
      simp only [State.onCounts_only]
      apply State.completeOne_whole
      · simpa using h
      · simpa using this

theorem State.readyTaken_whole (camera : Camera) (s : State) (h : s.frames.whole) : (s.readyTaken camera).frames.whole := by
  unfold State.readyTaken
  split
  · exact State.requestLight_whole _ (State.slotEmptied_whole _) _ h
  · exact h

theorem State.stopLightAndSweep_whole (sweep : SweepEnd) (preview : PreviewEnd) (s : State) (h : s.frames.whole) :
    (s.stopLightAndSweep sweep preview).frames.whole := by
  simpa [State.stopLightAndSweep] using State.sweepTrip_whole sweep s h

/-! ### The tear, the diversion and the end of a sweep that tears -/


/-- What a rewrite of the descriptors of a list leaves of descriptor `i`. -/
theorem State.frame_onEach (indices : List Nat) (f : Descriptor → Descriptor) (s : State) (i : Nat) (hi : i < 256)
    (hn : indices.Nodup) : (s.onEach indices f).frame i = if i ∈ indices then f (s.frame i) else s.frame i := by
  have one : ∀ (j : Nat) (t : State), (t.onFrame j f).frame i = if j = i then f (t.frame i) else t.frame i := by
    intro j t
    simp only [State.frame, State.onFrame, State.onFrames_frames]
    exact Vec.at_edit _ _ _ _ _ hi
  unfold State.onEach
  induction indices generalizing s with
  | nil => simp
  | cons j rest ih =>
    obtain ⟨hj, hr⟩ := List.nodup_cons.1 hn
    rw [List.foldl_cons, ih _ hr, one]
    by_cases h : j = i
    · subst h; simp [hj]
    · simp [h, Ne.symm h]

/-- The slot and PLANNED of a whole pool name descriptors of the pool, each once and neither the other's. -/
theorem Frames.whole_apart {q : Frames} (h : q.whole) :
    q.slot.Nodup ∧ q.planned.Nodup ∧ (∀ i ∈ q.slot, i ∉ q.planned) ∧ ∀ i, i ∈ q.slot ∨ i ∈ q.planned → i < 256 := by
  have hn := h.nodup_iff.2 List.nodup_range
  have hm : ∀ i, i ∈ q.free ++ q.planned ++ q.slot ++ q.completed ++ q.verdict → i < 256 :=
    fun i hi => List.mem_range.1 (h.mem_iff.1 hi)
  simp only [List.nodup_append, List.mem_append] at hn hm
  refine ⟨hn.1.1.2.1, hn.1.1.1.2.1, fun i hs hp => hn.1.1.2.2 i (.inr hp) i hs rfl, fun i hi => hm i ?_⟩
  tauto

/-- The tear of the slot (R157, step 1): its descriptors TORN with the measured record of a lit exposure, the triggers low,
the camera timers stopped, torn raised; with an empty slot nothing. -/
theorem State.tearSlot_eq (s : State) :
    { s.tearSlot.frames with pool := s.frames.pool } =
        { s.frames with slot := [], completed := s.frames.completed ++ s.frames.slot } ∧
      s.tearSlot.walker =
        { s.walker with
          sweep := { s.walker.sweep with
            counts := { s.walker.sweep.counts with
              torn :=
                if s.frames.slot = [] then s.walker.sweep.counts.torn
                else min 4294967295 (s.walker.sweep.counts.torn + s.frames.slot.length) } }
          left := s.tornPort s.walker.left
          right := s.tornPort s.walker.right } ∧
      (s.frames.slot.Nodup → ∀ i, i < 256 → s.tearSlot.frame i =
        if i ∈ s.frames.slot then
          { s.frame i with
            status := .torn
            measured := if s.lightOwner = some .exposure then s.measuredLight else (s.frame i).measured }
        else s.frame i) := by
  have hm : s.meter.exposure.bind (·.measured) = s.measuredLight := rfl
  have torn : ∀ x : State, x.frames.slot = s.frames.slot → s.frames.slot.Nodup → ∀ i, i < 256 →
      (x.lowerTriggers.stopCameraTimers.completeSlot .torn).frame i =
        if i ∈ s.frames.slot then { x.frame i with status := .torn } else x.frame i := by
    intro x hx hn i hi
    show (State.onEach _ _ x.lowerTriggers.stopCameraTimers).frame i = _
    rw [show x.lowerTriggers.stopCameraTimers.frames.slot = s.frames.slot from hx, State.frame_onEach _ _ _ _ hi hn]
    rfl
  have walker : ∀ x : State, x.frames.slot = s.frames.slot → x.walker = s.walker →
      ((x.lowerTriggers.stopCameraTimers.completeSlot .torn).onCounts fun c =>
        { c with torn := count32 c.torn x.frames.slot.length }).walker =
        { s.walker with
          sweep := { s.walker.sweep with
            counts := { s.walker.sweep.counts with
              torn := min 4294967295 (s.walker.sweep.counts.torn + s.frames.slot.length) } }
          left := { s.walker.left with trigger := false, readyTimer := none, confirmTimer := none }
          right := { s.walker.right with trigger := false, readyTimer := none, confirmTimer := none } } := by
    intro x hx hw
    simp [State.completeSlot, State.onCounts, State.onSweep, State.lowerTriggers, State.stopCameraTimers,
      State.onCameras, count32, satAdd, hx, hw]
  unfold State.tearSlot State.tornPort
  by_cases hs : s.frames.slot = []
  · simp [hs]
  simp only [if_neg hs]
  by_cases ho : s.lightOwner = some .exposure
  · simp only [if_pos ho]
    refine ⟨by simp [State.completeSlot, State.handMeasured],
      walker _ (by simp [State.handMeasured]) (by simp [State.handMeasured]), fun hn i hi => ?_⟩
    refine (torn _ (by simp [State.handMeasured]) hn i hi).trans ?_
    have hp : s.handMeasured.putOut.frame i = s.handMeasured.frame i := by simp [State.frame]
    rw [hp, State.handMeasured, State.frame_onEach _ _ _ _ hi hn, hm]
    split <;> rfl
  · simp only [if_neg ho]
    exact ⟨by simp [State.completeSlot], walker _ rfl rfl, torn _ rfl⟩

/-- The diversion (R133): PLANNED in COMPLETED as WITHDRAWN, withdrawn raised. -/
theorem State.divert_eq (s : State) :
    { s.divert with frames := { s.divert.frames with pool := s.frames.pool } } =
        { s with
          frames := { s.frames with planned := [], completed := s.frames.completed ++ s.frames.planned }
          walker :=
            { s.walker with
              sweep := { s.walker.sweep with
                counts := { s.walker.sweep.counts with
                  withdrawn := min 4294967295 (s.walker.sweep.counts.withdrawn + s.frames.planned.length) } } } } ∧
      (s.frames.planned.Nodup → ∀ i, i < 256 → s.divert.frame i =
        if i ∈ s.frames.planned then { s.frame i with status := .withdrawn } else s.frame i) := by
  refine ⟨?_, fun hn i hi => State.frame_onEach _ _ s i hi hn⟩
  simp [State.divert, State.onCounts, State.onSweep, count32, satAdd, State.onFrames, State.onWalker]

/-- The end of a sweep with a reason that tears, whole (R157, R158). -/
theorem State.endSweep_tears (reason : SweepEnd) (hr : reason.tears = true) (s : State) :
    s.sweepTorn (s.endSweep reason) reason ∧
      (s.endSweep reason).outbox = s.outbox ++ [(s.endSweep reason).walker.sweep.endNotice reason] := by
  obtain ⟨hf, hw, hd⟩ := s.tearSlot_eq
  obtain ⟨hv, hp⟩ := s.tearSlot.divert_eq
  have hfr := congrArg State.frames hv
  have hwk := congrArg State.walker hv
  have hob := congrArg State.outbox hv
  unfold State.endSweep
  rw [if_pos hr]
  have e1 := congrArg Frames.free hf
  have e2 := congrArg Frames.planned hf
  have e3 := congrArg Frames.slot hf
  have e4 := congrArg Frames.completed hf
  have e5 := congrArg Frames.verdict hf
  have d1 := congrArg Frames.free hfr
  have d2 := congrArg Frames.planned hfr
  have d3 := congrArg Frames.slot hfr
  have d4 := congrArg Frames.completed hfr
  have d5 := congrArg Frames.verdict hfr
  simp only at e1 e2 e3 e4 e5 d1 d2 d3 d4 d5 hwk hob
  refine ⟨⟨d1.trans e1, d2, d3.trans e3, ?_, d5.trans e5, fun hwhole => ?_, ?_⟩, ?_⟩
  · exact d4.trans (by rw [e4, e2])
  · obtain ⟨n1, n2, apart, bound⟩ := Frames.whole_apart hwhole
    rw [e2] at hp
    have at_ : ∀ i, i < 256 → s.tearSlot.divert.frame i = _ := hp n2
    refine ⟨fun i hi => ?_, fun i hi => ?_, fun i hi h1 h2 => ?_⟩
    · refine (at_ i (bound i (.inl hi))).trans ?_
      rw [if_neg (apart i hi), hd n1 i (bound i (.inl hi)), if_pos hi]
    · refine (at_ i (bound i (.inr hi))).trans ?_
      rw [if_pos hi, hd n1 i (bound i (.inr hi)), if_neg fun h => apart i h hi]
    · refine (at_ i hi).trans ?_
      rw [if_neg h2, hd n1 i hi, if_neg h1]
  · simp only [State.post, State.onOutbox, State.onSweep, State.onWalker, hwk, hw, e2]
    rfl
  · simp only [State.post, State.onOutbox, State.onSweep, State.onWalker, hob]
    simp [State.tearSlot_only, Sweep.endNotice]

end Sys2Proof.Machine
end

