-- ==== Sys2Proof/Laws/Light.lean ====
section
/-! SUPPORT. Laws.Light: when the station is dark, what puts a light out, and what an end of a sweep that tears does to the
light (R90, R95, R96, R110); when a projection passes (R118). -/

namespace Sys2Proof.Machine

theorem litBank_none {l : Lights} : litBank l.banks = none ↔ l.dark := by
  simp only [litBank, List.findSome?_eq_none_iff, List.mem_range, Lights.dark]
  constructor
  · intro h i hi
    have := h i hi
    cases hb : Vec.at l.banks i .off with
    | off => rfl
    | lit a b => rw [hb] at this; simp at this
  · intro h i hi
    rw [h i hi]

theorem litBank_lit {l : Lights} {bank level : Nat} {owner : LightOwner}
    (h : litBank l.banks = some (bank, level, owner)) : bank < 8 ∧ Vec.at l.banks bank .off = .lit level owner := by
  simp only [litBank] at h
  obtain ⟨i, hi, hb⟩ := List.exists_of_findSome?_eq_some h
  cases hv : Vec.at l.banks i .off with
  | off => rw [hv] at hb; simp at hb
  | lit a b =>
    rw [hv] at hb
    simp only [Option.some.injEq, Prod.mk.injEq] at hb
    obtain ⟨rfl, rfl, rfl⟩ := hb
    exact ⟨by simpa using hi, hv⟩

theorem litBank_of_one {l : Lights} {bank level : Nat} {owner : LightOwner} (h1 : l.oneLit) (hb : bank < 8)
    (hv : Vec.at l.banks bank .off = .lit level owner) : litBank l.banks = some (bank, level, owner) := by
  cases hl : litBank l.banks with
  | none => rw [litBank_none] at hl; rw [hl bank hb] at hv; cases hv
  | some p =>
    obtain ⟨i, a, b⟩ := p
    obtain ⟨hi, hv'⟩ := litBank_lit hl
    have := h1 i hi bank hb (by rw [hv']; rfl) (by rw [hv]; rfl)
    subst this
    rw [hv] at hv'
    cases hv'
    rfl

theorem Lights.dark_one {l : Lights} (h : l.dark) : l.oneLit := by
  intro i hi j _ h1 _
  rw [h i hi] at h1; cases h1

/-- A put-out of a station with one bank lit leaves it dark, and metering IDLE. -/
theorem State.putOut_dark (s : State) (h : s.lights.oneLit) : s.putOut.lights.dark := by
  unfold State.putOut
  split
  · next hn => exact litBank_none.1 hn
  · next bank level owner hl =>
    obtain ⟨hb, hv⟩ := litBank_lit hl
    intro i hi
    simp only [State.onMeter_lights, State.onLights_lights]
    rw [Vec.at_put _ _ _ _ _ hi]
    split
    · rfl
    · next hne =>
      cases hx : Vec.at s.lights.banks i .off with
      | off => rfl
      | lit a b => exact absurd (h bank hb i hi (by rw [hv]; rfl) (by rw [hx]; rfl)) hne

theorem State.putOut_of_dark (s : State) (h : s.lights.dark) : s.putOut = s := by
  unfold State.putOut; rw [litBank_none.2 h]

/-- A put-out stops the metering of a lit bank. -/
theorem State.putOut_running (s : State) (h : s.lights.dark → s.meter.running = none) : s.putOut.meter.running = none := by
  unfold State.putOut
  split
  · next hn => exact h (litBank_none.1 hn)
  · rfl

@[simp] theorem State.putOut_preview (s : State) :
    s.putOut.lights.preview = s.lights.preview ∧ s.putOut.lights.lastEnd = s.lights.lastEnd ∧
      s.putOut.meter.exposure = s.meter.exposure ∧ s.putOut.meter.preview = s.meter.preview := by
  unfold State.putOut; split <;> simp

@[simp] theorem State.endPreview_preview (cause : PreviewEnd) (s : State) :
    (s.endPreview cause).lights.preview = none ∧
      (s.endPreview cause).lights.lastEnd = (if s.lights.preview = none then s.lights.lastEnd else some cause) := by
  unfold State.endPreview
  split <;> simp_all

theorem State.endPreview_none (cause : PreviewEnd) (s : State) (h : s.lights.preview = none) : s.endPreview cause = s := by
  simp [State.endPreview, h]

theorem State.endPreview_dark (cause : PreviewEnd) (s : State) (h : s.lights.preview ≠ none) (h1 : s.lights.oneLit) :
    (s.endPreview cause).lights.dark := by
  unfold State.endPreview
  rw [if_neg h]
  exact State.putOut_dark s h1

theorem State.lightOwner_dark {s : State} (h : s.lights.dark) : s.lightOwner = none := by
  simp [State.lightOwner, litBank_none.2 h]

/-- A preview that is ON is the light of the station. -/
theorem State.LightSafe.preview_owner {s : State} (h : s.LightSafe) (hp : s.lights.preview ≠ none) :
    s.lightOwner = some .preview := by
  obtain ⟨level, hl⟩ := Option.ne_none_iff_exists'.1 hp
  have := (h.preview.1 level).1 hl
  simp [State.lightOwner, litBank_of_one h.one (by omega) this]

theorem State.LightSafe.no_preview {s : State} (h : s.LightSafe) (ho : s.lightOwner ≠ some .preview) :
    s.lights.preview = none := by
  by_contra hp
  exact ho (h.preview_owner hp)

/-- A light of a preview is a preview that is ON. -/
theorem State.LightSafe.owner_preview {s : State} (h : s.LightSafe) (ho : s.lightOwner = some .preview) :
    s.lights.preview ≠ none := by
  simp only [State.lightOwner, Option.map_eq_some_iff] at ho
  obtain ⟨⟨bank, level, owner⟩, hl, rfl⟩ := ho
  obtain ⟨hb, hv⟩ := litBank_lit hl
  have h0 := h.preview.2 bank hb level hv
  subst h0
  rw [(h.preview.1 level).2 hv]
  simp

theorem State.LightSafe.dark_running {s : State} (h : s.LightSafe) (hd : s.lights.dark) : s.meter.running = none := by
  rw [h.metered, litBank_none.2 hd]; rfl

theorem State.LightSafe.dark_preview {s : State} (h : s.LightSafe) (hd : s.lights.dark) : s.lights.preview = none :=
  h.no_preview (by simp [State.lightOwner_dark hd])

/-- With neither owner the station is dark. -/
theorem State.dark_of_owner {s : State} (h : s.lightOwner = none) : s.lights.dark := by
  simp only [State.lightOwner, Option.map_eq_none_iff] at h
  exact litBank_none.1 h

/-- The tear of the slot puts a lit exposure out. -/
theorem State.tearSlot_light (s : State) (h1 : s.lights.oneLit) :
    (s.lightOwner = some .exposure → s.frames.slot ≠ [] → s.tearSlot.lights.dark) ∧
      (s.lightOwner ≠ some .exposure → s.tearSlot.lights = s.lights ∧ s.tearSlot.meter = s.meter) ∧
      s.tearSlot.lights.oneLit ∧ s.tearSlot.lights.preview = s.lights.preview ∧
      s.tearSlot.lights.lastEnd = s.lights.lastEnd := by
  unfold State.tearSlot
  by_cases hs : s.frames.slot = []
  · simp [hs]
    exact h1
  · rw [if_neg hs]
    by_cases ho : s.lightOwner = some .exposure
    · have hd : s.handMeasured.putOut.lights.dark := State.putOut_dark _ (by simpa using h1)
      simp [ho]
      exact ⟨fun _ => hd, Lights.dark_one hd⟩
    · simp [ho]
      exact h1

/-- An end of a sweep that tears, and the end of the preview, leave the station dark. -/
theorem State.stopped_dark (s : State) (h : s.LightSafe) (reason : SweepEnd) (hr : reason.tears = true)
    (cause : PreviewEnd) : ((s.sweepTrip reason).endPreview cause).lights.dark := by
  unfold State.sweepTrip
  split
  · next hi =>
    by_cases hp : s.lights.preview = none
    · rw [State.endPreview_none _ _ hp]
      apply State.dark_of_owner
      cases ho : s.lightOwner with
      | none => rfl
      | some owner =>
        cases owner with
        | exposure => exact absurd hi (h.exposing ho).1
        | preview => exact absurd hp (h.owner_preview ho)
    · exact State.endPreview_dark _ _ hp h.one
  · next hi =>
    have hp : s.lights.preview = none := h.no_preview fun ho => hi (h.framing ho)
    have ht := State.tearSlot_light s h.one
    have he : (s.endSweep reason).lights = s.tearSlot.lights := by simp [State.endSweep, hr]
    have hep : (s.endSweep reason).lights.preview = none := by rw [he, ht.2.2.2.1, hp]
    rw [State.endPreview_none _ _ hep, he]
    by_cases ho : s.lightOwner = some .exposure
    · exact ht.1 ho (h.exposing ho).2.2.1
    · rw [(ht.2.1 ho).1]
      apply State.dark_of_owner
      cases ho' : s.lightOwner with
      | none => rfl
      | some owner =>
        cases owner with
        | exposure => exact absurd ho' ho
        | preview => exact absurd (h.framing ho') hi

/-! ### Projection -/

/-- A projection passes exactly when every visible face stays at or below the budget (R118). -/
theorem State.projection_passes_iff (bank level duration slot : Nat) (s : State) (h : s.mountedSlot = some slot) :
    (s.projection bank level duration).passes = true ↔
      ∀ v ∈ s.visible,
        s.custody.doseOf (s.entry slot) v +
            projectedDose (s.calibration bank 0).toNat level duration (s.calibration bank 3).toNat ≤
          (s.entry slot).budget := by
  simp only [State.projection, h]
  split
  · next hn => simpa [Projection.passes] using hn
  · next v hv =>
    have := List.find?_some hv
    have hm := List.mem_of_find?_eq_some hv
    simp only [decide_eq_true_eq] at this
    simp only [Projection.passes, Bool.false_eq_true, false_iff, not_forall]
    exact ⟨v, hm, by omega⟩

end Sys2Proof.Machine
end

