-- ==== Sys2Proof/Laws/Store.lean ====
section
/-! SUPPORT. Laws.Store: what the operations of the leaf store do: each keeps its canonical form (log 14), and each
leaves every record alone but those it names. -/

namespace Sys2Proof.Machine

/-! ### Reading -/

theorem LeafStore.get_none_of_lt (st : LeafStore) (i : Nat) (h : ∀ p ∈ st, i < p.1) : LeafStore.get st i = none := by
  induction st with
  | nil => rfl
  | cons p rest ih =>
    have h1 := h p (by simp)
    have : p.1 ≠ i := by omega
    simp only [LeafStore.get, this, if_false]
    exact ih fun q hq => h q (by simp [hq])

theorem LeafStore.get_append (a b : LeafStore) (i : Nat) :
    LeafStore.get (a ++ b) i = (LeafStore.get a i).or (LeafStore.get b i) := by
  induction a with
  | nil => simp [LeafStore.get]
  | cons p rest ih =>
    by_cases h : p.1 = i
    · simp [LeafStore.get, h]
    · simp [LeafStore.get, h, ih]

theorem LeafStore.get_filter (st : LeafStore) (keep : Nat → Bool) (i : Nat) :
    LeafStore.get (st.filter fun p => keep p.1) i = if keep i then LeafStore.get st i else none := by
  induction st with
  | nil => simp [LeafStore.get]
  | cons p rest ih =>
    by_cases hk : keep p.1 <;> by_cases h : p.1 = i
    · subst h; simp [LeafStore.get, hk]
    · simp only [hk, List.filter_cons_of_pos, LeafStore.get, h, if_false, ih]
    · subst h; simp [hk, ih]
    · simp only [hk, Bool.false_eq_true, not_false_eq_true, List.filter_cons_of_neg, LeafStore.get, h, if_false, ih]

theorem LeafStore.get_fresh (b l i : Nat) :
    LeafStore.get ((List.range l).map fun k => (b + k, LeafRecord.fresh)) i =
      if b ≤ i ∧ i < b + l then some .fresh else none := by
  induction l with
  | zero => have : ¬ (b ≤ i ∧ i < b + 0) := by omega
            simp [LeafStore.get]
  | succ l ih =>
    rw [List.range_succ, List.map_append, LeafStore.get_append, ih]
    by_cases h : b ≤ i ∧ i < b + l
    · have h2 : b ≤ i ∧ i < b + (l + 1) := by omega
      simp [h, h2]
    · by_cases h3 : i = b + l
      · subst h3
        simp [LeafStore.get]
      · have h4 : ¬ (b ≤ i ∧ i < b + (l + 1)) := by omega
        have h5 : ¬ (b + l = i) := fun e => h3 e.symm
        simp [h, h4, LeafStore.get, h5]

/-- After CHECK IN the records of the extent are as set up, the others as they were (R28, R30). -/
theorem LeafStore.get_allocate (st : LeafStore) (b l i : Nat) :
    LeafStore.get (LeafStore.allocate b l st) i =
      if b ≤ i ∧ i < b + l then some .fresh else LeafStore.get st i := by
  have h1 := LeafStore.get_filter st (fun k => decide (k < b)) i
  have h2 := LeafStore.get_filter st (fun k => decide (b + l ≤ k)) i
  simp only [LeafStore.allocate, LeafStore.get_append, LeafStore.get_fresh]
  rw [h1, h2]
  by_cases h : b ≤ i ∧ i < b + l
  · have h3 : ¬ (i < b) := by omega
    simp [h, h3]
  · by_cases h3 : i < b
    · have h4 : ¬ (b + l ≤ i) := by omega
      have h5 : ¬ (b ≤ i) := by omega
      simp [h3, h4, h5]
    · have h4 : b + l ≤ i := by omega
      simp [h, h3, h4]

/-- After RELEASE the records of the extent are free, the others as they were (R28, R30). -/
theorem LeafStore.get_release (st : LeafStore) (b l i : Nat) :
    LeafStore.get (LeafStore.release b l st) i = if b ≤ i ∧ i < b + l then none else LeafStore.get st i := by
  have h := LeafStore.get_filter st (fun k => decide (k < b) || decide (b + l ≤ k)) i
  simp only [LeafStore.release]
  rw [h]
  by_cases hi : b ≤ i ∧ i < b + l
  · have h1 : ¬ (i < b) := by omega
    have h2 : ¬ (b + l ≤ i) := by omega
    simp [hi, h1, h2]
  · have h1 : i < b ∨ b + l ≤ i := by omega
    simp [hi, h1]

/-- An edit rewrites the record named, if it is in use, and no other. -/
theorem LeafStore.get_edit (st : LeafStore) (k : Nat) (f : LeafRecord → LeafRecord) (i : Nat) :
    LeafStore.get (LeafStore.edit k f st) i =
      if k = i then (LeafStore.get st i).map f else LeafStore.get st i := by
  induction st with
  | nil => simp [LeafStore.edit, LeafStore.get]
  | cons p rest ih =>
    have ih' : LeafStore.get (LeafStore.edit k f rest) i =
      if k = i then (LeafStore.get rest i).map f else LeafStore.get rest i := ih
    by_cases hp : p.1 = k <;> by_cases hi : p.1 = i
    · have : k = i := by omega
      simp [LeafStore.edit, LeafStore.get, hp, this]
    · have hki : ¬ (k = i) := by omega
      have := ih'
      simp only [hki, if_false] at this ⊢
      simp only [LeafStore.edit, List.map_cons, hp, if_true, LeafStore.get, hki, if_false]
      exact this
    · have hki : ¬ (k = i) := by omega
      have hik : ¬ (i = k) := fun e => hki e.symm
      simp [LeafStore.edit, LeafStore.get, hi, hki, hik]
    · simp only [LeafStore.edit, List.map_cons, hp, if_false, LeafStore.get, hi]
      exact ih'

/-! ### The canonical form -/

theorem LeafStore.reset_wf : LeafStore.wf State.reset.custody.leaves := by
  simp [LeafStore.wf, State.reset]

theorem LeafStore.edit_wf (st : LeafStore) (k : Nat) (f : LeafRecord → LeafRecord) (h : LeafStore.wf st) :
    LeafStore.wf (LeafStore.edit k f st) := by
  have hk : (LeafStore.edit k f st).map (·.1) = st.map (·.1) := by
    simp only [LeafStore.edit, List.map_map]
    apply List.map_congr_left
    intro p _
    by_cases hp : p.1 = k <;> simp [hp]
  refine ⟨by rw [hk]; exact h.1, ?_⟩
  intro p hp
  have : p.1 ∈ (LeafStore.edit k f st).map (·.1) := List.mem_map_of_mem hp
  rw [hk, List.mem_map] at this
  obtain ⟨q, hq, e⟩ := this
  rw [← e]
  exact h.2 q hq

theorem LeafStore.filter_wf (st : LeafStore) (keep : Nat × LeafRecord → Bool) (h : LeafStore.wf st) :
    LeafStore.wf (st.filter keep) :=
  ⟨List.Pairwise.sublist (List.Sublist.map _ List.filter_sublist) h.1,
    fun p hp => h.2 p (List.mem_of_mem_filter hp)⟩

theorem LeafStore.release_wf (st : LeafStore) (b l : Nat) (h : LeafStore.wf st) :
    LeafStore.wf (LeafStore.release b l st) := LeafStore.filter_wf st _ h

theorem LeafStore.allocate_wf (st : LeafStore) (b l : Nat) (h : LeafStore.wf st)
    (hb : b + l ≤ Config.leafRecords) : LeafStore.wf (LeafStore.allocate b l st) := by
  have hmem : ∀ p ∈ LeafStore.allocate b l st, p.1 < Config.leafRecords := by
    intro p hp
    simp only [LeafStore.allocate, List.mem_append, List.mem_filter, List.mem_map, List.mem_range] at hp
    rcases hp with (⟨hp, _⟩ | ⟨k, hk, rfl⟩) | ⟨hp, _⟩
    · exact h.2 p hp
    · show b + k < Config.leafRecords
      omega
    · exact h.2 p hp
  refine ⟨?_, hmem⟩
  have hs := h.1
  simp only [LeafStore.allocate, List.map_append, List.pairwise_append]
  refine ⟨⟨(LeafStore.filter_wf st _ h).1, ?_, ?_⟩, (LeafStore.filter_wf st _ h).1, ?_⟩
  · rw [List.map_map]
    have : ((fun p : Nat × LeafRecord => p.1) ∘ fun k => (b + k, LeafRecord.fresh)) = fun k => b + k := rfl
    rw [this, List.pairwise_map]
    exact List.Pairwise.imp (fun h => by omega) List.pairwise_lt_range
  · intro x hx y hy
    simp only [List.mem_map, List.mem_filter, List.mem_range, decide_eq_true_eq] at hx hy
    obtain ⟨p, ⟨_, hp⟩, rfl⟩ := hx
    obtain ⟨q, ⟨k, _, rfl⟩, rfl⟩ := hy
    show p.1 < b + k
    omega
  · intro x hx y hy
    simp only [List.mem_append, List.mem_map, List.mem_filter, List.mem_range, decide_eq_true_eq] at hx hy
    obtain ⟨q, ⟨_, hq⟩, rfl⟩ := hy
    rcases hx with ⟨p, ⟨_, hp⟩, rfl⟩ | ⟨p, ⟨k, hk, rfl⟩, rfl⟩
    · show p.1 < q.1
      omega
    · show b + k < q.1
      omega

theorem Custody.noFrames_wf (c : Custody) (h : LeafStore.wf c.leaves) : LeafStore.wf c.noFrames.leaves := by
  have hk : c.noFrames.leaves.map (·.1) = c.leaves.map (·.1) := by
    simp [Custody.noFrames, List.map_map, Function.comp_def]
  refine ⟨by rw [hk]; exact h.1, ?_⟩
  intro p hp
  have : p.1 ∈ c.noFrames.leaves.map (·.1) := List.mem_map_of_mem hp
  rw [hk, List.mem_map] at this
  obtain ⟨q, hq, e⟩ := this
  rw [← e]
  exact h.2 q hq

/-! ### The search -/

/-- Every run the walk of a canonical store lists lies within the store at or above where it began, and holds at
least one record. -/
theorem freeRunsFrom_bound (st : LeafStore) :
    ∀ b, (st.map (·.1)).Pairwise (· < ·) → (∀ p ∈ st, b ≤ p.1 ∧ p.1 < Config.leafRecords) →
      ∀ run ∈ freeRunsFrom b st, b ≤ run.1 ∧ 1 ≤ run.2 ∧ run.1 + run.2 ≤ Config.leafRecords := by
  induction st with
  | nil =>
    intro b _ _ run hr
    simp only [freeRunsFrom] at hr
    split at hr
    · simp only [List.mem_singleton] at hr
      subst hr
      refine ⟨Nat.le_refl _, ?_, ?_⟩ <;> simp only [Config.leafRecords] at * <;> omega
    · simp at hr
  | cons p rest ih =>
    intro b hs hb run hr
    have hp := hb p (by simp)
    simp only [List.map_cons, List.pairwise_cons] at hs
    have hrest : ∀ q ∈ rest, p.1 + 1 ≤ q.1 ∧ q.1 < Config.leafRecords := fun q hq =>
      ⟨hs.1 q.1 (List.mem_map_of_mem hq), (hb q (by simp [hq])).2⟩
    simp only [freeRunsFrom] at hr
    split at hr
    · simp only [List.mem_cons] at hr
      rcases hr with rfl | hr
      · refine ⟨Nat.le_refl _, ?_, ?_⟩
        · show 1 ≤ p.1 - b
          omega
        · show b + (p.1 - b) ≤ _
          omega
      · have := ih (p.1 + 1) hs.2 hrest run hr
        omega
    · have := ih (p.1 + 1) hs.2 hrest run hr
      omega

/-- The base of a check-in leaves room for its records (R29). -/
theorem firstFit_bound (st : LeafStore) (l b : Nat) (h : LeafStore.wf st) (hf : firstFit l st = some b) :
    b + l ≤ Config.leafRecords := by
  simp only [firstFit, Option.map_eq_some_iff] at hf
  obtain ⟨run, hr, rfl⟩ := hf
  have hm := List.mem_of_find?_eq_some hr
  have hl := List.find?_some hr
  have hb := freeRunsFrom_bound st 0 h.1 (fun p hp => ⟨Nat.zero_le _, h.2 p hp⟩) run hm
  simp only [decide_eq_true_eq] at hl
  omega

theorem LeafStore.get_eq_none (st : LeafStore) (i : Nat) : LeafStore.get st i = none ↔ ∀ p ∈ st, p.1 ≠ i := by
  induction st with
  | nil => simp [LeafStore.get]
  | cons p rest ih =>
    obtain ⟨k, r⟩ := p
    simp only [LeafStore.get]
    by_cases h : k = i <;> simp [h, ih]

/-- The walk of a canonical store lists its free runs: together free at or above where the walk began lie exactly the
records within one listed run. -/
theorem freeRunsFrom_spec (st : LeafStore) (b : Nat) (hb : b ≤ Config.leafRecords)
    (hs : (st.map (·.1)).Pairwise (· < ·)) (hp : ∀ p ∈ st, b ≤ p.1 ∧ p.1 < Config.leafRecords) (c l : Nat) (hl : 1 ≤ l) :
    (b ≤ c ∧ c + l ≤ Config.leafRecords ∧ ∀ p ∈ st, ¬ (c ≤ p.1 ∧ p.1 < c + l)) ↔
      ∃ run ∈ freeRunsFrom b st, run.1 ≤ c ∧ c + l ≤ run.1 + run.2 := by
  induction st generalizing b with
  | nil =>
    simp only [freeRunsFrom]
    split
    · simp; omega
    · simp; omega
  | cons p rest ih =>
    obtain ⟨k, r⟩ := p
    have hk := hp (k, r) (by simp)
    simp only [List.map_cons, List.pairwise_cons] at hs
    have hrest : ∀ q ∈ rest, k + 1 ≤ q.1 ∧ q.1 < Config.leafRecords := fun q hq =>
      ⟨hs.1 q.1 (List.mem_map_of_mem hq), (hp q (by simp [hq])).2⟩
    have h := ih (k + 1) (by omega) hs.2 hrest
    have hsplit : (b ≤ c ∧ c + l ≤ Config.leafRecords ∧ ∀ p ∈ (k, r) :: rest, ¬ (c ≤ p.1 ∧ p.1 < c + l)) ↔
        ((b ≤ c ∧ c + l ≤ k) ∨
          (k + 1 ≤ c ∧ c + l ≤ Config.leafRecords ∧ ∀ p ∈ rest, ¬ (c ≤ p.1 ∧ p.1 < c + l))) := by
      constructor
      · rintro ⟨h1, h2, h3⟩
        have := h3 (k, r) (by simp)
        rcases Nat.lt_or_ge k c with hc | hc
        · exact Or.inr ⟨hc, h2, fun q hq => h3 q (by simp [hq])⟩
        · exact Or.inl ⟨h1, by simp at this; omega⟩
      · rintro (⟨h1, h2⟩ | ⟨h1, h2, h3⟩)
        · refine ⟨h1, by omega, fun q hq => ?_⟩
          simp only [List.mem_cons] at hq
          rcases hq with rfl | hq
          · simp; omega
          · have := hrest q hq; omega
        · refine ⟨by omega, h2, fun q hq => ?_⟩
          simp only [List.mem_cons] at hq
          rcases hq with rfl | hq
          · simp; omega
          · exact h3 q hq
    rw [hsplit, h]
    simp only [freeRunsFrom]
    split
    · simp only [List.mem_cons, exists_eq_or_imp]
      constructor
      · rintro (h1 | h1)
        · left; omega
        · right; exact h1
      · rintro (h1 | h1)
        · left; omega
        · right; exact h1
    · constructor
      · rintro (h1 | h1)
        · omega
        · exact h1
      · intro h1; right; exact h1

/-- Records b..b+l−1 lie together free exactly within one free run. -/
theorem freeRun_iff (st : LeafStore) (h : LeafStore.wf st) (b l : Nat) (hl : 1 ≤ l) :
    LeafStore.freeRun st b l ↔ ∃ run ∈ freeRuns st, run.1 ≤ b ∧ b + l ≤ run.1 + run.2 := by
  have := freeRunsFrom_spec st 0 (by simp [Config.leafRecords]) h.1 (fun p hp => ⟨Nat.zero_le _, h.2 p hp⟩) b l hl
  rw [freeRuns, ← this]
  simp only [LeafStore.freeRun, LeafStore.get_eq_none]
  constructor
  · rintro ⟨h1, h2⟩
    refine ⟨Nat.zero_le _, h1, fun p hp hc => ?_⟩
    exact h2 (p.1 - b) (by omega) p hp (by omega)
  · rintro ⟨_, h1, h2⟩
    refine ⟨h1, fun i hi p hp hc => h2 p hp (by omega)⟩

/-- The free runs are listed lowest base first, and no two of them touch. -/
theorem freeRunsFrom_sorted (st : LeafStore) (b : Nat) (hs : (st.map (·.1)).Pairwise (· < ·))
    (hp : ∀ p ∈ st, b ≤ p.1 ∧ p.1 < Config.leafRecords) :
    (freeRunsFrom b st).Pairwise fun x y => x.1 + x.2 < y.1 := by
  induction st generalizing b with
  | nil => simp only [freeRunsFrom]; split <;> simp
  | cons p rest ih =>
    obtain ⟨k, r⟩ := p
    simp only [List.map_cons, List.pairwise_cons] at hs
    have hrest : ∀ q ∈ rest, k + 1 ≤ q.1 ∧ q.1 < Config.leafRecords := fun q hq =>
      ⟨hs.1 q.1 (List.mem_map_of_mem hq), (hp q (by simp [hq])).2⟩
    have h := ih (k + 1) hs.2 hrest
    simp only [freeRunsFrom]
    split
    · refine List.Pairwise.cons (fun y hy => ?_) h
      have := freeRunsFrom_bound rest (k + 1) hs.2 hrest y hy
      show b + (k - b) < y.1
      omega
    · exact h

/-- The longest free run: every run before it is shorter, and none after it is longer; there is none exactly when no
record is free. -/
theorem longestRun_spec (st : LeafStore) :
    match longestRun st with
    | none => freeRuns st = []
    | some run => ∃ before after, freeRuns st = before ++ run :: after ∧ (∀ r ∈ before, r.2 < run.2) ∧
        ∀ r ∈ after, r.2 ≤ run.2 := by
  simp only [longestRun]
  generalize freeRuns st = l
  induction l using List.reverseRecOn with
  | nil => rfl
  | append_singleton l a ih =>
    simp only [List.foldl_append, List.foldl_cons, List.foldl_nil]
    revert ih
    cases List.foldl (fun best run => match best with
      | none => some run
      | some b => if b.2 < run.2 then some run else some b) none l with
    | none => intro ih; exact ⟨[], [], by simp_all, by simp, by simp⟩
    | some b =>
      rintro ⟨before, after, rfl, h1, h2⟩
      by_cases h : b.2 < a.2
      · simp only [h, if_true]
        refine ⟨before ++ b :: after, [], by simp, fun r hr => ?_, by simp⟩
        simp only [List.mem_append, List.mem_cons] at hr
        rcases hr with hr | rfl | hr
        · have := h1 r hr; omega
        · exact h
        · have := h2 r hr; omega
      · simp only [h, if_false]
        refine ⟨before, after ++ [a], by simp, h1, fun r hr => ?_⟩
        simp only [List.mem_append, List.mem_singleton] at hr
        rcases hr with hr | rfl
        · exact h2 r hr
        · omega

end Sys2Proof.Machine
end

