-- ==== Sys2Proof/Laws/Checks.lean ====
section
/-! SUPPORT. Laws.Checks: the two invariants that speak of every index, read off a state by evaluation. -/

namespace Sys2Proof.Machine

/-- What `State.LightSafe` says, as a computation. -/
def State.lightCheck (s : State) : Bool :=
  decide s.lights.oneLit &&
  (match Vec.at s.lights.banks 0 .off with
    | .lit l .preview => s.lights.preview == some l
    | _ => s.lights.preview == none) &&
  ((List.range 8).all fun i =>
    match Vec.at s.lights.banks i .off with
    | .lit _ .preview => i == 0
    | _ => true) &&
  decide (litBank s.lights.banks ≠ none → s.lightRefusal = none) &&
  decide (s.meter.running = (litBank s.lights.banks).map fun b => { bank := b.1, owner := b.2.2 }) &&
  decide (s.lightOwner = some .exposure →
    s.walker.sweep.state ≠ .idle ∧ s.walker.sweep.stage = some .exposing ∧ s.frames.slot ≠ [] ∧
      ∀ i ∈ s.frames.slot, (s.frame i).status ≠ .confirming) &&
  decide (s.lightOwner = some .preview → s.walker.sweep.state = .idle) &&
  decide (s.walker.sweep.state = .idle →
    s.walker.sweep.stage = none ∧ s.walker.sweep.buildPending = false ∧ s.frames.slot = [] ∧ s.frames.planned = []) &&
  decide (s.walker.sweep.buildPending = true →
    s.walker.sweep.state = .walking ∧ s.walker.sweep.stage = none ∧ s.frames.slot = []) &&
  decide s.oneMounted &&
  (s.frames.pool.toList.all fun d => decide (d.bank < 8)) &&
  (s.walker.plan.toList.all fun p => p.all fun e => decide (e.bank < 8)) &&
  ([s.links.conservation, s.links.capture, s.links.accounting].all fun p =>
    match p.request with
    | some (.untaken c) => linkRangeOk c
    | _ => true)

theorem State.lightSafe_of_check (s : State) (h : s.lightCheck = true) : s.LightSafe := by
  simp only [State.lightCheck, Bool.and_eq_true] at h
  obtain ⟨⟨⟨⟨⟨⟨⟨⟨⟨⟨⟨⟨h1, h2⟩, h3⟩, h4⟩, h5⟩, h6⟩, h7⟩, h8⟩, h9⟩, h10⟩, h11⟩, h12⟩, h13⟩ := h
  refine ⟨of_decide_eq_true h1, ⟨?_, ?_⟩, of_decide_eq_true h4, of_decide_eq_true h5, of_decide_eq_true h6,
    of_decide_eq_true h7, of_decide_eq_true h8, of_decide_eq_true h9, of_decide_eq_true h10, ⟨?_, ?_⟩, ?_⟩
  · intro level
    split at h2
    · next l hl => simp only [beq_iff_eq] at h2; rw [h2, hl]; simp
    · next hl =>
      simp only [beq_iff_eq] at h2
      constructor
      · intro g; rw [h2] at g; cases g
      · intro g; exact absurd g (hl _)
  · intro i hi level hl
    have := List.all_eq_true.1 h3 i (List.mem_range.2 hi)
    rw [hl] at this
    simpa using this
  · intro i
    simp only [State.frame, Vec.at]
    cases hp : s.frames.pool[i]? with
    | none => simp [Descriptor.initial]
    | some d =>
      have hd : d ∈ s.frames.pool.toList := by
        rw [Vector.getElem?_eq_some_iff] at hp
        obtain ⟨hi, rfl⟩ := hp
        simp
      simpa using List.all_eq_true.1 h11 d hd
  · intro i e he
    simp only [Walker.planAt, Vec.at] at he
    cases hp : s.walker.plan[i]? with
    | none => rw [hp] at he; cases he
    | some p =>
      rw [hp] at he
      simp only [Option.getD_some] at he
      subst he
      have hd : some e ∈ s.walker.plan.toList := by
        rw [Vector.getElem?_eq_some_iff] at hp
        obtain ⟨hi, hg⟩ := hp
        rw [← hg]
        simp
      simpa using List.all_eq_true.1 h12 _ hd
  · intro link c hc
    simp only [List.all_cons, List.all_nil, Bool.and_true, Bool.and_eq_true] at h13
    cases link
    · have := h13.1; simp only [State.port, Links.port] at hc; rw [hc] at this; exact this
    · have := h13.2.1; simp only [State.port, Links.port] at hc; rw [hc] at this; exact this
    · have := h13.2.2; simp only [State.port, Links.port] at hc; rw [hc] at this; exact this

/-- What `State.extentsShareStore` says, as a computation. -/
def State.storeCheck (s : State) : Bool :=
  let used := (List.range 8).filter fun i => !((s.entry i).state == .free)
  decide (LeafStore.wf s.custody.leaves) &&
  (used.all fun i => decide ((s.entry i).extentBase + (s.entry i).leafCount ≤ Config.leafRecords)) &&
  (used.all fun i => used.all fun j =>
    i == j || decide ((s.entry i).extentBase + (s.entry i).leafCount ≤ (s.entry j).extentBase) ||
      decide ((s.entry j).extentBase + (s.entry j).leafCount ≤ (s.entry i).extentBase)) &&
  (used.all fun i => (List.range (s.entry i).leafCount).all fun k =>
    decide ((s.entry i).extentBase + k ∈ s.custody.leaves.map (·.1))) &&
  (s.custody.leaves.all fun p => used.any fun i =>
    decide ((s.entry i).extentBase ≤ p.1) && decide (p.1 < (s.entry i).extentBase + (s.entry i).leafCount)) &&
  decide (s.custody.leaves.length =
    ((List.range 8).map fun i => if (s.entry i).state = .free then 0 else (s.entry i).leafCount).sum)

theorem State.extentsShareStore_of_check (s : State) (h : s.storeCheck = true) : s.extentsShareStore := by
  simp only [State.storeCheck, Bool.and_eq_true, List.all_eq_true, List.any_eq_true, List.mem_filter, List.mem_range,
    Bool.or_eq_true, decide_eq_true_eq, beq_iff_eq, Bool.not_eq_true', beq_eq_false_iff_ne] at h
  obtain ⟨⟨⟨⟨⟨h1, h2⟩, h3⟩, h4⟩, h5⟩, h6⟩ := h
  refine ⟨h1, fun i hi hu => h2 i ⟨hi, hu⟩, ?_, ?_, h6⟩
  · intro i hi j hj hij ui uj k h7 h8
    have := h3 i ⟨hi, ui⟩ j ⟨hj, uj⟩
    omega
  · intro k
    rw [Ne, LeafStore.get_eq_none]
    constructor
    · intro g
      simp only [not_forall, not_not] at g
      obtain ⟨p, hp, hk⟩ := g
      obtain ⟨i, ⟨hi, hu⟩, ha, hb⟩ := h5 p hp
      exact ⟨i, hi, hu, by omega, by omega⟩
    · rintro ⟨i, hi, hu, ha, hb⟩ g
      have hm := h4 i ⟨hi, hu⟩ (k - (s.entry i).extentBase) (by omega)
      rw [show (s.entry i).extentBase + (k - (s.entry i).extentBase) = k by omega, List.mem_map] at hm
      obtain ⟨p, hp, hk⟩ := hm
      exact g p hp hk

end Sys2Proof.Machine
end

