-- ==== Sys2Proof/Laws/PerInstr.lean ====
section
/-! SUPPORT. Laws.PerInstr: the family Wire: for each command, the length of the request body that section 11.6 lays out
for it, within the 250 bytes of a frame; a command that no link sends has no body. -/

namespace Sys2Proof.Laws.Wire

/-- The bytes of a request's body, by the field sizes of section 11.6. -/
def bodyLength : Instr → Nat
  | .listCustody .. => 1
  | .readCustody .. => 1
  | .takeFrames .. => 1
  | .setPlanLength .. => 1
  | .readPlan .. => 1
  | .readSetting .. => 1
  | .takeNotices .. => 1
  | .hold .. => 2
  | .unhold .. => 2
  | .dismount .. => 2
  | .release .. => 2
  | .recoverTurn .. => 2
  | .clearReference .. => 2
  | .previewOn .. => 2
  | .acceptFrame .. => 2
  | .rejectFrame .. => 2
  | .captureOpening .. => 2
  | .waive .. => 3
  | .setRequirement .. => 3
  | .readLeaf .. => 3
  | .turn .. => 3
  | .confirmPick .. => 3
  | .rejectPick .. => 3
  | .mount .. => 4
  | .approveTurn .. => 4
  | .markLeaf .. => 5
  | .setSetting .. => 5
  | .setBudget .. => 6
  | .setPlanEntry .. => 7
  | .setHandling .. => 8
  | .checkIn .. => 40
  | _ => 0

/-- The body of a well-formed command has the length of the layout, and fits a frame (R185). -/
def Statement (i : Instr) : Prop :=
  i.wellFormed = true → (encodeBody i).length = bodyLength i ∧ bodyLength i ≤ Config.longestBody

theorem be_length (n v : Nat) : (be n v).length = n := by
  induction n with
  | zero => rfl
  | succ n ih => simp [be, ih]

theorem deviceReset :
    Statement .deviceReset := fun _ => ⟨rfl, Nat.le_of_ble_eq_true rfl⟩

theorem requestFrameComplete (link : Link) (frame : Frame) :
    Statement (.requestFrameComplete link frame) := fun _ => ⟨rfl, Nat.le_of_ble_eq_true rfl⟩

theorem replySent (link : Link) :
    Statement (.replySent link) := fun _ => ⟨rfl, Nat.le_of_ble_eq_true rfl⟩

theorem linkIdleTimeout (link : Link) :
    Statement (.linkIdleTimeout link) := fun _ => ⟨rfl, Nat.le_of_ble_eq_true rfl⟩

theorem checkIn (o : Origin) (shelfMark : List Byte) (designation : Option (List Byte)) (accession : Nat) (leafCount : Nat) :
    Statement (.checkIn o shelfMark designation accession leafCount) := by
  intro h
  refine ⟨?_, Nat.le_of_ble_eq_true rfl⟩
  have hs : shelfMark.length ≤ 24 := by
    simp [Instr.wellFormed, linkRangeOk, nameOk] at h; omega
  have hd : (designation.getD []).length ≤ 8 := by
    cases designation with
    | none => simp
    | some d => simp [Instr.wellFormed, linkRangeOk, nameOk] at h; simp; omega
  simp [encodeBody, nameBytes, bodyLength, be_length]
  omega

theorem setHandling (o : Origin) (slot : Nat) (generation : Nat) (handlingClass : Nat) (angleLimit : Nat) (faceBudget : Nat) :
    Statement (.setHandling o slot generation handlingClass angleLimit faceBudget) := fun _ => ⟨rfl, Nat.le_of_ble_eq_true rfl⟩

theorem setBudget (o : Origin) (slot : Nat) (generation : Nat) (faceBudget : Nat) :
    Statement (.setBudget o slot generation faceBudget) := fun _ => ⟨rfl, Nat.le_of_ble_eq_true rfl⟩

theorem hold (o : Origin) (slot : Nat) (generation : Nat) :
    Statement (.hold o slot generation) := fun _ => ⟨rfl, Nat.le_of_ble_eq_true rfl⟩

theorem unhold (o : Origin) (slot : Nat) (generation : Nat) :
    Statement (.unhold o slot generation) := fun _ => ⟨rfl, Nat.le_of_ble_eq_true rfl⟩

theorem waive (o : Origin) (slot : Nat) (generation : Nat) (reason : Nat) :
    Statement (.waive o slot generation reason) := fun _ => ⟨rfl, Nat.le_of_ble_eq_true rfl⟩

theorem mount (o : Origin) (slot : Nat) (generation : Nat) (opening : Nat) :
    Statement (.mount o slot generation opening) := fun _ => ⟨rfl, Nat.le_of_ble_eq_true rfl⟩

theorem dismount (o : Origin) (slot : Nat) (generation : Nat) :
    Statement (.dismount o slot generation) := fun _ => ⟨rfl, Nat.le_of_ble_eq_true rfl⟩

theorem release (o : Origin) (slot : Nat) (generation : Nat) :
    Statement (.release o slot generation) := fun _ => ⟨rfl, Nat.le_of_ble_eq_true rfl⟩

theorem listCustody (o : Origin) (firstSlot : Nat) :
    Statement (.listCustody o firstSlot) := fun _ => ⟨rfl, Nat.le_of_ble_eq_true rfl⟩

theorem readCustody (o : Origin) (slot : Nat) :
    Statement (.readCustody o slot) := fun _ => ⟨rfl, Nat.le_of_ble_eq_true rfl⟩

theorem markLeaf (o : Origin) (slot : Nat) (generation : Nat) (leaf : Nat) (mark : LeafMark) :
    Statement (.markLeaf o slot generation leaf mark) := fun _ => ⟨rfl, Nat.le_of_ble_eq_true rfl⟩

theorem setRequirement (o : Origin) (slot : Nat) (generation : Nat) (bands : BandSet) :
    Statement (.setRequirement o slot generation bands) := fun _ => ⟨rfl, Nat.le_of_ble_eq_true rfl⟩

theorem readLeaf (o : Origin) (slot : Nat) (leaf : Nat) :
    Statement (.readLeaf o slot leaf) := fun _ => ⟨rfl, Nat.le_of_ble_eq_true rfl⟩

theorem turn (o : Origin) (direction : Direction) (count : Nat) (requestedClass : Nat) :
    Statement (.turn o direction count requestedClass) := fun _ => ⟨rfl, Nat.le_of_ble_eq_true rfl⟩

theorem approveTurn (o : Origin) (slot : Nat) (generation : Nat) (leaf : Nat) :
    Statement (.approveTurn o slot generation leaf) := fun _ => ⟨rfl, Nat.le_of_ble_eq_true rfl⟩

theorem resume (o : Origin) :
    Statement (.resume o) := fun _ => ⟨rfl, Nat.le_of_ble_eq_true rfl⟩

theorem recoverTurn (o : Origin) (opening : Nat) :
    Statement (.recoverTurn o opening) := fun _ => ⟨rfl, Nat.le_of_ble_eq_true rfl⟩

theorem clearReference (o : Origin) (slot : Nat) (generation : Nat) :
    Statement (.clearReference o slot generation) := fun _ => ⟨rfl, Nat.le_of_ble_eq_true rfl⟩

theorem confirmPick (o : Origin) (slot : Nat) (leaf : Nat) :
    Statement (.confirmPick o slot leaf) := fun _ => ⟨rfl, Nat.le_of_ble_eq_true rfl⟩

theorem rejectPick (o : Origin) (slot : Nat) (leaf : Nat) :
    Statement (.rejectPick o slot leaf) := fun _ => ⟨rfl, Nat.le_of_ble_eq_true rfl⟩

theorem ackGuard (o : Origin) :
    Statement (.ackGuard o) := fun _ => ⟨rfl, Nat.le_of_ble_eq_true rfl⟩

theorem previewOn (o : Origin) (level : Nat) :
    Statement (.previewOn o level) := fun _ => ⟨rfl, Nat.le_of_ble_eq_true rfl⟩

theorem previewOff (o : Origin) :
    Statement (.previewOff o) := fun _ => ⟨rfl, Nat.le_of_ble_eq_true rfl⟩

theorem takeFrames (o : Origin) (largest : Nat) :
    Statement (.takeFrames o largest) := fun _ => ⟨rfl, Nat.le_of_ble_eq_true rfl⟩

theorem acceptFrame (o : Origin) (index : Nat) (generation : Nat) :
    Statement (.acceptFrame o index generation) := fun _ => ⟨rfl, Nat.le_of_ble_eq_true rfl⟩

theorem rejectFrame (o : Origin) (index : Nat) (generation : Nat) :
    Statement (.rejectFrame o index generation) := fun _ => ⟨rfl, Nat.le_of_ble_eq_true rfl⟩

theorem setPlanEntry (o : Origin) (index : Nat) (cameras : CameraSet) (bank : Nat) (level : Nat) (duration : Nat) :
    Statement (.setPlanEntry o index cameras bank level duration) := fun _ => ⟨rfl, Nat.le_of_ble_eq_true rfl⟩

theorem setPlanLength (o : Origin) (length : Nat) :
    Statement (.setPlanLength o length) := fun _ => ⟨rfl, Nat.le_of_ble_eq_true rfl⟩

theorem readPlan (o : Origin) (index : Nat) :
    Statement (.readPlan o index) := fun _ => ⟨rfl, Nat.le_of_ble_eq_true rfl⟩

theorem captureOpening (o : Origin) (mode : SweepMode) :
    Statement (.captureOpening o mode) := fun _ => ⟨rfl, Nat.le_of_ble_eq_true rfl⟩

theorem closeOpening (o : Origin) :
    Statement (.closeOpening o) := fun _ => ⟨rfl, Nat.le_of_ble_eq_true rfl⟩

theorem stopSweep (o : Origin) :
    Statement (.stopSweep o) := fun _ => ⟨rfl, Nat.le_of_ble_eq_true rfl⟩

theorem setSetting (o : Origin) (index : Nat) (value : Word) :
    Statement (.setSetting o index value) := fun _ => ⟨rfl, Nat.le_of_ble_eq_true rfl⟩

theorem readSetting (o : Origin) (index : Nat) :
    Statement (.readSetting o index) := fun _ => ⟨rfl, Nat.le_of_ble_eq_true rfl⟩

theorem enterReady (o : Origin) :
    Statement (.enterReady o) := fun _ => ⟨rfl, Nat.le_of_ble_eq_true rfl⟩

theorem enterMaintenance (o : Origin) :
    Statement (.enterMaintenance o) := fun _ => ⟨rfl, Nat.le_of_ble_eq_true rfl⟩

theorem halt (o : Origin) :
    Statement (.halt o) := fun _ => ⟨rfl, Nat.le_of_ble_eq_true rfl⟩

theorem clearHalt (o : Origin) :
    Statement (.clearHalt o) := fun _ => ⟨rfl, Nat.le_of_ble_eq_true rfl⟩

theorem restart (o : Origin) :
    Statement (.restart o) := fun _ => ⟨rfl, Nat.le_of_ble_eq_true rfl⟩

theorem readStatus (o : Origin) :
    Statement (.readStatus o) := fun _ => ⟨rfl, Nat.le_of_ble_eq_true rfl⟩

theorem takeNotices (o : Origin) (largest : Nat) :
    Statement (.takeNotices o largest) := fun _ => ⟨rfl, Nat.le_of_ble_eq_true rfl⟩

theorem curtainBroken :
    Statement .curtainBroken := fun _ => ⟨rfl, Nat.le_of_ble_eq_true rfl⟩

theorem curtainClear :
    Statement .curtainClear := fun _ => ⟨rfl, Nat.le_of_ble_eq_true rfl⟩

theorem stopKeyPress :
    Statement .stopKeyPress := fun _ => ⟨rfl, Nat.le_of_ble_eq_true rfl⟩

theorem stopKeyRelease :
    Statement .stopKeyRelease := fun _ => ⟨rfl, Nat.le_of_ble_eq_true rfl⟩

theorem angleChange (degrees : Nat) :
    Statement (.angleChange degrees) := fun _ => ⟨rfl, Nat.le_of_ble_eq_true rfl⟩

theorem wandDownChange (level : Bool) :
    Statement (.wandDownChange level) := fun _ => ⟨rfl, Nat.le_of_ble_eq_true rfl⟩

theorem vacuumHeldChange (level : Bool) :
    Statement (.vacuumHeldChange level) := fun _ => ⟨rfl, Nat.le_of_ble_eq_true rfl⟩

theorem armFarChange (level : Bool) :
    Statement (.armFarChange level) := fun _ => ⟨rfl, Nat.le_of_ble_eq_true rfl⟩

theorem armRestChange (level : Bool) :
    Statement (.armRestChange level) := fun _ => ⟨rfl, Nat.le_of_ble_eq_true rfl⟩

theorem cameraReadyChange (camera : Camera) (level : Bool) :
    Statement (.cameraReadyChange camera level) := fun _ => ⟨rfl, Nat.le_of_ble_eq_true rfl⟩

theorem doneEdge (camera : Camera) :
    Statement (.doneEdge camera) := fun _ => ⟨rfl, Nat.le_of_ble_eq_true rfl⟩

theorem storeUpset (index : Nat) (value : Word) :
    Statement (.storeUpset index value) := fun _ => ⟨rfl, Nat.le_of_ble_eq_true rfl⟩

theorem angleTimerExpiry :
    Statement .angleTimerExpiry := fun _ => ⟨rfl, Nat.le_of_ble_eq_true rfl⟩

theorem liftTimeout :
    Statement .liftTimeout := fun _ => ⟨rfl, Nat.le_of_ble_eq_true rfl⟩

theorem carryTimeout :
    Statement .carryTimeout := fun _ => ⟨rfl, Nat.le_of_ble_eq_true rfl⟩

theorem layTimeout :
    Statement .layTimeout := fun _ => ⟨rfl, Nat.le_of_ble_eq_true rfl⟩

theorem settleTimerExpiry :
    Statement .settleTimerExpiry := fun _ => ⟨rfl, Nat.le_of_ble_eq_true rfl⟩

theorem pickConfirmTimeout :
    Statement .pickConfirmTimeout := fun _ => ⟨rfl, Nat.le_of_ble_eq_true rfl⟩

theorem recoveryTimerExpiry :
    Statement .recoveryTimerExpiry := fun _ => ⟨rfl, Nat.le_of_ble_eq_true rfl⟩

theorem gaugeGateExpiry :
    Statement .gaugeGateExpiry := fun _ => ⟨rfl, Nat.le_of_ble_eq_true rfl⟩

theorem meteringIntervalExpiry (raw : BitVec 16) :
    Statement (.meteringIntervalExpiry raw) := fun _ => ⟨rfl, Nat.le_of_ble_eq_true rfl⟩

theorem cameraReadyTimeout (camera : Camera) :
    Statement (.cameraReadyTimeout camera) := fun _ => ⟨rfl, Nat.le_of_ble_eq_true rfl⟩

theorem cameraConfirmTimeout (camera : Camera) :
    Statement (.cameraConfirmTimeout camera) := fun _ => ⟨rfl, Nat.le_of_ble_eq_true rfl⟩

theorem verificationTimerExpiry :
    Statement .verificationTimerExpiry := fun _ => ⟨rfl, Nat.le_of_ble_eq_true rfl⟩

theorem pendingBuild :
    Statement .pendingBuild := fun _ => ⟨rfl, Nat.le_of_ble_eq_true rfl⟩

theorem startByte (link : Link) :
    Statement (.startByte link) := fun _ => ⟨rfl, Nat.le_of_ble_eq_true rfl⟩

theorem oscillatorCycle :
    Statement .oscillatorCycle := fun _ => ⟨rfl, Nat.le_of_ble_eq_true rfl⟩

end Sys2Proof.Laws.Wire
end

