-- ==== Sys2Proof/Laws/Requests.lean ====
section
/-! SUPPORT. Laws.Requests: the outcome of a request and of an event in the forms the statements use, what the delivery of
notices leaves of a port, the mounted slot, and the step. -/

namespace Sys2Proof.Machine

/-! ### The step -/

/-- What every command keeps, the step keeps, where the queue does not matter. -/
theorem step_keeps {P : State → Prop} (u : Undisturbed P) (h : ∀ c s t, P s → exec c s = .next t → P t) (s t : State)
    (hs : P s) (hst : step s = .next t) : P t := by
  unfold step at hst
  split at hst
  · cases hst; exact hs
  · exact h _ _ _ (u.pending _ _ hs) hst

theorem step_front (c : Instr) (q : List Instr) (s : State) :
    step (s.withPending (c :: q)) = exec c (s.withPending q) := rfl

@[simp] theorem State.withPending_self (s : State) : s.withPending s.pending = s := rfl

theorem State.onOutbox_nil (s : State) (h : s.outbox = []) : s.onOutbox (fun _ => []) = s := by
  cases s; simp_all [State.onOutbox]

/-! ### Requests that are offered -/

theorem State.accepts.offered {s : State} {c : Instr} {o : Origin} (h : s.accepts c o) : s.offered c o :=
  ⟨h.1, h.2.1, h.2.2.1⟩

theorem State.offered.accepts {s : State} {c : Instr} {o : Origin} (h : s.offered c o) (hr : linkRangeOk c = true) :
    s.accepts c o := ⟨h.1, h.2.1, h.2.2, hr⟩

/-- A request with a field out of range is answered BAD_ARGUMENT, and nothing else changes. -/
theorem request_out_of_range {s : State} {c : Instr} {o : Origin} (take : State → Served) (h : s.offered c o)
    (hr : linkRangeOk c = false) :
    request c o take s = .next ((s.heard o).answered o (codeByte c) .badArgument []) := by
  obtain ⟨h0, ⟨h1, h2, h3⟩, h4⟩ := h
  simp only [request, event]
  have : s.serve c o take = (s.heard o).answered o (codeByte c) .badArgument [] := by
    simp [State.serve, State.holdsRequest, h1, h2, h3, h4, hr, State.arrive, State.vet, State.heard,
      State.receiving, State.answered]
  rw [this, State.finish_of_quiet]
  · exact h0
  · exact fun g => g

/-- A request whose owning block posts a list of notices. -/
theorem request_announces (c : Instr) (o : Origin) (take : State → Served) (s t : State) (notices : List Notice)
    (result : Result) (body : List Byte) (h : s.accepts c o)
    (ht : take (s.heard o) = ⟨t.onOutbox fun _ => notices, result, body⟩) (hq : t.outbox = [])
    (hc : s.frames.completed = [] → t.frames.completed = []) :
    request c o take s = .next ((t.answered o (codeByte c) result body).announced notices) := by
  rw [request_of_accepts c o take s h]
  simp only [State.answer, ht]
  rw [State.finish_eq_flush _ _ (by exact hc),
    State.flush_eq _ (t.answered o (codeByte c) result body) notices (by exact hq)]
  rfl

/-- The same, in the words of the statements. -/
theorem request_answersWith {c : Instr} {o : Origin} {take : State → Served} {s : State} {result : Result}
    {body : List Byte} {effect : State → State} {notices : List Notice} (h : s.accepts c o)
    (ht : take (s.heard o) = ⟨(effect (s.heard o)).onOutbox fun _ => notices, result, body⟩)
    (hq : (effect (s.heard o)).outbox = [])
    (hc : s.frames.completed = [] → (effect (s.heard o)).frames.completed = [])
    (he : exec c s = request c o take s) : s.answersWith c o result body effect notices := by
  rw [State.answersWith, he]
  exact request_announces _ _ _ _ _ _ _ _ h ht hq hc

/-- The next state of a request whose block leaves state `t`. -/
theorem request_next {c : Instr} {o : Origin} {take : State → Served} {s t : State} {result : Result}
    {body : List Byte} (h : s.accepts c o) (ht : take (s.heard o) = ⟨t, result, body⟩)
    (he : exec c s = request c o take s) :
    exec c s = .next (s.finish (t.reply o.link o.tag (codeByte c) result body)) := by
  rw [he, request_of_accepts _ _ _ _ h]; simp [State.answer, ht]

/-- An event whose function posts nothing and moves no descriptor. -/
theorem event_eq (f : State → State) (s t : State) (h : f s = t) (hq : t.outbox = []) (hc : t.frames = s.frames) :
    event f s = .next t := by
  subst h
  exact event_quiet f s hq (by rw [hc]; exact id)

/-- An event that posts a list of notices. -/
theorem event_announces (f : State → State) (s t : State) (notices : List Notice)
    (ht : f s = t.onOutbox fun _ => notices) (hq : t.outbox = [])
    (hc : s.frames.completed = [] → t.frames.completed = []) : event f s = .next (t.announced notices) := by
  simp only [event, ht]
  rw [State.finish_eq_flush _ _ (by exact hc), State.flush_eq _ t notices hq rfl]

section replyFields
variable (s : State) (l : Link) (tag code : Byte) (result : Result) (body : List Byte)
@[simp] theorem State.reply_station : (s.reply l tag code result body).station = s.station := rfl
@[simp] theorem State.reply_settings : (s.reply l tag code result body).settings = s.settings := rfl
@[simp] theorem State.reply_custody : (s.reply l tag code result body).custody = s.custody := rfl
@[simp] theorem State.reply_cradle : (s.reply l tag code result body).cradle = s.cradle := rfl
@[simp] theorem State.reply_gauge : (s.reply l tag code result body).gauge = s.gauge := rfl
@[simp] theorem State.reply_guards : (s.reply l tag code result body).guards = s.guards := rfl
@[simp] theorem State.reply_lights : (s.reply l tag code result body).lights = s.lights := rfl
@[simp] theorem State.reply_meter : (s.reply l tag code result body).meter = s.meter := rfl
@[simp] theorem State.reply_frames : (s.reply l tag code result body).frames = s.frames := rfl
@[simp] theorem State.reply_walker : (s.reply l tag code result body).walker = s.walker := rfl
@[simp] theorem State.reply_pending : (s.reply l tag code result body).pending = s.pending := rfl
@[simp] theorem State.reply_outbox : (s.reply l tag code result body).outbox = s.outbox := rfl
@[simp] theorem State.reply_request : ((s.reply l tag code result body).port l).request =
    some (.answered { tag := tag, code := code, result := result, body := body }) := by simp [State.reply]
end replyFields

/-! ### What the delivery of notices leaves of a port -/

theorem Port.push_request (n : Notice) (p : Port) : (p.push n).request = p.request := by
  simp only [Port.push]; split <;> rfl
theorem Port.push_busy (n : Notice) (p : Port) : (p.push n).busy = p.busy := by
  simp only [Port.push]; split <;> rfl
theorem Port.push_reception (n : Notice) (p : Port) : (p.push n).reception = p.reception := by
  simp only [Port.push]; split <;> rfl

theorem Port.foldl_push {α : Type} (g : Port → α) (hg : ∀ n p, g (Port.push n p) = g p) (notices : List Notice)
    (p : Port) : g (notices.foldl (fun q n => q.push n) p) = g p := by
  induction notices generalizing p with
  | nil => rfl
  | cons n rest ih => simp [ih, hg]

@[simp] theorem Port.receive_request (out : List Notice) (l : Link) (p : Port) :
    (p.receive out l).request = p.request := Port.foldl_push _ Port.push_request _ _
@[simp] theorem Port.receive_busy (out : List Notice) (l : Link) (p : Port) : (p.receive out l).busy = p.busy :=
  Port.foldl_push _ Port.push_busy _ _
@[simp] theorem Port.receive_reception (out : List Notice) (l : Link) (p : Port) :
    (p.receive out l).reception = p.reception := Port.foldl_push _ Port.push_reception _ _

theorem State.port_announced (s : State) (notices : List Notice) (l : Link) :
    (s.announced notices).port l = (s.port l).receive notices l := by
  cases l <;> rfl

theorem State.port_flush (s : State) (l : Link) : s.flush.port l = (s.port l).receive s.outbox l := by
  cases l <;> rfl

@[simp] theorem State.finish_request (s t : State) (l : Link) :
    ((s.finish t).port l).request = (t.port l).request := by
  simp only [State.finish]; split <;> simp [State.port_flush] <;> rfl
@[simp] theorem State.finish_busy (s t : State) (l : Link) : ((s.finish t).port l).busy = (t.port l).busy := by
  simp only [State.finish]; split <;> simp [State.port_flush] <;> rfl
@[simp] theorem State.finish_reception (s t : State) (l : Link) :
    ((s.finish t).port l).reception = (t.port l).reception := by
  simp only [State.finish]; split <;> simp [State.port_flush] <;> rfl

/-! ### The mounted slot and the entries -/

theorem State.mountedSlot_some {s : State} {i : Nat} : s.mountedSlot = some i ↔
    i < 8 ∧ (s.entry i).state = .mounted ∧ ∀ j, j < i → (s.entry j).state ≠ .mounted := by
  simp only [State.mountedSlot, List.find?_range_eq_some]
  simp
  tauto

theorem State.mountedSlot_none {s : State} : s.mountedSlot = none ↔ ∀ i, i < 8 → (s.entry i).state ≠ .mounted := by
  simp [State.mountedSlot]

theorem State.mountedSlot_of_one {s : State} {i : Nat} (h : s.oneMounted) (hi : i < 8)
    (hm : (s.entry i).state = .mounted) : s.mountedSlot = some i := by
  rw [State.mountedSlot_some]
  refine ⟨hi, hm, fun j hj hj' => ?_⟩
  have := h i hi j (by omega) hm hj'
  omega

theorem State.mountedSlot_congr {s t : State}
    (h : ∀ i, i < 8 → ((t.entry i).state = .mounted ↔ (s.entry i).state = .mounted)) :
    t.mountedSlot = s.mountedSlot := by
  cases hs : s.mountedSlot with
  | none => rw [State.mountedSlot_none] at *; intro i hi; rw [Ne, h i hi]; exact hs i hi
  | some i =>
    rw [State.mountedSlot_some] at *
    refine ⟨hs.1, (h i hs.1).2 hs.2.1, fun j hj => ?_⟩
    rw [Ne, h j (by omega)]; exact hs.2.2 j hj

theorem Vec.edit_same {α : Type} {n : Nat} (v : Vector α n) (i : Nat) (f : α → α) (d : α)
    (h : f (Vec.at v i d) = Vec.at v i d) : Vec.edit v i f = v := by
  unfold Vec.edit
  split
  · next hi =>
    have : v[i] = Vec.at v i d := by simp [Vec.at, hi]
    rw [this, h, ← this]; simp
  · rfl

theorem State.onEntry_same (s : State) (i : Nat) (f : CustodyEntry → CustodyEntry) (h : f (s.entry i) = s.entry i) :
    s.onEntry i f = s := by
  have := Vec.edit_same s.custody.entries i f _ h
  cases s; simp_all [State.onEntry, State.onCustody]

/-- Two custody units with one skeleton have the same entries but for what the bookings move. -/
theorem Custody.skeleton_entry {a b : Custody} (h : a.skeleton = b.skeleton) (i : Nat) :
    (Vec.at a.entries i (.free 0)).unbooked = (Vec.at b.entries i (.free 0)).unbooked := by
  have h1 : a.entries.toList.map CustodyEntry.unbooked = b.entries.toList.map CustodyEntry.unbooked := by
    simp only [Custody.skeleton, Prod.mk.injEq] at h; exact h.1
  have h2 : (a.entries.toList.map CustodyEntry.unbooked)[i]? = (b.entries.toList.map CustodyEntry.unbooked)[i]? := by
    rw [h1]
  simp only [List.getElem?_map, Vector.getElem?_toList] at h2
  simp only [Vec.at]
  cases ha : a.entries[i]? <;> cases hb : b.entries[i]? <;> simp_all

theorem nameOk_iff (n : Nat) (x : List Byte) : nameOk n x = true ↔
    (1 ≤ x.length ∧ x.length ≤ n ∧ (∀ b ∈ x, 32 ≤ b.toNat ∧ b.toNat ≤ 126) ∧ x.head? ≠ some 32#8 ∧
      x.getLast? ≠ some 32#8) := by
  simp only [nameOk, Bool.and_eq_true, decide_eq_true_eq, List.all_eq_true, bne_iff_ne, ne_eq]
  tauto

theorem Guards.clear_iff (g : Guards) : g.clear = true ↔ (g.curtainBroken = false ∧ g.curtainLatch = false) := by
  simp [Guards.clear]

/-! ### Parking -/

theorem State.parkingTest_cradle (s : State) : s.parkingTest.cradle =
    if s.cradle.drive = .moving ∧ Config.flatAngle ≤ s.cradle.sensors.angle + Config.angleTolerance ∧
        s.cradle.sensors.atRest = true then
      { s.cradle with
        state := .parked, parked := none, timers := { s.cradle.timers with angle := none }
        outputs := s.cradle.outputs.stopped }
    else s.cradle := by
  unfold State.parkingTest
  split
  · dsimp only; split <;> simp [State.onTimers, State.onOutputs]
  · rfl

theorem State.beginParking_cradle (c : Nat) (p : Option VolumeName) (s : State) :
    (s.beginParking c p).cradle =
      if s.guards.clear = false then
        { s.cradle with
          moveClass := c, parked := p, state := .parking, drive := .stopped .guard, timers := .stopped
          outputs := { s.cradle.outputs.stopped with vacuumOpen := false, airKnife := none } }
      else if Config.flatAngle ≤ s.cradle.sensors.angle + Config.angleTolerance ∧ s.cradle.sensors.atRest = true then
        { s.cradle with
          moveClass := c, parked := none, state := .parked, drive := .moving
          timers := { s.cradle.timers with angle := none }
          outputs := { angleDrive := .stopped, armDrive := .stopped, wandDrive := .stopped, vacuumOpen := false,
                       airKnife := none } }
      else
        { s.cradle with
          moveClass := c, parked := p, state := .parking, drive := .moving
          timers := { s.cradle.timers with angle := some (s.angleTime c) }
          outputs := { angleDrive := .toward Config.flatAngle, armDrive := .toRest none, wandDrive := .up,
                       vacuumOpen := false, airKnife := none } } := by
  unfold State.beginParking
  dsimp only
  by_cases hc : s.guards.clear = true
  · simp only [State.onCradle_guards, hc, if_true, State.driveParking, State.parkingTest_cradle, Bool.true_eq_false,
      if_false]
    simp [State.onOutputs, Outputs.stopped]
  · simp only [Bool.not_eq_true] at hc
    simp only [State.onCradle_guards, hc, Bool.false_eq_true, if_false, if_true]
    simp [State.onOutputs, Outputs.stopped]

/-! ### The ends of a sweep, verdicts -/

theorem State.sweepTrip_ends (s : State) (r : SweepEnd) : (s.sweepTrip r).walker.sweep.state = .idle ∧
    (s.sweepTrip r).walker.sweep.lastEnd =
      (if s.walker.sweep.state = .idle then s.walker.sweep.lastEnd else some r) := by
  unfold State.sweepTrip
  split
  · simp [*]
  · simp [*, State.endSweep, State.onSweep]

theorem State.tearSlot_holders (s : State) : s.tearSlot.frames.planned = s.frames.planned ∧
    s.tearSlot.frames.slot = [] ∧ s.tearSlot.frames.completed = s.frames.completed ++ s.frames.slot ∧
    s.tearSlot.frames.free = s.frames.free ∧ s.tearSlot.frames.verdict = s.frames.verdict := by
  unfold State.tearSlot
  split
  · next h => simp [h]
  · dsimp only
    split <;> simp [State.completeSlot, State.handMeasured]

theorem State.endSweep_holders (s : State) (r : SweepEnd) (hr : r.tears = true) :
    (s.endSweep r).frames.planned = [] ∧ (s.endSweep r).frames.slot = [] ∧
      (s.endSweep r).frames.completed = s.frames.completed ++ s.frames.slot ++ s.frames.planned ∧
      (s.endSweep r).frames.free = s.frames.free ∧ (s.endSweep r).frames.verdict = s.frames.verdict := by
  have := State.tearSlot_holders s
  simp [State.endSweep, hr, State.divert, this]

/-- An end of a sweep that tears, or that finds the slot empty, leaves the slot and PLANNED empty (R132, R157). -/
theorem State.endSweep_empties (s : State) (r : SweepEnd) (h : r.tears = true ∨ s.frames.slot = []) :
    (s.endSweep r).frames.slot = [] ∧ (s.endSweep r).frames.planned = [] := by
  rcases h with h | h
  · exact ⟨(State.endSweep_holders s r h).2.1, (State.endSweep_holders s r h).1⟩
  · have := State.tearSlot_holders s
    cases hr : r.tears <;> simp [State.endSweep, hr, State.divert, h, this]

theorem Frames.holder_verdict {f : Frames} {i : Nat} (h : f.holder i = .verdict) : i ∈ f.verdict := by
  by_contra hx; simp [Frames.holder, hx] at h; split_ifs at h

theorem State.bookCoverage_frames (slot : Nat) (face : Face) (band : Nat) (s : State) :
    (s.bookCoverage slot face band).2.frames = s.frames := by
  unfold State.bookCoverage; split
  · split
    · rfl
    · simp [State.onFace_only]
  · rfl

/-! ### The notices of an event -/

/-- An event that leaves the ports alone delivers what it posted, and FRAMES WAITING where that is owed (R134, R190). -/
theorem State.finish_notified (s t : State) (h : ∀ link, t.port link = s.port link) :
    s.notified (s.finish t) (t.outbox ++ s.framesWaiting t) := by
  have flushed : ∀ u : State, (∀ link, u.port link = s.port link) → s.notified u.flush u.outbox := by
    intro u hu link
    have : (u.flush).port link = (u.port link).receive u.outbox link := by cases link <;> rfl
    rw [this, hu link]
    exact ⟨rfl, rfl⟩
  unfold State.finish State.framesWaiting
  split
  · exact flushed _ h
  · simpa using flushed t h

end Sys2Proof.Machine
end

