-- ==== Sys2Proof/Tests/Slice0.lean ====
section
/-! SUPPORT. Tests.Slice0: the checks of WellFormed, each with a term it refuses; the effect of every command on a small
state; and for every statement with hypotheses, states and operands that meet them, one for each of its clauses. -/

namespace Sys2Proof.Tests

-- one theorem after the other: each evaluation in the kernel takes a large stack of its own
set_option Elab.async false

open Sys2Proof.Machine

/-! ### Small states -/

def C : Origin := ⟨.conservation, 1#8⟩
def K : Origin := ⟨.capture, 2#8⟩
def A : Origin := ⟨.accounting, 3#8⟩

/-- The state a command leaves. -/
def after (c : Instr) (s : State) : State :=
  match exec c s with
  | .next t => t
  | .fault f => nomatch f
  | .refused _ => s

/-- The result and body of the reply to a request. -/
def reply (c : Instr) (o : Origin) (s : State) : Option (Result × List Nat) :=
  match ((after c s).port o.link).request with
  | some (.answered r) => some (r.result, r.body.map BitVec.toNat)
  | _ => none

/-- The kinds of the notices that a command leaves on the conservation queue. -/
def told (c : Instr) (s : State) : List Nat := (after c s).links.conservation.notices.map Notice.kind

/-- As `told`, on the capture queue. -/
def toldCapture (c : Instr) (s : State) : List Nat := (after c s).links.capture.notices.map Notice.kind

/-- A volume of 3 leaves, cleared for class 2, 110 degrees and 40000 du. -/
def volume : CustodyEntry :=
  { CustodyEntry.free 1 with
    state := .staged, sequence := 1, shelfMark := [77#8, 83#8], accession := 7, leafCount := 3
    clearance := some { handlingClass := 2, angleLimit := 110, faceBudget := 40000 } }

/-- A READY station with an entry in slot 0 and a PARKED cradle. -/
def station (e : CustodyEntry) : State :=
  { State.reset with
    station := { mode := .ready, lastReset := .device }
    settings := { State.reset.settings with state := .good }
    custody :=
      { entries := Vec.put (Vector.replicate 8 (.free 0)) 0 e
        leaves := (List.range e.leafCount).map fun i => (i, LeafRecord.fresh), nextSequence := 2 }
    cradle :=
      { State.reset.cradle with
        state := .parked, timers := .stopped
        sensors := { angle := 180, wandDown := false, vacuumHeld := false, armFar := false, armRest := true }
        outputs := { angleDrive := .stopped, armDrive := .stopped, wandDrive := .stopped, vacuumOpen := false,
                     airKnife := none } } }

def staged : State := station volume

/-- The volume on the cradle, open at opening 1. -/
def opened : State :=
  (station { volume with state := .mounted }).onCradle fun c =>
    { c with
      state := .openReady, mounted := some ⟨0, 1⟩, opening := 1, moveClass := 2
      sensors := { c.sensors with angle := 110 } }

def inMode (m : Mode) (s : State) : State := s.onStation fun x => { x with mode := m }
def unready (s : State) : State := s.onSettings fun x => { x with state := .fault }
def broken (s : State) : State := s.onGuards fun g => { g with curtainBroken := true, curtainLatch := true }
def latched (s : State) : State := s.onGuards fun g => { g with curtainLatch := true }
def inState (k : CradleState) (s : State) : State := s.onCradle fun c => { c with state := k }

/-- A moving PARKING of the volume in slot 0; `inState .parking` is one of a device reset, without a parked volume. -/
def parkingVolume (s : State) : State := inState .parking (s.onCradle fun c => { c with parked := some ⟨0, 1⟩ })
def sensing (f : Sensors → Sensors) (s : State) : State := s.onCradle fun c => { c with sensors := f c.sensors }

def turnRecord (p : Phase) (n : Nat) (wand : Bool) : TurnRecord :=
  { direction := .forward, count := 1, done := 0, effectiveClass := 2, retriesUsed := 0, phase := p, step := n,
    leafOnWand := wand, lastClass := none, drop := .counted }

/-- A turn of leaf 1 in a phase and step. -/
def turning (p : Phase) (n : Nat) (wand : Bool) : State :=
  opened.onCradle fun c => { c with state := .turning, turn := some (turnRecord p n wand) }

def low (s : State) : State := sensing (fun m => { m with armRest := false }) s

def holding (cause : StopCause) (work : HeldWork) (s : State) : State :=
  s.onCradle fun c => { c with state := .holding, hold := some { cause := cause, work := work } }

def faulted (s : State) : State :=
  s.onCradle fun c => { c with state := .fault, fault := some { cause := .timeout, phase := some .lift } }

/-- A plan of one entry, both cameras, bank 0 at level 800 for 40 ms. -/
def planned (s : State) : State :=
  s.onWalker fun w =>
    { w with
      plan := Vec.put w.plan 0 (some { cameras := .both, bank := 0, level := 800, duration := 40 }), planLength := 1 }

def frameOf (camera : Camera) (face : Face) (status : FrameStatus) : Descriptor :=
  { Descriptor.initial with
    generation := 1, volume := ⟨0, 1⟩, opening := 1, camera := camera, face := face, level := 800, duration := 40
    status := status }

/-- The sweep of the plan with its exposure, descriptors 0 and 1, in the slot. -/
def swept (state : SweepState) (stage : SlotStage) (status : FrameStatus) : State :=
  (((planned opened).onFrames fun q =>
    { q with
      pool := Vec.put (Vec.put q.pool 0 (frameOf .left (.verso 0) status)) 1 (frameOf .right (.recto 1) status)
      free := (List.range 256).drop 2, slot := [0, 1] }).onWalker fun w =>
    { w with
      sweep := { w.sweep with state := state, volume := some ⟨0, 1⟩, opening := some 1, started := true
                              stage := some stage } }).onEntry 0 fun e => { e with framesOpen := 2 }

/-- The exposure in the slot lit, `charged` of its 4 intervals metered. -/
def exposing (charged : Nat) : State :=
  ((swept .exposing .exposing .exposing).onLights fun l =>
    { l with banks := Vec.put l.banks 0 (.lit 800 .exposure) }).onMeter fun m =>
    { m with
      running := some { bank := 0, owner := .exposure }
      exposure := some { planned := 4, charged := charged, dose := 0, irradianceSum := 0 } }

/-- A lit preview. -/
def previewing : State :=
  (opened.onLights fun l =>
    { l with banks := Vec.put l.banks 0 (.lit 100 .preview), preview := some 100 }).onMeter fun m =>
    { m with
      running := some { bank := 0, owner := .preview }
      preview := some { charged := 0, dose := 0, volume := ⟨0, 1⟩, faces := opened.visible } }

/-- Descriptor 0 in VERDICT with a status. -/
def judged (status : FrameStatus) (face : Face) : State :=
  (opened.onFrames fun q =>
    { q with
      pool := Vec.put q.pool 0 (frameOf .left face status), free := (List.range 256).drop 1
      verdict := [0] }).onEntry 0 fun e => { e with framesOpen := 1 }

/-- The visible faces at their budget but for `left` du. -/
def exposedTo (left : Nat) (s : State) : State :=
  (s.onLeaf 0 0 fun r => { r with verso := { r.verso with dose := 40000 - left } }).onLeaf 0 1 fun r =>
    { r with recto := { r.recto with dose := 40000 - left } }

/-- Settings whose words are in range and sum to 4294967295. -/
def goodWords : Vector Word 70 :=
  let value := fun (i : Nat) =>
    if i < 32 then [5, 5, 2, 3000, 4000, 2000, 800, 20000].getD (i % 8) 0
    else if i < 64 then [1000, 0, 0, 16].getD (i % 4) 0
    else [40, 1000, 1000, 60000, 200].getD (i - 64) 0
  let words := (List.range 69).map value
  (List.range 70).foldl
    (fun v i => Vec.put v i (BitVec.ofNat 32 ((words ++ [4294967295 - words.sum]).getD i 0))) (Vector.replicate 70 0#32)

def kept (words : Vector Word 70) (s : State) : State := s.onSettings fun x => { x with words := words }

/-! ### WellFormed: a term that each check refuses -/

theorem test_wellFormed_accepts : Instr.wellFormed (.checkIn A [77#8] none 1 1024) = true ∧
    Instr.wellFormed (.storeUpset 69 0#32) = true ∧
    Instr.wellFormed (.requestFrameComplete .capture (.overlong 0#8 0#8 251#8)) = true := by decide +kernel
theorem test_wellFormed_body_length :
    Instr.wellFormed (.requestFrameComplete .capture (.whole 0#8 1#8 (List.replicate 251 0#8) 0#8)) = false := by
  decide +kernel
theorem test_wellFormed_overlong_length :
    Instr.wellFormed (.requestFrameComplete .capture (.overlong 0#8 1#8 250#8)) = false := by decide
theorem test_wellFormed_upset_index : Instr.wellFormed (.storeUpset 70 0#32) = false := by decide
theorem test_wellFormed_shelf_mark : Instr.wellFormed (.checkIn A [] none 1 1) = false ∧
    Instr.wellFormed (.checkIn A (List.replicate 25 65#8) none 1 1) = false ∧
    Instr.wellFormed (.checkIn A [31#8] none 1 1) = false ∧ Instr.wellFormed (.checkIn A [127#8] none 1 1) = false ∧
    Instr.wellFormed (.checkIn A [32#8, 65#8] none 1 1) = false ∧
    Instr.wellFormed (.checkIn A [65#8, 32#8] none 1 1) = false := by decide +kernel
theorem test_wellFormed_designation : Instr.wellFormed (.checkIn A [65#8] (some []) 1 1) = false ∧
    Instr.wellFormed (.checkIn A [65#8] (some (List.replicate 9 65#8)) 1 1) = false := by decide +kernel
theorem test_wellFormed_accession : Instr.wellFormed (.checkIn A [65#8] none 0 1) = false ∧
    Instr.wellFormed (.checkIn A [65#8] none 4294967296 1) = false ∧
    Instr.wellFormed (.checkIn A [65#8] none 1 0) = false ∧
    Instr.wellFormed (.checkIn A [65#8] none 1 1025) = false := by decide +kernel
theorem test_wellFormed_slot_generation : Instr.wellFormed (.hold C 8 0) = false ∧
    Instr.wellFormed (.hold C 0 256) = false ∧ Instr.wellFormed (.unhold C 8 0) = false ∧
    Instr.wellFormed (.dismount C 0 256) = false ∧ Instr.wellFormed (.release A 8 0) = false ∧
    Instr.wellFormed (.clearReference C 8 0) = false ∧ Instr.wellFormed (.listCustody A 8) = false ∧
    Instr.wellFormed (.readCustody A 8) = false := by decide +kernel
theorem test_wellFormed_handling : Instr.wellFormed (.setHandling C 0 0 0 60 1) = false ∧
    Instr.wellFormed (.setHandling C 0 0 5 60 1) = false ∧ Instr.wellFormed (.setHandling C 0 0 1 59 1) = false ∧
    Instr.wellFormed (.setHandling C 0 0 1 181 1) = false ∧ Instr.wellFormed (.setHandling C 0 0 1 60 0) = false ∧
    Instr.wellFormed (.setHandling C 0 0 1 60 2147483649) = false ∧ Instr.wellFormed (.setBudget C 0 0 0) = false ∧
    Instr.wellFormed (.waive C 0 0 256) = false := by decide +kernel
theorem test_wellFormed_leaf_opening : Instr.wellFormed (.mount C 0 0 1025) = false ∧
    Instr.wellFormed (.recoverTurn C 1025) = false ∧ Instr.wellFormed (.markLeaf C 0 0 1024 .normal) = false ∧
    Instr.wellFormed (.readLeaf C 0 1024) = false ∧ Instr.wellFormed (.approveTurn C 0 0 1024) = false ∧
    Instr.wellFormed (.confirmPick C 0 1024) = false ∧ Instr.wellFormed (.rejectPick C 0 1024) = false := by
  decide +kernel
theorem test_wellFormed_bands_turns : Instr.wellFormed (.setRequirement K 0 0 0#8) = false ∧
    Instr.wellFormed (.turn C .forward 0 1) = false ∧ Instr.wellFormed (.turn C .forward 17 1) = false ∧
    Instr.wellFormed (.turn C .back 1 0) = false ∧ Instr.wellFormed (.turn C .back 1 5) = false := by decide +kernel
theorem test_wellFormed_capture : Instr.wellFormed (.previewOn K 0) = false ∧
    Instr.wellFormed (.previewOn K 1024) = false ∧ Instr.wellFormed (.takeFrames K 0) = false ∧
    Instr.wellFormed (.takeFrames K 9) = false ∧ Instr.wellFormed (.acceptFrame K 256 0) = false ∧
    Instr.wellFormed (.rejectFrame K 0 16) = false ∧ Instr.wellFormed (.setPlanEntry K 32 .left 0 1 10) = false ∧
    Instr.wellFormed (.setPlanEntry K 0 .left 8 1 10) = false ∧
    Instr.wellFormed (.setPlanEntry K 0 .left 0 1024 10) = false ∧
    Instr.wellFormed (.setPlanEntry K 0 .left 0 1 15) = false ∧
    Instr.wellFormed (.setPlanLength K 33) = false ∧ Instr.wellFormed (.readPlan K 32) = false ∧
    Instr.wellFormed (.captureOpening K (.count 0)) = false := by decide +kernel
theorem test_wellFormed_station : Instr.wellFormed (.setSetting C 70 0#32) = false ∧
    Instr.wellFormed (.setSetting C 0 16#32) = false ∧ Instr.wellFormed (.readSetting C 70) = false ∧
    Instr.wellFormed (.takeNotices C 0) = false ∧ Instr.wellFormed (.takeNotices C 9) = false := by decide +kernel
/-! ### The queue, the reset and the invariants -/

theorem test_front_command_runs : State.reset.pending = [] ∧
    (match step (State.reset.withPending [.stopKeyPress, .deviceReset]) with
      | .next t => t.guards.stopLatch && t.pending == [.deviceReset]
      | _ => false) = true := by
  and_intros <;> decide +kernel
theorem test_touchesPort : Instr.touchesPort .capture (.halt C) = false ∧
    Instr.touchesPort .capture (.doneEdge .left) = false ∧ Instr.touchesPort .capture (.takeNotices K 1) = true := by
  and_intros <;> decide +kernel

/-- A state with every invariant, in which a step is taken. -/
def waiting : State := opened.withPending [.dismount C 0 1]

theorem test_invariants_before_a_step : LeafStore.wf waiting.custody.leaves ∧ waiting.extentsShareStore ∧
    waiting.frames.whole ∧ waiting.oneMounted ∧ waiting.noticesBounded ∧ waiting.LightSafe ∧
    ∃ t, step waiting = .next t :=
  ⟨by decide +kernel, waiting.extentsShareStore_of_check (by decide +kernel), by show List.Perm _ _; decide +kernel,
    by decide +kernel, by intro l; cases l <;> decide, waiting.lightSafe_of_check (by decide +kernel), _, rfl⟩
theorem test_device_reset : (after .deviceReset (broken (exposing 1))).guards.curtainLatch = true ∧
    (after .deviceReset (broken (exposing 1))).cradle.drive = .stopped .guard ∧
    (after .deviceReset opened).cradle.drive = .moving ∧
    (after .deviceReset staged).cradle.state = .parked := by
  and_intros <;> decide +kernel

/-! ### The station links -/

/-- A state whose port holds a request that its block has not taken. -/
def handed : State := staged.onPort .conservation fun p => { p with request := some (.untaken (.hold C 0 1)) }
def answering (s : State) : State :=
  s.onPort .conservation fun p =>
    { p with request := some (.answered { tag := 1#8, code := 4#8, result := .ok, body := [] }) }
def busy (sending : Bool) (s : State) : State :=
  s.onPort .conservation fun p => { p with busy := some { tag := 9#8, code := 4#8, sending := sending } }
def discarding : State := staged.receiving .conservation .discarding

theorem test_requests_answered : staged.accepts (.hold C 0 1) C ∧ Instr.origin (.hold C 0 1) = some C ∧
    handed.holdsRequest (.hold C 0 1) C = true ∧ handed.quiet ∧
    reply (.hold C 0 1) C handed = some (.ok, []) ∧ ((after (.hold C 0 1) handed).entry 0).hold = some .conservation := by
  and_intros <;> decide +kernel

/-- The right frame of a HOLD of slot 0 generation 1, tag 5, and what each check refuses of it. -/
theorem test_frame_checks : (staged.port .conservation).idle ∧ staged.quiet ∧
    ((after (.requestFrameComplete .conservation (.whole 5#8 4#8 [0#8, 1#8] 244#8)) staged).port .conservation).request =
      some (.untaken (.hold ⟨.conservation, 5#8⟩ 0 1)) ∧
    (let f := fun (frame : Frame) =>
      (((after (.requestFrameComplete .conservation frame) staged).port .conservation).request).map fun
        | .answered r => some r.result
        | .untaken _ => none
     f (.whole 5#8 4#8 [0#8, 1#8] 243#8) = some (some .badFrame) ∧
      f (.whole 5#8 0#8 [] 251#8) = some (some .unknownRequest) ∧
      f (.whole 5#8 43#8 [] 208#8) = some (some .unknownRequest) ∧
      f (.whole 5#8 1#8 [] 250#8) = some (some .notPermitted) ∧
      f (.whole 5#8 4#8 [8#8, 1#8] 236#8) = some (some .badArgument) ∧
      f (.overlong 5#8 4#8 251#8) = some (some .badFrame)) := by
  and_intros <;> decide +kernel
theorem test_permission_clauses : ([] : List Byte).length ≤ 250 ∧ (43#8 : Byte).toNat = 43 ∧
    codePermitted 1 .conservation = false ∧ decodeBody ⟨.accounting, 1#8⟩ 10 [] = none ∧
    decodeBody ⟨.conservation, 1#8⟩ 42 [8#8] = some (.takeNotices ⟨.conservation, 1#8⟩ 8) := by
  and_intros <;> decide +kernel
theorem test_encoded_request : Instr.origin (.checkIn A [77#8] (some [66#8]) 4294967295 1024) = some A ∧
    requestCode (.checkIn A [77#8] (some [66#8]) 4294967295 1024) = some 1 ∧
    linkRangeOk (.checkIn A [77#8] (some [66#8]) 4294967295 1024) = true ∧
    decodeBody A 1 (encodeBody (.checkIn A [77#8] (some [66#8]) 4294967295 1024)) =
      some (.checkIn A [77#8] (some [66#8]) 4294967295 1024) ∧
    staged.accepts (.checkIn A [77#8] (some [66#8]) 4294967295 1024) A := by
  and_intros <;> decide +kernel
theorem test_busy_clauses : (answering staged).quiet ∧
    ((answering staged).port .conservation).reception ≠ .discarding ∧
    ((answering staged).port .conservation).request ≠ none ∧ ((busy true staged).port .conservation).busy ≠ none ∧
    ((after (.requestFrameComplete .conservation (.whole 7#8 3#8 [] 0#8)) (answering staged)).port .conservation).busy =
      some { tag := 7#8, code := 3#8, sending := false } := by
  and_intros <;> decide +kernel
theorem test_reply_sent_clauses :
    ((after (.replySent .conservation) (busy true staged)).port .conservation).busy = none ∧
    ((after (.replySent .conservation) (answering staged)).port .conservation).request = none ∧
    ((after (.replySent .conservation) (busy false (answering staged))).port .conservation) =
      { Port.initial with busy := some { tag := 9#8, code := 4#8, sending := true } } ∧
    (after (.replySent .conservation) staged).links = staged.links := by
  and_intros <;> decide +kernel
theorem test_reception_clauses : (251#8 : Byte).toNat = 251 ∧ (staged.port .conservation).idle ∧
    ((after (.startByte .conservation) staged).port .conservation).reception = .inFrame ∧
    ((after (.linkIdleTimeout .conservation) discarding).port .conservation).reception = .outside ∧
    (discarding.port .conservation).reception = .discarding ∧ (answering staged).quiet ∧
    ((answering staged).port .conservation).request ≠ none ∧
    ((answering staged).port .conservation).busy = none := by
  and_intros <;> decide +kernel

/-- Four notices queued, the body of 8 of the longest kept below 250 bytes. -/
def noticed (n : Nat) : State :=
  staged.onPort .conservation fun p => { p with notices := (List.range n).map fun i => .framesWaiting i, lost := true }

theorem test_take_notices : (noticed 3).accepts (.takeNotices C 8) C ∧
    reply (.takeNotices C 8) C (noticed 3) =
      some (.ok, [3, 1, 0, 9, 2, 0, 0, 9, 2, 0, 1, 9, 2, 0, 2]) ∧
    reply (.takeNotices C 1) C (noticed 3) = some (.ok, [1, 1, 2, 9, 2, 0, 0]) ∧
    ((after (.takeNotices C 1) (noticed 3)).port .conservation).lost = false := by
  and_intros <;> decide +kernel
theorem test_notice_bounds : ((noticed 31).port .conservation).notices.length < 32 ∧
    32 ≤ ((noticed 32).port .conservation).notices.length ∧
    (((noticed 32).port .conservation).push (.framesWaiting 9)).notices.length = 32 ∧
    (Port.initial.receive [.modeChanged .ready .halted .halt, .framesWaiting 1, .turnHeld .halt .settling 0 State.reset.gauge.values]
      .conservation).notices.map Notice.kind = [5, 12] ∧
    ((noticed 31).port .conservation).notices.length + [Notice.framesWaiting 9].length ≤ 32 := by
  and_intros <;> decide +kernel

/-! ### Custody -/

def second : Instr := .checkIn A [77#8, 84#8] none 9 4093
def full : State :=
  staged.onCustody fun c => { c with entries := Vec.each c.entries fun e => { e with state := .staged } }

theorem test_checkIn_clauses :
    staged.offered (.checkIn A [] none 0 0) A ∧ LeafStore.wf staged.custody.leaves ∧
    reply (.checkIn A [77#8] none 0 1) A staged = some (.badArgument, []) ∧
    reply (.checkIn A [77#8, 83#8] none 1 1024) A staged = some (.duplicate, [0, 1]) ∧
    reply (.checkIn A [77#8, 84#8] none 1 1) A full = some (.noSlot, []) ∧
    reply (.checkIn A [77#8, 84#8] none 1 1024) A
      (staged.onLeaves fun _ => (List.range 5).map fun i => (800 * i, LeafRecord.fresh)) = some (.noExtent, []) ∧
    reply (.checkIn A [77#8, 84#8] none 1 1024) A staged = some (.ok, [1, 1, 0, 0, 0, 2, 0, 3]) ∧
    told (.checkIn A [77#8, 84#8] none 1 1024) staged = [1] := by
  and_intros <;> decide +kernel
theorem test_firstFit : LeafStore.wf staged.custody.leaves ∧ firstFit 4093 staged.custody.leaves = some 3 ∧
    firstFit 4094 staged.custody.leaves = none ∧ longestRun staged.custody.leaves = some (3, 4093) ∧
    firstFit 1 [(0, LeafRecord.fresh), (2, LeafRecord.fresh)] = some 1 := by
  and_intros <;> decide +kernel
theorem test_clearance_hold_waiver :
    staged.accepts (.setHandling C 0 1 4 60 2147483648) C ∧ staged.accepts (.hold C 0 1) C ∧
    staged.accepts (.waive C 0 1 255) C ∧
    reply (.setHandling C 0 2 4 60 1) C staged = some (.stale, []) ∧
    reply (.setHandling C 0 1 4 60 1) C opened = some (.state, []) ∧
    ((after (.setHandling C 0 1 4 60 1) staged).entry 0).clearance = some ⟨4, 60, 1⟩ ∧
    reply (.hold C 1 0) C staged = some (.state, []) ∧
    ((after (.hold C 0 1) staged).entry 0).hold = some .conservation ∧
    reply (.waive C 0 0 0) C staged = some (.stale, []) ∧
    ((after (.waive C 0 1 255) staged).entry 0).waiver = some 255 := by
  and_intros <;> decide +kernel
theorem test_unhold : staged.accepts (.unhold C 0 1) C ∧
    ((after (.unhold C 0 1) (after (.replySent .conservation) (after (.hold C 0 1) staged))).entry 0).hold = none ∧
    reply (.unhold C 0 1) C staged = some (.ok, []) ∧ reply (.unhold C 1 0) C staged = some (.state, []) ∧
    reply (.unhold C 0 9) C staged = some (.stale, []) := by
  and_intros <;> decide +kernel
theorem test_setBudget_clauses :
    staged.accepts (.setBudget C 0 1 500) C ∧ reply (.setBudget C 0 2 500) C staged = some (.stale, []) ∧
    reply (.setBudget C 1 0 500) C staged = some (.state, []) ∧
    reply (.setBudget C 0 1 500) C (staged.onEntry 0 fun e => { e with clearance := none }) =
      some (.notCleared, []) ∧
    reply (.setBudget C 0 1 500) C staged = some (.ok, [0, 0, 1, 244]) ∧ (staged.entry 0).state = .staged ∧
    opened.lights.dark ∧ opened.mountedSlot = some 0 ∧
    (exposedTo 0 previewing).lightOwner = some .preview ∧
    ((exposedTo 10 previewing).visible.filter fun v =>
      decide (39990 ≤ (exposedTo 10 previewing).custody.doseOf ((exposedTo 10 previewing).entry 0) v)) ≠ [] ∧
    told (.setBudget C 0 1 39990) (exposedTo 10 previewing) = [10, 10] ∧
    (after (.setBudget C 0 1 39990) (exposedTo 10 previewing)).lights.preview = none ∧
    (exposedTo 10 (exposing 1)).lightOwner = some .exposure ∧
    (after (.setBudget C 0 1 39990) (exposedTo 10 (exposing 1))).frames.completed = [0, 1] ∧
    toldCapture (.setBudget C 0 1 39990) (exposedTo 10 (exposing 1)) = [10, 10, 9, 8] ∧
    ((after (.setBudget C 0 1 39990) (exposedTo 10 (exposing 1))).frame 0).status = .cut := by
  and_intros <;> decide +kernel
theorem test_setBudget_lightSafe : (exposedTo 10 previewing).LightSafe ∧ (exposedTo 10 (exposing 1)).LightSafe :=
  ⟨State.lightSafe_of_check _ (by decide +kernel), State.lightSafe_of_check _ (by decide +kernel)⟩
theorem test_mount_checks :
    staged.offered (.mount C 0 1 3) C ∧ reply (.mount C 0 1 1025) C staged = some (.badArgument, []) ∧
    reply (.mount C 0 1 3) C (inMode .halted staged) = some (.mode, []) ∧
    reply (.mount C 0 2 3) C staged = some (.stale, []) ∧ reply (.mount C 0 1 3) C opened = some (.state, []) ∧
    reply (.mount C 0 1 3) C (staged.onEntry 0 fun e => { e with clearance := none }) = some (.notCleared, []) ∧
    reply (.mount C 0 1 3) C (staged.onEntry 0 fun e => { e with hold := some .conservation }) = some (.held, []) ∧
    reply (.mount C 0 1 3) C (staged.onEntry 7 fun e => { e with state := .mounted }) = some (.state, []) ∧
    reply (.mount C 0 1 3) C (inState .parking staged) = some (.cradleBusy, []) ∧
    reply (.mount C 0 1 3) C (unready staged) = some (.settingsFault, []) ∧
    reply (.mount C 0 1 4) C staged = some (.leafBounds, [0, 3]) ∧
    reply (.mount C 0 1 3) C staged = some (.accepted, [0, 1, 0, 3, 110]) := by
  and_intros <;> decide +kernel
theorem test_mount_settles :
    staged.accepts (.mount C 0 1 3) C ∧ staged.station.mode = .ready ∧ staged.mountedSlot = none ∧
    (staged.entry 0).clearance = some ⟨2, 110, 40000⟩ ∧
    (after (.mount C 0 1 3) (latched staged)).cradle.state = .holding ∧
    (after (.mount C 0 1 3) (sensing (fun m => { m with angle := 112 }) staged)).cradle.state = .openReady ∧
    told (.mount C 0 1 3) (sensing (fun m => { m with angle := 108 }) staged) = [2] ∧
    (after (.mount C 0 1 3) (sensing (fun m => { m with angle := 113 }) staged)).cradle.timers.angle = some 30000 := by
  and_intros <;> decide +kernel
theorem test_dismount_clauses :
    opened.accepts (.dismount C 0 1) C ∧ reply (.dismount C 0 1) C (inMode .halted opened) = some (.mode, []) ∧
    reply (.dismount C 0 2) C opened = some (.stale, []) ∧ reply (.dismount C 0 1) C staged = some (.state, []) ∧
    reply (.dismount C 0 1) C (turning .carry 1 true) = some (.cradleBusy, []) ∧
    reply (.dismount C 0 1) C (holding .guard .turn (turning .carry 1 true)) = some (.cradleBusy, []) ∧
    (holding .guard .turn (turning .lift 1 false)).cradle.leafOnWand = false ∧
    (after (.dismount C 0 1) (holding .guard .turn (turning .lift 1 false))).cradle.state = .parking ∧
    (after (.dismount C 0 1) (latched opened)).cradle.drive = .stopped .guard ∧
    reply (.dismount C 0 1) C opened = some (.accepted, [0, 1]) ∧ told (.dismount C 0 1) (latched opened) = [5] ∧
    told (.dismount C 0 1) (sensing (fun m => { m with angle := 178 }) opened) = [3] ∧
    (after (.dismount C 0 1) opened).cradle.drive = .moving ∧
    toldCapture (.dismount C 0 1) (swept .confirming .confirming .confirming) = [9, 8] ∧
    (after (.dismount C 0 1) (sensing (fun m => { m with angle := 178 }) opened)).cradle.state = .parked ∧
    (after (.dismount C 0 1) (swept .confirming .confirming .confirming)).frames.completed = [0, 1] ∧
    (after (.dismount C 0 1) previewing).lights.lastEnd = some .dismount := by
  and_intros <;> decide +kernel
theorem test_dismount_lightSafe : opened.LightSafe ∧ previewing.LightSafe ∧
    (swept .confirming .confirming .confirming).LightSafe ∧ (holding .guard .turn (turning .lift 1 false)).LightSafe :=
  ⟨State.lightSafe_of_check _ (by decide +kernel), State.lightSafe_of_check _ (by decide +kernel),
    State.lightSafe_of_check _ (by decide +kernel), State.lightSafe_of_check _ (by decide +kernel)⟩
theorem test_release_clauses :
    staged.accepts (.release A 0 1) A ∧ reply (.release A 0 2) A staged = some (.stale, []) ∧
    reply (.release A 0 1) A opened = some (.state, []) ∧
    reply (.release A 0 1) A (staged.onEntry 0 fun e => { e with hold := some .restart }) = some (.held, []) ∧
    reply (.release A 0 1) A (staged.onEntry 0 fun e => { e with framesOpen := 1 }) = some (.framesOpen, [0, 1]) ∧
    reply (.release A 0 1) A (staged.onEntry 0 fun e => { e with leavesComplete := 2 }) =
      some (.incomplete, [0, 2]) ∧
    ((after (.release A 0 1) (staged.onEntry 0 fun e => { e with leavesComplete := 3 })).entry 0) = .free 1 ∧
    (after (.release A 0 1) (staged.onEntry 0 fun e => { e with waiver := some 0 })).custody.leaves = [] := by
  and_intros <;> decide +kernel
theorem test_custody_is_read : opened.quiet ∧ (opened.port .capture).idle ∧ opened.accepts (.listCustody A 7) A ∧
    (reply (.readCustody K 7) K opened).map (fun r => r.2.length) = some 81 ∧
    reply (.listCustody A 1) A opened = some (.ok, [0, 255]) := by
  and_intros <;> decide +kernel

/-! ### The leaf register -/

theorem test_markLeaf_clauses :
    opened.accepts (.markLeaf C 0 1 2 .damaged) C ∧
    reply (.markLeaf C 0 2 2 .damaged) C opened = some (.stale, []) ∧
    reply (.markLeaf C 1 0 0 .damaged) C opened = some (.state, []) ∧
    reply (.markLeaf C 0 1 3 .damaged) C opened = some (.leafBounds, [0, 3]) ∧
    reply (.markLeaf C 0 1 1 .damaged) C (turning .lift 1 false) = some (.cradleBusy, []) ∧
    reply (.markLeaf C 0 1 2 .damaged) C opened = some (.ok, [0, 2, 0, 2, 0, 0, 0, 0, 1]) ∧
    reply (.markLeaf C 0 1 2 .withheld) C opened = some (.ok, [0, 2, 0, 3, 1, 0, 1, 0, 0]) := by
  and_intros <;> decide +kernel
theorem test_markLeaf_premises : opened.extentsShareStore ∧ opened.countsAgree 0 :=
  ⟨State.extentsShareStore_of_check _ (by decide +kernel), by decide +kernel⟩
theorem test_setRequirement_clauses :
    opened.offered (.setRequirement K 0 1 255#8) K ∧ reply (.setRequirement K 0 1 0#8) K opened =
      some (.badArgument, []) ∧
    reply (.setRequirement K 0 2 1#8) K opened = some (.stale, []) ∧
    reply (.setRequirement K 7 0 1#8) K opened = some (.state, []) ∧
    reply (.setRequirement K 0 1 255#8) K opened = some (.ok, [255, 0, 0]) := by
  and_intros <;> decide +kernel
theorem test_readLeaf_clauses :
    opened.quiet ∧ (opened.port .accounting).idle ∧ opened.oneMounted ∧
    reply (.readLeaf A 8 0) A opened = some (.badArgument, []) ∧
    reply (.readLeaf A 0 1024) A opened = some (.badArgument, []) ∧
    reply (.readLeaf A 7 0) A opened = some (.state, []) ∧
    reply (.readLeaf A 0 3) A opened = some (.leafBounds, [0, 3]) ∧
    (reply (.readLeaf A 0 0) A opened).map (fun r => r.2.getLast?) = some (some 2) ∧
    (reply (.readLeaf A 0 1) A (turning .lift 1 false)).map (fun r => r.2.getLast?) = some (some 12) := by
  and_intros <;> decide +kernel

/-! ### The cradle -/

theorem test_turn_checks :
    opened.accepts (.turn K .forward 2 4) K ∧ reply (.turn K .forward 2 4) K (inMode .halted opened) = some (.mode, []) ∧
    reply (.turn K .forward 1 4) K staged = some (.noVolume, []) ∧
    reply (.turn K .forward 1 4) K (opened.onEntry 0 fun e => { e with hold := some .turnFault }) = some (.held, []) ∧
    reply (.turn K .forward 1 4) K (unready opened) = some (.settingsFault, []) ∧
    reply (.turn K .forward 1 4) K (inState .settling opened) = some (.cradleBusy, []) ∧
    reply (.turn K .forward 1 4) K (swept .confirming .confirming .confirming) = some (.openingBusy, []) ∧
    reply (.turn K .forward 1 4) K (latched opened) = some (.guard, []) ∧
    reply (.turn K .forward 3 4) K opened = some (.leafBounds, [0, 3]) ∧
    reply (.turn K .back 2 4) K opened = some (.leafBounds, [0, 3]) ∧
    reply (.turn K .forward 2 1) K opened = some (.accepted, [0, 2, 1, 0, 1]) ∧
    reply (.turn K .back 1 4) K opened = some (.accepted, [1, 1, 2, 0, 1]) := by
  and_intros <;> decide +kernel

def foldout : State := opened.onLeaf 0 1 fun r => { r with mark := .foldout }
def approved : State :=
  foldout.onCradle fun c => { c with approval := some { slot := 0, generation := 1, leaf := 1 } }

theorem test_turn_starts :
    opened.mountedSlot = some 0 ∧ (opened.leaf 0 1).mark = .normal ∧
    (after (.turn K .forward 2 4) opened).gauge.gate = some .baseline ∧
    (after (.turn K .forward 1 4)
      (kept goodWords (sensing (fun m => { m with armRest := false }) opened))).cradle.timers.lift = some 3000 ∧
    (after (.turn K .forward 1 4) approved).cradle.approval = none ∧
    (after (.turn K .forward 1 4) approved).cradle.state = .turning ∧
    told (.turn K .forward 1 4) foldout = [4] ∧ (after (.turn K .forward 1 4) foldout).cradle.state = .openReady := by
  and_intros <;> decide +kernel
theorem test_turn_lightSafe : opened.LightSafe ∧ foldout.LightSafe ∧ approved.LightSafe :=
  ⟨State.lightSafe_of_check _ (by decide +kernel), State.lightSafe_of_check _ (by decide +kernel),
    State.lightSafe_of_check _ (by decide +kernel)⟩
theorem test_approval_and_reference :
    opened.offered (.approveTurn C 0 1 1023) C ∧ opened.accepts (.clearReference C 0 1) C ∧
    reply (.approveTurn C 0 1 1024) C opened = some (.badArgument, []) ∧
    reply (.approveTurn C 0 2 0) C opened = some (.stale, []) ∧
    reply (.approveTurn C 7 0 0) C opened = some (.state, []) ∧
    reply (.approveTurn C 0 1 3) C opened = some (.leafBounds, [0, 3]) ∧
    reply (.approveTurn C 0 1 2) C approved = some (.ok, [0, 1, 0, 2, 0, 1, 0, 1]) ∧
    reply (.clearReference C 0 1) C (opened.onEntry 0 fun e => { e with reference := 500 }) = some (.ok, [1, 244]) ∧
    reply (.clearReference C 0 2) C opened = some (.stale, []) ∧
    reply (.clearReference C 1 0) C opened = some (.state, []) := by
  and_intros <;> decide +kernel

def parkingStopped (s : State) : State :=
  s.onCradle fun c => { c with state := .parking, drive := .stopped .angleTimeout, parked := some ⟨0, 1⟩ }

theorem test_resume_clauses :
    (holding .guard .turn (turning .carry 1 true)).accepts (.resume C) C ∧ reply (.resume C) C opened = some (.state, []) ∧
    reply (.resume C) C (inMode .halted (holding .halt .turn (turning .carry 1 true))) = some (.mode, []) ∧
    reply (.resume C) C (unready (holding .settings .turn (turning .carry 1 true))) = some (.settingsFault, []) ∧
    reply (.resume C) C (latched (holding .guard .turn (turning .carry 1 true))) = some (.guard, []) ∧
    (after (.resume C) (holding .guard .turn (turning .carry 1 true))).cradle.timers.carry = some 10000 ∧
    (after (.resume C) (holding .guard .turn (turning .lift 4 true))).gauge.gate = some .lift ∧
    (holding .guard .settling opened).mountedSlot = some 0 ∧
    told (.resume C) (holding .guard .settling opened) = [2] ∧
    (after (.resume C) (sensing (fun m => { m with angle := 113 }) (holding .guard .settling opened))).cradle.state =
      .settling ∧
    (parkingStopped staged).accepts (.resume C) C ∧ told (.resume C) (parkingStopped staged) = [3] ∧
    (after (.resume C) (parkingStopped opened)).cradle.drive = .moving := by
  and_intros <;> decide +kernel

/-- A held turn in a phase and step, its sensors set. -/
def heldAt (p : Phase) (n : Nat) (f : Sensors → Sensors) : State :=
  kept goodWords (sensing f (holding .guard .turn (turning p n false)))

theorem test_resume_standing_conditions :
    (heldAt .baseline 1 id).accepts (.resume C) C ∧
    (let resumed := fun (p : Phase) (n : Nat) (f : Sensors → Sensors) =>
      (after (.resume C) (heldAt p n f)).cradle.turn.map fun r => (r.phase, r.step)
     resumed .baseline 1 id = some (.baseline, 2) ∧
      resumed .lift 1 (fun m => { m with wandDown := true }) = some (.lift, 2) ∧
      resumed .lift 2 (fun m => { m with vacuumHeld := true }) = some (.lift, 3) ∧
      resumed .lift 3 id = some (.lift, 4) ∧
      resumed .carry 1 (fun m => { m with armFar := true }) = some (.lay, 1) ∧
      resumed .lay 1 (fun m => { m with wandDown := true }) = some (.lay, 2) ∧
      resumed .lay 2 id = some (.returning, 1) ∧ resumed .returning 1 id = some (.settle, 1) ∧
      resumed .drop 1 (fun m => { m with armRest := false }) = some (.baseline, 1)) ∧
    (heldAt .returning 1 id).settleTime 2 = 800 ∧
    (holding .guard .turn (turning .settle 1 false)).settleTime 2 = 0 ∧
    (after (.resume C) (holding .guard .turn (turning .settle 1 false))).cradle.opening = 2 ∧
    told (.resume C) (holding .guard .turn (turning .settle 1 false)) = [4] := by
  and_intros <;> decide +kernel
theorem test_recoverTurn_clauses :
    (faulted (turning .carry 1 true)).offered (.recoverTurn C 1) C ∧
    reply (.recoverTurn C 1025) C (faulted (turning .carry 1 true)) = some (.badArgument, []) ∧
    reply (.recoverTurn C 1) C opened = some (.state, []) ∧
    reply (.recoverTurn C 0) C (faulted (turning .carry 1 true)) = some (.leafBounds, [0, 3]) ∧
    reply (.recoverTurn C 2) C (latched (faulted (turning .carry 1 true))) = some (.guard, []) ∧
    (after (.recoverTurn C 1) (sensing (fun m => { m with angle := 113 }) (faulted opened))).cradle.state = .settling ∧
    recoveryAllowed (faulted (turning .carry 1 true)).cradle.turn 1 2 = true ∧
    (faulted (turning .carry 1 true)).cradle.currentLeaf = some 1 ∧
    (after (.recoverTurn C 2) (sensing (fun m => { m with armRest := false }) (faulted (turning .carry 1 true)))).cradle.state
      = .recovering ∧
    told (.recoverTurn C 2) (faulted (turning .carry 1 true)) = [4] ∧
    ((after (.recoverTurn C 2) (faulted (turning .carry 1 true))).entry 0).turns = 1 ∧
    ((after (.recoverTurn C 1) (faulted (turning .carry 1 true))).entry 0).turns = 0 ∧
    (faulted opened).cradle.turn = none ∧ told (.recoverTurn C 1) (faulted opened) = [2] ∧
    (after (.recoverTurn C 1) (faulted opened)).cradle.state = .openReady := by
  and_intros <;> decide +kernel

/-- A recovery to opening 2 with the arm away from rest. -/
def recovering : State :=
  low ((inState .recovering (turning .returning 1 false)).onCradle fun c => { c with target := some 2 })

theorem test_recovery_ends :
    recovering.quiet ∧ recovering.mountedSlot = some 0 ∧ recovering.cradle.currentLeaf = some 1 ∧
    recovering.cradle.sensors.wandDown = false ∧ told (.armRestChange true) recovering = [4] ∧
    (after (.armRestChange true) recovering).cradle.opening = 2 ∧
    told (.wandDownChange false) (sensing (fun m => { m with armRest := true, wandDown := true }) recovering) = [4] := by
  and_intros <;> decide +kernel

/-! ### The phases of a leaf -/

def down (s : State) : State := sensing (fun m => { m with wandDown := true }) s
def sealed (s : State) : State := sensing (fun m => { m with vacuumHeld := true }) s
def dropping (d : DropKind) : State :=
  sealed ((turning .drop 1 false).onCradle fun c =>
    { c with turn := some { turnRecord .drop 1 false with drop := d } })

def stepAfter (c : Instr) (s : State) : Option (Phase × Nat) :=
  (after c s).cradle.turn.map fun r => (r.phase, r.step)

theorem test_sensor_steps :
    stepAfter (.wandDownChange false) (down (turning .baseline 1 false)) = some (.baseline, 2) ∧
    stepAfter (.armRestChange true) (low (turning .baseline 1 false)) = some (.baseline, 2) ∧
    stepAfter (.wandDownChange true) (turning .lift 1 false) = some (.lift, 2) ∧
    stepAfter (.vacuumHeldChange true) (turning .lift 2 false) = some (.lift, 3) ∧
    stepAfter (.wandDownChange false) (down (turning .lift 3 true)) = some (.lift, 4) ∧
    stepAfter (.armFarChange true) (turning .carry 1 true) = some (.lay, 1) ∧
    stepAfter (.wandDownChange true) (turning .lay 1 true) = some (.lay, 2) ∧
    stepAfter (.vacuumHeldChange false) (sealed (turning .lay 2 false)) = some (.returning, 1) ∧
    stepAfter (.vacuumHeldChange false) (low (dropping .rejected)) = some (.baseline, 1) := by
  and_intros <;> decide +kernel
theorem test_settle_step : (kept goodWords opened).settleTime 2 = 800 ∧
    stepAfter (.armRestChange true) (kept goodWords (low (turning .returning 1 false))) = some (.settle, 1) ∧
    stepAfter (.wandDownChange false) (kept goodWords (down (turning .returning 1 false))) = some (.settle, 1) := by
  and_intros <;> decide +kernel

/-- RETURN of leaf 1 in a turn of two leaves, with the mark of leaf 2; the settle time is 0. -/
def returningInto (mark : LeafMark) : State :=
  down (((turning .returning 1 false).onCradle fun c =>
    { c with turn := some { turnRecord .returning 1 false with count := 2 } }).onLeaf 0 2 fun r => { r with mark := mark })

/-- A settle time of 0: the change that ends RETURN books the leaf too. -/
theorem test_settle_zero :
    opened.settleTime 2 = 0 ∧ (returningInto .normal).mountedSlot = some 0 ∧
    (returningInto .normal).cradle.currentLeaf = some 1 ∧
    told (.armRestChange true) (low (turning .returning 1 false)) = [4] ∧
    told (.wandDownChange false) (down (turning .returning 1 false)) = [4] ∧
    (after (.wandDownChange false) (down (turning .returning 1 false))).cradle.opening = 2 ∧
    stepAfter (.wandDownChange false) (returningInto .withheld) = some (.baseline, 2) ∧
    (after (.wandDownChange false) (returningInto .normal)).gauge.gate = some .baseline ∧
    (after (.wandDownChange false) (returningInto .foldout)).cradle.state = .openReady ∧
    told (.wandDownChange false) (returningInto .foldout) = [4] ∧
    stepAfter (.wandDownChange false) ((returningInto .damaged).onCradle fun c => { c with approval := some ⟨0, 1, 2⟩ }) =
      some (.baseline, 2) := by
  and_intros <;> decide +kernel
/-- A DROP whose VACUUM HELD fell first ends at the fall of WAND DOWN. -/
def droppingDown (d : DropKind) : State := down (sensing (fun m => { m with vacuumHeld := false }) (dropping d))

theorem test_drop_by_wand :
    stepAfter (.wandDownChange false) (droppingDown .rejected) = some (.baseline, 2) ∧
    stepAfter (.wandDownChange false) (low (droppingDown .rejected)) = some (.baseline, 1) ∧
    stepAfter (.wandDownChange false) (kept goodWords (droppingDown .counted)) = some (.baseline, 2) ∧
    (after (.wandDownChange false) (droppingDown .counted)).cradle.fault =
      some { cause := .pickDouble, phase := some .drop } ∧
    told (.wandDownChange false) (droppingDown .unconfirmed) = [6] := by
  and_intros <;> decide +kernel

/-- A PARKING that moves, its sensors set. -/
def parkingFrom (f : Sensors → Sensors) : State := sensing f (inState .parking staged)

theorem test_unawaited :
    (faulted opened).cradle.leafOnWand = false ∧ (after (.angleChange 90) opened).cradle.sensors.angle = 90 ∧
    (after (.armFarChange true) staged).cradle.sensors.armFar = true ∧
    (after (.vacuumHeldChange true) (faulted opened)).cradle.sensors.vacuumHeld = true ∧
    (after (.wandDownChange true) (holding .guard .settling opened)).cradle.sensors.wandDown = true ∧
    (after (.armFarChange true) (turning .lift 1 false)).cradle =
      (sensing (fun m => { m with armFar := true }) (turning .lift 1 false)).cradle ∧
    (after (.armRestChange true) (low (turning .carry 1 true))).cradle = (turning .carry 1 true).cradle ∧
    (after (.wandDownChange false) (down (turning .lift 1 false))).cradle = (turning .lift 1 false).cradle ∧
    (after (.wandDownChange true) (turning .baseline 2 false)).cradle = (down (turning .baseline 2 false)).cradle ∧
    (after (.vacuumHeldChange true) (turning .lift 1 false)).cradle = (sealed (turning .lift 1 false)).cradle ∧
    (after (.angleChange 0) (turning .settle 1 false)).cradle.state = .turning ∧
    (after (.armRestChange false) (inState .settling opened)).cradle = (low (inState .settling opened)).cradle ∧
    (after (.wandDownChange true) recovering).cradle = (down recovering).cradle ∧
    (after (.armRestChange true) (down recovering)).cradle.state = .recovering ∧
    (after (.vacuumHeldChange true) (parkingFrom id)).cradle.state = .parking ∧
    (after (.angleChange 177) (parkingFrom id)).cradle.state = .parking ∧
    (after (.armRestChange false) (parkingFrom id)).cradle.state = .parking ∧
    (after (.angleChange 180) (sensing (fun m => { m with angle := 90 }) (parkingStopped staged))).cradle.state = .parking ∧
    (after (.armRestChange true) staged) = staged := by
  and_intros <;> decide +kernel
theorem test_vacuum_loss :
    (sealed (turning .carry 1 true)).mountedSlot = some 0 ∧
    told (.vacuumHeldChange false) (sealed (turning .carry 1 true)) = [6] ∧
    (after (.vacuumHeldChange false) (sealed (turning .carry 1 true))).cradle.fault =
      some { cause := .vacuumLost, phase := some .carry } ∧
    told (.vacuumHeldChange false) (sealed (holding .halt .turn (turning .carry 1 true))) = [6] ∧
    (after (.vacuumHeldChange false) (sealed (faulted (turning .carry 1 true)))).cradle.fault =
      some { cause := .vacuumLost, phase := some .lift } := by
  and_intros <;> decide +kernel

def timed (f : CradleTimers → CradleTimers) (s : State) : State := s.onCradle fun c => { c with timers := f c.timers }

theorem test_timeouts :
    told .liftTimeout (timed (fun x => { x with lift := some 1 }) (turning .lift 1 false)) = [6] ∧
    told .carryTimeout (timed (fun x => { x with carry := some 1 }) (turning .carry 1 true)) = [6] ∧
    told .layTimeout (timed (fun x => { x with lay := some 1 }) (turning .lay 1 true)) = [6] ∧
    told .recoveryTimerExpiry
      (timed (fun x => { x with recovery := some 1 }) (inState .recovering (turning .carry 1 false))) = [6] ∧
    (turning .lift 1 false).cradle.target = none ∧ (turning .lift 1 false).cradle.timers = .stopped := by
  and_intros <;> decide +kernel
theorem test_settle_books :
    (turning .settle 1 false).cradle.currentLeaf = some 1 ∧
    (let s := timed (fun x => { x with settle := some 1 }) (turning .settle 1 false)
     let t := after .settleTimerExpiry s
     t.cradle.opening = 2 ∧ t.cradle.state = .openReady ∧ (t.entry 0).turns = 1 ∧ (t.leaf 0 1).turnCount = 1 ∧
       told .settleTimerExpiry s = [4] ∧
       stepAfter .settleTimerExpiry
         (low (s.onCradle fun c => { c with turn := some { turnRecord .settle 1 false with count := 2 } })) =
         some (.baseline, 1)) := by
  and_intros <;> decide +kernel

/-- The last moment of leaf 1 of a turn of two leaves, with the mark of leaf 2. -/
def settlingInto (mark : LeafMark) : State :=
  (timed (fun x => { x with settle := some 1 }) ((turning .settle 1 false).onCradle fun c =>
    { c with turn := some { turnRecord .settle 1 false with count := 2 } })).onLeaf 0 2 fun r => { r with mark := mark }

/-- The next leaf at SETTLE's end: at rest its gate starts in the same event; a FOLDOUT or DAMAGED leaf with and without its
approval. -/
theorem test_settle_next_leaf :
    (settlingInto .withheld).quiet ∧ (settlingInto .withheld).cradle.currentLeaf = some 1 ∧
    stepAfter .settleTimerExpiry (settlingInto .withheld) = some (.baseline, 2) ∧
    (after .settleTimerExpiry (settlingInto .withheld)).gauge.gate = some .baseline ∧
    (after .settleTimerExpiry (settlingInto .withheld)).cradle.timers.lift = none ∧
    told .settleTimerExpiry (settlingInto .foldout) = [4] ∧
    (after .settleTimerExpiry (settlingInto .damaged)).cradle.state = .openReady ∧
    (after .settleTimerExpiry (settlingInto .damaged)).cradle.opening = 2 ∧
    (let s := (settlingInto .damaged).onCradle fun c => { c with approval := some ⟨0, 1, 2⟩ }
     stepAfter .settleTimerExpiry s = some (.baseline, 2) ∧ (after .settleTimerExpiry s).cradle.approval = none ∧
       stepAfter .settleTimerExpiry (low s) = some (.baseline, 1)) := by
  and_intros <;> decide +kernel

def confirming : State := timed (fun x => { x with pickConfirm := some 1 }) (sealed (turning .pickConfirm 1 true))

theorem test_pick_clauses :
    confirming.accepts (.confirmPick C 0 1) C ∧ confirming.accepts (.rejectPick C 0 1) C ∧
    reply (.confirmPick C 0 1) C opened = some (.state, []) ∧ reply (.rejectPick C 0 2) C confirming = some (.stale, []) ∧
    stepAfter (.confirmPick C 0 1) confirming = some (.carry, 1) ∧
    stepAfter (.rejectPick C 0 1) confirming = some (.drop, 1) ∧
    stepAfter .pickConfirmTimeout confirming = some (.drop, 1) ∧
    (after .pickConfirmTimeout confirming).cradle.turn.map (·.drop) = some .unconfirmed ∧
    (let s := sensing (fun m => { m with vacuumHeld := false }) confirming
     stepAfter (.rejectPick C 0 1) s = some (.baseline, 2) ∧ stepAfter (.rejectPick C 0 1) (low s) = some (.baseline, 1) ∧
       s.mountedSlot = some 0 ∧ told .pickConfirmTimeout s = [6] ∧
       (after .pickConfirmTimeout s).cradle.fault = some { cause := .noConfirm, phase := some .drop }) := by
  and_intros <;> decide +kernel
theorem test_drop_clauses :
    (kept goodWords (dropping .counted)).retries 2 = 2 ∧
    stepAfter (.vacuumHeldChange false) (kept goodWords (dropping .counted)) = some (.baseline, 2) ∧
    (let s := (kept goodWords (dropping .counted)).onCradle fun c =>
      { c with turn := some { turnRecord .drop 1 false with retriesUsed := 2, lastClass := some .nothing } }
     (after (.vacuumHeldChange false) s).cradle.fault = some { cause := .pickNone, phase := some .drop }) ∧
    (after (.vacuumHeldChange false) (dropping .unconfirmed)).cradle.fault =
      some { cause := .noConfirm, phase := some .drop } ∧
    stepAfter (.vacuumHeldChange false) (dropping .rejected) = some (.baseline, 2) := by
  and_intros <;> decide +kernel

/-- A gate of a purpose with a count, the leaf reference and the baseline given. -/
def gated (p : GatePurpose) (n reference : Nat) : State :=
  ((turning (match p with | .baseline => .baseline | .lift => .lift) (match p with | .baseline => 2 | .lift => 4)
      true).onGauge fun g =>
    { g with gate := some p, count := n, timer := some 40, baseline := 40210 }).onEntry 0 fun e =>
    { e with reference := reference }

theorem test_gauge_clauses :
    stepAfter .gaugeGateExpiry (gated .baseline 40210 0) = some (.lift, 1) ∧
    stepAfter .gaugeGateExpiry (gated .lift 39705 0) = some (.pickConfirm, 1) ∧
    told .gaugeGateExpiry (gated .lift 39705 0) = [7] ∧
    stepAfter .gaugeGateExpiry (gated .lift 39705 500) = some (.carry, 1) ∧
    ((after .gaugeGateExpiry (gated .lift 39705 500)).entry 0).reference = 500 ∧
    (after .gaugeGateExpiry (sealed (gated .lift 39961 500))).gauge.pick = some .nothing ∧
    (after .gaugeGateExpiry (sealed (gated .lift 39960 500))).gauge.pick = some .single ∧
    (after .gaugeGateExpiry (sealed (gated .lift 39460 500))).gauge.pick = some .double ∧
    stepAfter .gaugeGateExpiry (sealed (gated .lift 39460 500)) = some (.drop, 1) ∧
    stepAfter .gaugeGateExpiry (kept goodWords (gated .lift 39460 500)) = some (.baseline, 2) ∧
    stepAfter .gaugeGateExpiry (low (kept goodWords (gated .lift 39460 500))) = some (.baseline, 1) ∧
    (after .gaugeGateExpiry (gated .lift 39460 500)).cradle.fault = some { cause := .pickDouble, phase := some .drop } ∧
    (after .gaugeGateExpiry (gated .lift 39961 500)).cradle.fault = some { cause := .pickNone, phase := some .drop } ∧
    (after .oscillatorCycle (gated .lift 65534 0)).gauge.countSaturated = true := by
  and_intros <;> decide +kernel
theorem test_angle_clauses :
    told (.angleChange 112) (inState .settling opened) = [2] ∧
    (after (.angleChange 113) (inState .settling opened)).cradle.state = .settling ∧
    told (.angleChange 178) (parkingVolume opened) = [3] ∧
    (inState .parking opened).cradle.drive = .moving ∧
    told .angleTimerExpiry (timed (fun x => { x with angle := some 1 }) (inState .settling opened)) = [6] ∧
    (after .angleTimerExpiry (timed (fun x => { x with angle := some 1 }) (inState .parking opened))).cradle.drive =
      .stopped .angleTimeout ∧
    told .angleTimerExpiry (timed (fun x => { x with angle := some 1 }) (inState .parking opened)) = [] ∧
    told .angleTimerExpiry (timed (fun x => { x with angle := some 1 }) (parkingVolume opened)) = [6] ∧
    opened.cradle.timers.angle = none ∧ (parkingFrom id).quiet ∧ (parkingFrom id).cradle.drive = .moving ∧
    (after (.armRestChange true) (parkingFrom fun m => { m with armRest := false })).cradle.state = .parked ∧
    (after (.wandDownChange false) (parkingFrom fun m => { m with wandDown := true })).cradle.state = .parked ∧
    (after (.angleChange 178) (parkingFrom fun m => { m with armRest := false })).cradle.state = .parking := by
  and_intros <;> decide +kernel

/-! ### The guards -/

theorem test_curtain_clauses :
    opened.lights.dark ∧ opened.lights.preview = none ∧ opened.walker.sweep.state = .idle ∧ opened.quiet ∧
    (after .curtainClear (broken opened)).guards = { (broken opened).guards with curtainBroken := false } ∧
    told .curtainBroken (turning .carry 1 true) = [11, 5] ∧
    told .curtainBroken (latched (inState .settling opened)) = [5] ∧
    told .curtainBroken (parkingVolume opened) = [11, 5] ∧
    told .curtainBroken (inState .parking opened) = [11] ∧
    told .curtainBroken opened = [11] ∧
    (after .curtainBroken (exposing 1)).lights.dark ∧ (after .curtainBroken (exposing 1)).frames.completed = [0, 1] ∧
    ((after .curtainBroken (exposing 1)).frame 1).status = .torn ∧
    toldCapture .curtainBroken (exposing 1) = [11, 9, 8] ∧
    (after .curtainBroken (exposing 1)).walker.sweep.lastEnd = some .guard ∧
    (after .curtainBroken previewing).lights.lastEnd = some .guard ∧
    (after .curtainBroken (broken opened)) = broken opened := by
  and_intros <;> decide +kernel
theorem test_curtain_lightSafe : (exposing 1).LightSafe ∧ (exposing 1).frames.whole ∧ opened.LightSafe :=
  ⟨State.lightSafe_of_check _ (by decide +kernel), by show List.Perm _ _; decide +kernel,
    State.lightSafe_of_check _ (by decide +kernel)⟩
theorem test_stopKey_clauses :
    told .stopKeyPress opened = [11, 12] ∧ told .stopKeyPress (inMode .maintenance opened) = [11] ∧
    (after .stopKeyPress (turning .carry 1 true)).cradle.hold = some { cause := .halt, work := .turn } ∧
    (after .stopKeyPress (exposing 1)).station.mode = .halted ∧
    toldCapture .stopKeyPress (exposing 1) = [11, 9, 8, 12] ∧
    (after .stopKeyPress (exposing 1)).walker.sweep.lastEnd = some .halted ∧
    (after .stopKeyPress previewing).lights.lastEnd = some .halt ∧
    told .stopKeyPress (inState .settling opened) = [11, 5, 12] ∧
    told .stopKeyPress (parkingVolume opened) = [11, 5, 12] ∧
    told .stopKeyPress (inState .parking opened) = [11, 12] ∧
    (after .stopKeyPress (inState .parking opened)).cradle.drive = .stopped .halt ∧
    (after .stopKeyRelease (after .stopKeyPress opened)).guards.stopPressed = false ∧
    (after .stopKeyRelease (after .stopKeyPress opened)).guards.stopLatch = true := by
  and_intros <;> decide +kernel
theorem test_stopKey_lightSafe : (turning .carry 1 true).LightSafe ∧ (inState .settling opened).LightSafe ∧
    (inState .parking opened).LightSafe :=
  ⟨State.lightSafe_of_check _ (by decide +kernel), State.lightSafe_of_check _ (by decide +kernel),
    State.lightSafe_of_check _ (by decide +kernel)⟩
theorem test_ackGuard : (latched opened).accepts (.ackGuard C) C ∧
    reply (.ackGuard C) C (latched opened) = some (.ok, [0, 0, 0, 0]) ∧
    reply (.ackGuard C) C (broken opened) = some (.guard, [1, 1, 0, 0]) := by
  and_intros <;> decide +kernel

/-! ### Light and dose -/

theorem test_preview_clauses :
    opened.accepts (.previewOn K 1023) K ∧ opened.accepts (.previewOff C) C ∧
    reply (.previewOn K 1) K (inMode .maintenance opened) = some (.mode, []) ∧
    reply (.previewOn K 1) K staged = some (.noVolume, []) ∧
    reply (.previewOn K 1) K (unready opened) = some (.settingsFault, []) ∧
    reply (.previewOn K 1) K (inState .settling opened) = some (.cradleBusy, []) ∧
    reply (.previewOn K 1) K (swept .confirming .confirming .confirming) = some (.openingBusy, []) ∧
    reply (.previewOn K 1) K (broken opened) = some (.guard, []) ∧
    reply (.previewOn K 1) K (exposedTo 0 opened) = some (.doseBudget, [0, 0, 0, 0, 0, 0, 156, 64, 0, 0, 156, 64]) ∧
    reply (.previewOn K 201) K (kept goodWords opened) = some (.badArgument, []) ∧
    reply (.previewOn K 200) K (kept goodWords opened) = some (.ok, [0, 200]) ∧
    (after (.previewOn K 200) (kept goodWords opened)).meter.running = some ⟨0, .preview⟩ ∧
    (after (.previewOn K 7) (kept goodWords previewing)).lights.preview = some 7 ∧
    reply (.previewOff C) C previewing = some (.ok, [1, 0, 0, 0, 0, 0, 0, 0, 0, 0, 2, 0, 0, 0, 0, 0, 0, 1, 1]) ∧
    reply (.previewOff C) C opened = some (.ok, [0, 255, 0, 0, 0, 0, 0, 0, 0, 0, 0]) := by
  and_intros <;> decide +kernel

/-- The charge of raw irradiance 1000 under a gain of 0, an offset of 0 and a dose factor of 16 is 1000 du. -/
theorem test_metering_clauses :
    (kept goodWords (exposing 1)).meter.running = some ⟨0, .exposure⟩ ∧
    (after (.meteringIntervalExpiry 1000#16) (kept goodWords (exposing 1))).custody.doseOf
      ((exposing 1).entry 0) ⟨0, .left⟩ = 1000 ∧
    (after (.meteringIntervalExpiry 1000#16) (kept goodWords (exposedTo 1000 (exposing 1)))).frames.completed = [0, 1] ∧
    told (.meteringIntervalExpiry 1000#16) (kept goodWords (exposedTo 1000 (exposing 1))) = [10, 10] ∧
    toldCapture (.meteringIntervalExpiry 1000#16) (kept goodWords (exposedTo 1000 (exposing 1))) = [10, 10, 9, 8] ∧
    ((after (.meteringIntervalExpiry 1000#16) (kept goodWords (exposedTo 1000 (exposing 1)))).frame 0).status = .cut ∧
    (after (.meteringIntervalExpiry 1000#16) (kept goodWords (exposing 3))).walker.sweep.stage = some .confirming ∧
    ((after (.meteringIntervalExpiry 1000#16) (kept goodWords (exposing 3))).frame 0).measured = some ⟨1000, 250⟩ ∧
    (after (.meteringIntervalExpiry 1000#16) (kept goodWords previewing)).lights.preview = some 100 ∧
    (after (.meteringIntervalExpiry 1000#16) (kept goodWords (exposedTo 1000 previewing))).lights.lastEnd =
      some .budget := by
  and_intros <;> decide +kernel
theorem test_metering_premises : (exposing 1).extentsShareStore ∧ (exposing 3).LightSafe ∧ previewing.LightSafe ∧
    previewing.extentsShareStore ∧ opened.cradle.opening ≤ (opened.entry 0).leafCount :=
  ⟨State.extentsShareStore_of_check _ (by decide +kernel), State.lightSafe_of_check _ (by decide +kernel),
    State.lightSafe_of_check _ (by decide +kernel), State.extentsShareStore_of_check _ (by decide +kernel),
    by decide +kernel⟩

/-- The visible faces 3000 du below their budget, under a plan whose one exposure would deliver 3128. -/
def overspent : State := planned (kept goodWords (exposedTo 3000 opened))

theorem test_projection_clauses :
    (kept goodWords opened).projection 0 800 40 = .pass 3128 ∧ overspent.mountedSlot = some 0 ∧
    overspent.visible = [⟨0, .left⟩, ⟨1, .right⟩] ∧
    overspent.projection 0 800 40 = .fail 3128 ⟨0, .left⟩ 37000 40000 ∧
    (overspent.onLeaf 0 0 fun r => { r with verso := { r.verso with dose := 0 } }).projection 0 800 40 =
      .fail 3128 ⟨1, .right⟩ 37000 40000 ∧
    overspent.accepts (.captureOpening K .opened) K ∧ overspent.frames.planned = [] ∧ overspent.frames.slot = [] ∧
    reply (.captureOpening K .opened) K overspent = some (.accepted, [2, 255, 0, 1, 0, 1, 2, 0, 254]) ∧
    toldCapture (.captureOpening K .opened) overspent = [9, 8] ∧
    (after (.captureOpening K .opened) overspent).frames.completed = [0, 1] ∧
    ((after (.captureOpening K .opened) overspent).frame 1).status = .refused ∧
    (after (.captureOpening K .opened) overspent).walker.sweep.lastEnd = some .budget := by
  and_intros <;> decide +kernel
theorem test_projection_premises : overspent.LightSafe ∧ overspent.frames.whole :=
  ⟨State.lightSafe_of_check _ (by decide +kernel), by show List.Perm _ _; decide +kernel⟩

/-! ### Frames -/

theorem test_frames_clauses :
    (swept .confirming .confirming .confirming).accepts (.takeFrames K 8) K ∧
    (judged .taken (.verso 0)).accepts (.acceptFrame K 0 1) K ∧ (judged .torn .board).accepts (.rejectFrame K 255 15) K ∧
    reply (.takeFrames K 8) K opened = some (.ok, [0, 0, 0]) ∧
    reply (.acceptFrame K 0 2) K (judged .taken (.verso 0)) = some (.stale, [1]) ∧
    reply (.rejectFrame K 1 0) K (judged .taken (.verso 0)) = some (.notInVerdict, [0]) ∧
    reply (.acceptFrame K 0 1) K (judged .torn (.verso 0)) = some (.state, [5]) ∧
    reply (.acceptFrame K 0 1) K (judged .taken (.verso 0)) = some (.ok, [0, 1, 0, 0, 0, 1, 0, 0, 0, 0, 0, 0]) ∧
    reply (.acceptFrame K 0 1) K (judged .taken (.recto 1)) = some (.ok, [0, 1, 0, 0, 0, 1, 0, 0, 0, 0, 0, 0]) ∧
    reply (.acceptFrame K 0 1) K (judged .taken .board) = some (.ok, [0, 1, 2, 0, 0, 0, 0, 0, 0, 0, 255, 255]) ∧
    reply (.rejectFrame K 0 1) K (judged .torn (.verso 0)) = some (.ok, [0, 1, 5, 0, 0, 0]) ∧
    (after (.rejectFrame K 0 1) (judged .torn (.verso 0))).frames.verdict = [] := by
  and_intros <;> decide +kernel
theorem test_frames_premises : (judged .taken (.verso 0)).extentsShareStore ∧
    (judged .taken (.verso 0)).inUse 0 ∧ 0 < ((judged .taken (.verso 0)).entry 0).leafCount :=
  ⟨State.extentsShareStore_of_check _ (by decide +kernel), by decide +kernel, by decide +kernel⟩

/-! ### The plan and the sweep -/

theorem test_plan_clauses :
    opened.accepts (.setPlanEntry K 31 .both 7 1023 2000) K ∧ opened.accepts (.setPlanLength K 32) K ∧
    opened.accepts (.readPlan K 31) K ∧
    reply (.setPlanEntry K 0 .left 1 2 10) K (swept .confirming .confirming .confirming) = some (.planBusy, []) ∧
    reply (.setPlanEntry K 0 .left 1 2 10) K (planned opened) =
      some (.ok, [0, 1, 0, 1, 0, 2, 0, 10, 1, 2, 0, 3, 32, 0, 40]) ∧
    reply (.setPlanLength K 1) K (swept .confirming .confirming .confirming) = some (.planBusy, []) ∧
    reply (.setPlanLength K 2) K (planned opened) = some (.state, [1]) ∧
    reply (.setPlanLength K 0) K (planned opened) = some (.ok, [1, 0]) ∧
    reply (.readPlan K 31) K (planned opened) = some (.ok, [0, 0, 0, 0, 0, 0, 0, 1]) := by
  and_intros <;> decide +kernel

def capturing : Instr := .captureOpening K (.count 64)
def exhausted (n : Nat) : State :=
  (planned opened).onFrames fun q =>
    { q with free := (List.range 256).take n, verdict := (List.range 256).drop n }

theorem test_capture_clauses :
    (planned opened).accepts capturing K ∧ reply capturing K (inMode .halted (planned opened)) = some (.mode, []) ∧
    reply capturing K (planned staged) = some (.noVolume, []) ∧
    reply capturing K ((planned opened).onEntry 0 fun e => { e with hold := some .conservation }) = some (.held, []) ∧
    reply capturing K (unready (planned opened)) = some (.settingsFault, []) ∧
    reply capturing K (inState .fault (planned opened)) = some (.cradleBusy, []) ∧
    reply capturing K (swept .confirming .confirming .confirming) = some (.openingBusy, []) ∧
    reply capturing K (broken (planned opened)) = some (.guard, []) ∧
    reply capturing K opened = some (.planEmpty, []) ∧
    reply capturing K (exhausted 1) = some (.noDescriptors, [0, 1, 2]) ∧
    reply capturing K (planned opened) = some (.accepted, [1, 64, 0, 1, 0, 1, 2, 0, 254]) ∧
    ((planned opened).projection 0 800 40).passes = true ∧ (planned opened).walker.left.ready = false ∧
    (after capturing (planned opened)).walker.sweep.stage = some .waitCamera ∧
    ((after capturing (planned opened)).frame 1).face = .recto 1 := by
  and_intros <;> decide +kernel
/-- A plan of two entries, RIGHT and BOTH, with both cameras READY. -/
def plannedTwo : State :=
  (planned opened).onWalker fun w =>
    { w with
      plan := Vec.put (Vec.put w.plan 1 (w.planAt 0)) 0 (some { cameras := .right, bank := 3, level := 9, duration := 10 })
      planLength := 2, left := { w.left with ready := true }, right := { w.right with ready := true } }

theorem test_capture_granted :
    plannedTwo.accepts (.captureOpening K .pass) K ∧ (plannedTwo.projection 3 9 10).passes = true ∧
    (∀ v ∈ plannedTwo.visible, plannedTwo.custody.doseOf (plannedTwo.entry 0) v < (plannedTwo.entry 0).budget) ∧
    (let t := after (.captureOpening K .pass) plannedTwo
     t.walker.sweep.stage = some .exposing ∧ t.walker.right.trigger = true ∧ t.walker.left.trigger = false ∧
       Vec.at t.lights.banks 3 .off = .lit 9 .exposure ∧ t.frames.slot = [0] ∧ t.frames.planned = [1, 2] ∧
       [0, 1, 2].map (fun i => ((t.frame i).planEntry, (t.frame i).camera)) = [(0, .right), (1, .left), (1, .right)] ∧
       (t.leaf 0 0).verso.framesOpen = 1 ∧ (t.leaf 0 1).recto.framesOpen = 2 ∧ (t.entry 0).framesOpen = 3) ∧
    (after capturing (planned opened)).walker.left.readyTimer = some 10000 ∧
    (after (.captureOpening K .pass)
      (plannedTwo.onWalker fun w => { w with right := { w.right with ready := false } })).walker.left.readyTimer = none ∧
    (1 : Nat) ≤ (plannedTwo.entry 0).leafCount ∧ plannedTwo.inUse 0 := by
  and_intros <;> decide +kernel
theorem test_capture_granted_premises :
    plannedTwo.LightSafe ∧ plannedTwo.frames.whole ∧ plannedTwo.extentsShareStore ∧ plannedTwo.frames.planned = [] ∧
    plannedTwo.frames.slot = [] :=
  ⟨State.lightSafe_of_check _ (by decide +kernel), by show List.Perm _ _; decide +kernel,
    State.extentsShareStore_of_check _ (by decide +kernel), by decide, by decide⟩
theorem test_capture_premises : (planned opened).LightSafe ∧ (planned opened).frames.whole ∧
    (planned opened).frames.planned = [] ∧ (planned opened).frames.slot = [] :=
  ⟨State.lightSafe_of_check _ (by decide +kernel), by show List.Perm _ _; decide +kernel, by decide, by decide⟩
theorem test_close_and_stop :
    (swept .confirming .confirming .confirming).accepts (.closeOpening K) K ∧
    (exposing 1).accepts (.stopSweep C) C ∧ reply (.closeOpening K) K opened = some (.state, []) ∧
    reply (.stopSweep C) C opened = some (.state, []) ∧
    reply (.closeOpening K) K (swept .draining .confirming .confirming) = some (.ok, [5, 0]) ∧
    reply (.closeOpening K) K (swept .confirming .confirming .confirming) = some (.ok, [5, 0]) ∧
    (after (.closeOpening K) (swept .confirming .confirming .confirming)).walker.sweep.state = .draining ∧
    (after (.stopSweep C) (exposing 1)).frames.completed = [0, 1] ∧ (after (.stopSweep C) (exposing 1)).lights.dark := by
  and_intros <;> decide +kernel

/-- The exposure in the slot waits for the cameras, the left one READY when `left`. -/
def awaiting (left : Bool) (state : SweepState) : State :=
  (swept state .waitCamera .planned).onWalker fun w =>
    { w with left := { w.left with ready := left, readyTimer := some 1000 }
             right := { w.right with readyTimer := some 1000 } }
def confirmed (slot : List Nat) : State :=
  (swept .confirming .confirming .confirming).onFrames fun q =>
    { q with slot := slot, completed := (List.range 2).filter fun i => i ∉ slot }
def timedPorts (s : State) : State :=
  s.onWalker fun w =>
    { w with left := { w.left with confirmTimer := some 9 }, right := { w.right with confirmTimer := some 9 } }
def waitingFrames (s : State) : State :=
  s.onFrames fun q => { q with free := q.free.drop 1, completed := q.completed ++ q.free.take 1 }

theorem test_camera_clauses :
    (awaiting true .waitCamera).lightRefusal = none ∧ (awaiting true .waitCamera).slotCameras = [.left, .right] ∧
    (after (.cameraReadyChange .right true) (awaiting true .waitCamera)).walker.sweep.stage = some .exposing ∧
    (after (.cameraReadyChange .right true) (awaiting true .waitCamera)).meter.running = some ⟨0, .exposure⟩ ∧
    (awaiting true .draining).lightRefusal = none ∧
    (after (.cameraReadyChange .right true) (awaiting true .draining)).walker.sweep.stage = some .exposing ∧
    (after (.cameraReadyChange .right true) (awaiting true .draining)).walker.sweep.state = .draining ∧
    (after (.cameraReadyChange .right true) (awaiting true .draining)).meter.running = some ⟨0, .exposure⟩ ∧
    opened.walker.sweep.stage ≠ some .waitCamera ∧ (after (.doneEdge .left) opened).walker.left.counter = 1 ∧
    ((after (.doneEdge .left) (waitingFrames (confirmed [0, 1]))).frame 0).status = .taken ∧
    (after (.doneEdge .left) (waitingFrames (confirmed [0, 1]))).frames.slot = [1] ∧
    (after (.doneEdge .right) (confirmed [1])).walker.sweep.lastEnd = some .passDone ∧
    (after (.cameraReadyTimeout .left) (awaiting false .draining)).walker.sweep.lastEnd = some .closed ∧
    ((after (.cameraReadyTimeout .left) (awaiting false .draining)).frame 1).status = .cameraNotReady ∧
    (awaiting false .draining).frames.planned = [] ∧
    ((after (.cameraConfirmTimeout .right) (timedPorts (waitingFrames (confirmed [0, 1])))).frame 1).status =
      .unconfirmed ∧
    opened.walker.left.readyTimer = none ∧ opened.walker.left.confirmTimer = none ∧
    (exposedTo 0 (awaiting true .draining)).lightRefusal = some .doseBudget ∧
    (after (.cameraReadyChange .right true) (exposedTo 0 (awaiting true .draining))).walker.sweep.lastEnd = some .closed ∧
    (after (.cameraReadyChange .right true) (exposedTo 0 (awaiting true .draining))).walker.sweep.counts.refused = 2 ∧
    ((after (.cameraReadyChange .right true) (exposedTo 0 (awaiting true .draining))).frame 1).status = .refused ∧
    (after (.cameraReadyChange .right true) (awaiting false .waitCamera)).walker.sweep.stage = some .waitCamera := by
  and_intros <;> decide +kernel
theorem test_camera_premises : (awaiting true .waitCamera).frames.whole ∧ (awaiting false .draining).frames.whole ∧
    (awaiting true .draining).frames.whole := by
  and_intros <;> (show List.Perm _ _; decide +kernel)

/-- A sweep that waits for descriptors with `n` in FREE. -/
def starved (n : Nat) : State :=
  (exhausted n).onWalker fun w =>
    { w with
      sweep := { w.sweep with state := .walking, mode := .opened, volume := some ⟨0, 1⟩, opening := some 1
                              buildPending := true } }

theorem test_pendingBuild_clauses :
    (planned opened).walker.planAt 0 = some ⟨.both, 0, 800, 40⟩ ∧ (starved 1).frames.free.length < 2 ∧
    2 ≤ (starved 2).frames.free.length ∧ (starved 2).mountedSlot = some 0 ∧
    (after .pendingBuild (starved 1)).walker.sweep.buildPending = true ∧
    (after .pendingBuild (starved 2)).frames.slot = [0, 1] ∧
    (after .pendingBuild (starved 2)).walker.sweep.stage = some .waitCamera ∧
    (after .pendingBuild opened).frames.slot = [] := by
  and_intros <;> decide +kernel
theorem test_pendingBuild_premises : (starved 1).LightSafe ∧ (starved 2).LightSafe ∧ (starved 2).frames.whole ∧
    ((starved 2).projection 0 800 40).passes = true :=
  ⟨State.lightSafe_of_check _ (by decide +kernel), State.lightSafe_of_check _ (by decide +kernel),
    by show List.Perm _ _; decide +kernel, by decide +kernel⟩

/-- A verdict with a build pending: descriptor 1, in VERDICT, brings FREE to 1 and to 2 (R147). -/
theorem test_verdict_with_build_pending :
    (starved 1).accepts (.rejectFrame K 1 0) K ∧ (starved 0).accepts (.rejectFrame K 1 0) K ∧
    reply (.rejectFrame K 1 0) K (starved 0) = some (.ok, [1, 0, 0, 0, 0, 0]) ∧
    (after (.rejectFrame K 1 0) (starved 0)).walker.sweep.buildPending = true ∧
    reply (.rejectFrame K 1 0) K (starved 1) = some (.ok, [1, 0, 0, 0, 0, 2]) ∧
    (after (.rejectFrame K 1 0) (starved 1)).frames.slot = [0, 1] ∧
    (after (.rejectFrame K 1 0) (starved 1)).walker.sweep.stage = some .waitCamera ∧ (starved 1).quiet := by
  and_intros <;> decide +kernel

/-- One descriptor in the slot of a sweep in a mode: CONFIRMING when `lit`, else waiting for its camera. -/
def lastOne (lit : Bool) (mode : SweepMode) : State :=
  let s := if lit then swept .confirming .confirming .confirming else swept .waitCamera .waitCamera .planned
  (s.onFrames fun q => { q with slot := [0], verdict := [1] }).onWalker fun w =>
    { w with
      left := { w.left with readyTimer := if lit then none else some 9 }
      sweep := { w.sweep with mode := mode } }

/-- The event in which it leaves the slot. -/
def leaving (lit : Bool) : Instr := if lit then .doneEdge .left else .cameraReadyTimeout .left

def ends (lit : Bool) (s : State) : Option SweepEnd × List Nat :=
  ((after (leaving lit) s).walker.sweep.lastEnd, toldCapture (leaving lit) s)

theorem test_sweep_ends :
    (lastOne true .pass).quiet ∧ (lastOne true .pass).frames.slot = [0] ∧
    ((lastOne true .pass).frame 0).camera = .left ∧ ((lastOne true .pass).frame 0).status = .confirming ∧
    (lastOne false .pass).walker.left.readyTimer ≠ none ∧ (lastOne true .pass).frames.planned = [] ∧
    ends true ((lastOne true .pass).onSweep fun w => { w with state := .draining }) = (some .closed, [9, 8]) ∧
    ends true (lastOne true .pass) = (some .passDone, [9, 8]) ∧
    ends false ((lastOne false .pass).onSweep fun w => { w with started := false }) = (some .budget, [9, 8]) ∧
    ends true (lastOne true (.count 1)) = (some .countReached, [9, 8]) ∧
    ends false (lastOne false .opened) = (some .exhausted, [9, 8]) ∧
    ends false ((lastOne false (.count 2)).onSweep fun w => { w with started := false }) = (some .budget, [9, 8]) := by
  and_intros <;> decide +kernel
theorem test_sweep_goes_on :
    (lastOne true .opened).walker.planAt 0 = some ⟨.both, 0, 800, 40⟩ ∧
    (let s := (lastOne true .opened).onFrames fun q => { q with free := q.free.take 1, verdict := q.free.drop 1 ++ [1] }
     (after (leaving true) s).walker.sweep.buildPending = true ∧ toldCapture (leaving true) s = [9]) ∧
    (after (leaving true) (lastOne true (.count 64))).frames.slot = [2, 3] ∧
    (let s := kept goodWords (exposedTo 3000 (lastOne true .opened))
     (s.projection 0 800 40).passes = false ∧ ends true s = (some .exhausted, [9, 8]) ∧
       (after (leaving true) s).frames.completed = [0, 2, 3]) ∧
    (after (leaving true) ((lastOne true .pass).onFrames fun q => { q with planned := [1], verdict := [] })).frames.slot =
      [1] := by
  and_intros <;> decide +kernel
/-- As `lastOne`, by a confirm timeout, or by a light request refused after a lowered budget. -/
def lastUnconfirmed (mode : SweepMode) : State := timedPorts (lastOne true mode)
def lastRefused (mode : SweepMode) : State := exposedTo 0 (lastOne false mode)
def unconfirms : Instr := .cameraConfirmTimeout .left
def readies : Instr := .cameraReadyChange .left true

theorem test_sweep_unconfirmed :
    (lastUnconfirmed .pass).quiet ∧ (lastUnconfirmed .pass).walker.left.confirmTimer ≠ none ∧
    ((lastUnconfirmed .pass).frame 0).status = .confirming ∧
    (after unconfirms (lastUnconfirmed .pass)).walker.sweep.lastEnd = some .passDone ∧
    ((after unconfirms (lastUnconfirmed .pass)).frame 0).status = .unconfirmed ∧
    toldCapture unconfirms (lastUnconfirmed .pass) = [9, 8] ∧
    (after unconfirms (lastUnconfirmed .opened)).frames.slot = [2, 3] ∧
    (after unconfirms (lastUnconfirmed .opened)).walker.sweep.counts.unconfirmed = 1 := by
  and_intros <;> decide +kernel
theorem test_sweep_refused :
    (lastRefused .pass).quiet ∧ (lastRefused .pass).lightRefusal = some .doseBudget ∧
    (lastRefused .pass).walker.left.ready = false ∧
    (after readies (lastRefused .pass)).walker.sweep.lastEnd = some .passDone ∧
    ((after readies (lastRefused .pass)).frame 0).status = .refused ∧ toldCapture readies (lastRefused .pass) = [9, 8] ∧
    (after readies (lastRefused (.count 2))).walker.sweep.lastEnd = some .exhausted ∧
    (let s := (lastRefused .pass).onFrames fun q => { q with planned := [1], verdict := [] }
     (s.projection 0 800 40).passes = true ∧ (after readies s).frames.slot = [1] ∧
       (after readies s).walker.right.readyTimer = some 10000) := by
  and_intros <;> decide +kernel
theorem test_sweep_premises : (lastOne true .opened).frames.whole ∧
    ((lastOne true .pass).onFrames fun q => { q with planned := [1], verdict := [] }).frames.whole ∧
    ((lastRefused .pass).onFrames fun q => { q with planned := [1], verdict := [] }).frames.whole := by
  and_intros <;> (show List.Perm _ _; decide +kernel)

/-! ### The settings and the station -/

def serviced : State := inMode .maintenance (kept goodWords staged)

theorem test_settings_clauses :
    serviced.accepts (.setSetting C 69 0#32) C ∧ opened.accepts (.readSetting A 0) A ∧
    settingsSum goodWords = 4294967295 ∧ reply (.setSetting C 0 1#32) C staged = some (.mode, []) ∧
    reply (.setSetting C 0 6#32) C serviced = some (.ok, [0, 0, 0, 0, 5, 0, 0, 0, 6, 0, 0, 0, 0]) ∧
    reply (.readSetting A 33) A opened = some (.ok, [33, 0, 0, 0, 0, 1, 1, 0, 0, 0, 0, 0]) ∧
    ((after (.storeUpset 0 9#32) serviced).word 0) = 9#32 ∧
    (after .verificationTimerExpiry serviced).settings.lastSum = 4294967295 ∧
    told .verificationTimerExpiry (unready serviced) = [13] ∧
    told .verificationTimerExpiry (turning .carry 1 true) = [13, 5] ∧
    told .verificationTimerExpiry (inState .settling opened) = [13, 5] ∧
    told .verificationTimerExpiry (parkingVolume opened) = [13, 5] ∧
    told .verificationTimerExpiry (inState .parking opened) = [13] ∧
    toldCapture .verificationTimerExpiry (exposing 1) = [13, 9, 8] ∧
    (after .verificationTimerExpiry (exposing 1)).walker.sweep.lastEnd = some .settings ∧
    (after .verificationTimerExpiry previewing).lights.lastEnd = some .settings ∧
    told .verificationTimerExpiry (inMode .maintenance staged) = [13] ∧
    told .verificationTimerExpiry (inMode .maintenance (parkingVolume staged)) = [13, 5] ∧
    told .verificationTimerExpiry (inMode .maintenance (parkingFrom id)) = [13] ∧
    (after .verificationTimerExpiry (inMode .maintenance (parkingFrom id))).cradle.drive = .stopped .settings ∧
    (after .verificationTimerExpiry (exposing 1)).lights.dark := by
  and_intros <;> decide +kernel
/-- A word out of range is used by its substitute, the least and the largest value as they are. -/
theorem test_settings_bounds :
    serviced.setting 0 = 5 ∧ (kept (Vec.put goodWords 0 16#32) serviced).setting 0 = 0 ∧
    (kept (Vec.put goodWords 0 15#32) serviced).setting 0 = 15 ∧ (kept (Vec.put goodWords 7 999#32) serviced).setting 7 = 30000 ∧
    (kept (Vec.put goodWords 33 (-32768#32)) serviced).setting 33 = -32768 ∧
    (kept (Vec.put goodWords 33 (-32769#32)) serviced).setting 33 = 32767 ∧ State.reset.setting 64 = 100 := by
  and_intros <;> decide +kernel
theorem test_settings_lightSafe : (inMode .maintenance staged).LightSafe ∧
    (inMode .maintenance (parkingFrom id)).LightSafe :=
  ⟨State.lightSafe_of_check _ (by decide +kernel), State.lightSafe_of_check _ (by decide +kernel)⟩
theorem test_halt_clauses :
    told (.halt C) (inState .settling opened) = [5, 12] ∧ told (.halt C) (parkingVolume opened) = [5, 12] ∧
    told (.halt C) (inState .parking opened) = [12] ∧
    toldCapture (.halt C) (exposing 1) = [9, 8, 12] ∧
    (after (.halt C) (exposing 1)).walker.sweep.lastEnd = some .halted ∧
    (after (.halt C) previewing).lights.lastEnd = some .halt := by
  and_intros <;> decide +kernel
theorem test_mode_clauses :
    serviced.accepts (.enterReady C) C ∧ opened.accepts (.enterMaintenance C) C ∧ opened.accepts (.halt C) C ∧
    (inMode .halted opened).accepts (.clearHalt C) C ∧ reply (.enterReady C) C staged = some (.mode, []) ∧
    reply (.enterReady C) C (inMode .maintenance staged) = some (.settingsFault, [0, 0, 0, 0, 0]) ∧
    reply (.enterReady C) C
      (kept (Vec.put (Vec.put goodWords 0 16#32) 69 (goodWords[69] - 11#32)) serviced) =
      some (.settingsFault, [1, 0, 0, 0, 0]) ∧
    reply (.enterReady C) C serviced = some (.ok, [1, 0, 255, 255, 255, 255, 0, 0, 0, 0]) ∧
    told (.enterReady C) (unready serviced) = [13, 12] ∧
    reply (.enterMaintenance C) C serviced = some (.mode, []) ∧
    reply (.enterMaintenance C) C opened = some (.state, []) ∧
    told (.enterMaintenance C) staged = [12] ∧ reply (.halt C) C serviced = some (.mode, []) ∧
    reply (.halt C) C (inMode .halted opened) = some (.ok, [2]) ∧ told (.halt C) (turning .carry 1 true) = [5, 12] ∧
    reply (.clearHalt C) C opened = some (.mode, []) ∧
    reply (.clearHalt C) C (after .stopKeyPress opened) = some (.guard, []) ∧
    reply (.clearHalt C) C (unready (inMode .halted opened)) = some (.settingsFault, []) ∧
    reply (.clearHalt C) C (inMode .halted opened) = some (.ok, [1, 0, 0, 0, 0]) := by
  and_intros <;> decide +kernel
theorem test_restart_clauses :
    opened.accepts (.restart C) C ∧ opened.oneMounted ∧
    reply (.restart C) C (turning .lift 1 false) = some (.cradleBusy, []) ∧
    reply (.restart C) C (holding .guard .turn (turning .carry 1 true)) = some (.cradleBusy, []) ∧
    reply (.restart C) C (exposing 1) = some (.ok, [1, 0, 1, 0, 2]) ∧ told (.restart C) (exposing 1) = [14, 12] ∧
    (after (.restart C) (exposing 1)).frames.free.length = 256 ∧
    ((after (.restart C) (exposing 1)).entry 0).hold = some .restart ∧
    told (.restart C) (latched opened) = [14, 5, 12] ∧
    (after (.restart C) (latched opened)).cradle.drive = .stopped .guard ∧
    (let flat := sensing (fun m => { m with angle := 178 }) opened
     told (.restart C) flat = [14, 3, 12] ∧ (after (.restart C) flat).cradle.state = .parked ∧
       (after (.restart C) flat).links.accounting.notices.map Notice.kind = [14, 12]) ∧
    (after (.restart C) opened).cradle.parked = some ⟨0, 1⟩ ∧ (after (.restart C) opened).cradle.moveClass = 2 ∧
    (after (.restart C) opened).cradle.timers.angle = some 30000 ∧
    (after (.restart C) staged).cradle = staged.cradle := by
  and_intros <;> decide +kernel
theorem test_readStatus : opened.quiet ∧ (opened.port .accounting).idle ∧
    (reply (.readStatus A) A opened).map (fun r => (r.2.length, r.2.take 8)) = some (101, [1, 0, 0, 0, 0, 0, 0, 2]) ∧
    (reply (.readStatus A) A (exposing 1)).map (fun r => (r.2.drop 28).take 4) = some [0, 0, 3, 32] ∧
    decodeTableWord 8 0 = none ∧ (State.withFetchWord opened 8 0).pending = [] := by
  and_intros <;> decide +kernel

end Sys2Proof.Tests
end

section
/-! PROOFS. The entries a command mounts: none but by MOUNT (R15, R48). -/

namespace Sys2Proof.Machine

/-! ### Steps after which no entry is newly MOUNTED -/

/-- Every entry MOUNTED in `t` was MOUNTED in `s`. -/
def State.mountsNone (s t : State) : Prop :=
  ∀ i, i < 8 → (t.entry i).state = .mounted → (s.entry i).state = .mounted

theorem State.mountsNone.refl (s : State) : s.mountsNone s := fun _ _ h => h

theorem State.mountsNone.trans {s t u : State} (h : s.mountsNone t) (g : t.mountsNone u) : s.mountsNone u :=
  fun i hi hm => h i hi (g i hi hm)

theorem State.mountsNone.oneMounted {s t : State} (h : s.mountsNone t) (hs : s.oneMounted) : t.oneMounted :=
  fun i hi j hj hmi hmj => hs i hi j hj (h i hi hmi) (h j hj hmj)

/-- The bookings of the other blocks move no entry's life state. -/
theorem State.mountsNone_of_skeleton {s t : State} (h : t.custody.skeleton = s.custody.skeleton) : s.mountsNone t := by
  intro i _ hm
  have hs : (t.entry i).state = (s.entry i).state := by
    simpa [CustodyEntry.unbooked, State.entry] using congrArg CustodyEntry.state (Custody.skeleton_entry h i)
  rw [← hs, hm]

theorem State.mountsNone_of_custody {s t : State} (h : t.custody = s.custody) : s.mountsNone t :=
  State.mountsNone_of_skeleton (by rw [h])

/-- Rewriting one entry, its life state kept or not MOUNTED after, mounts nothing. -/
theorem State.mountsNone_onEntry (s : State) (slot : Nat) (f : CustodyEntry → CustodyEntry)
    (hf : ∀ e, (f e).state = .mounted → e.state = .mounted) : s.mountsNone (s.onEntry slot f) := by
  intro i hi hm
  rw [State.entry_onEntry _ _ _ _ hi] at hm
  split at hm
  · exact hf _ hm
  · exact hm

theorem State.oneMounted_undisturbed : Undisturbed State.oneMounted where
  links _ _ h := h
  outbox _ _ h := h
  pending _ _ h := h

theorem request_oneMounted {c : Instr} {o : Origin} {take : State → Served} {s t : State}
    (ht : ∀ s : State, s.mountsNone (take s).state) (h : s.oneMounted) (hr : request c o take s = .next t) :
    t.oneMounted :=
  State.oneMounted_undisturbed.request (fun s => (ht s).oneMounted) h hr

theorem event_oneMounted {f : State → State} {s t : State} (hf : s.mountsNone (f s)) (h : s.oneMounted)
    (hr : event f s = .next t) : t.oneMounted :=
  State.oneMounted_undisturbed.event hf.oneMounted h hr

/-! ### The requests that move no life state -/

theorem State.named_mountsNone {slot generation : Nat} {act : CustodyEntry → Served} {s : State}
    (h : ∀ e, s.mountsNone (act e).state) : s.mountsNone (s.named slot generation act).state := by
  unfold State.named
  dsimp only
  split
  · exact .refl s
  split
  · exact .refl s
  · exact h _

theorem takeSetHandling_mountsNone (slot generation handlingClass angleLimit faceBudget : Nat) (s : State) :
    s.mountsNone (takeSetHandling slot generation handlingClass angleLimit faceBudget s).state := by
  unfold takeSetHandling
  dsimp only
  split
  · exact .refl s
  split
  · exact .refl s
  · exact State.mountsNone_onEntry _ _ _ fun _ h => h

theorem takeSetBudget_mountsNone (slot generation faceBudget : Nat) (s : State) :
    s.mountsNone (takeSetBudget slot generation faceBudget s).state := by
  refine State.named_mountsNone fun e => ?_
  split
  · exact .refl s
  · have h : s.mountsNone (s.onEntry slot (CustodyEntry.withBudget faceBudget)) :=
      State.mountsNone_onEntry _ _ _ fun _ h => h
    dsimp only [okay]
    split
    · exact h.trans (State.mountsNone_of_skeleton (by simp))
    · exact h

theorem takeHold_mountsNone (slot generation : Nat) (s : State) : s.mountsNone (takeHold slot generation s).state :=
  State.named_mountsNone fun _ => State.mountsNone_onEntry _ _ _ fun _ h => h

theorem takeUnhold_mountsNone (slot generation : Nat) (s : State) :
    s.mountsNone (takeUnhold slot generation s).state :=
  State.named_mountsNone fun _ => State.mountsNone_onEntry _ _ _ fun _ h => h

theorem takeWaive_mountsNone (slot generation reason : Nat) (s : State) :
    s.mountsNone (takeWaive slot generation reason s).state :=
  State.named_mountsNone fun _ => State.mountsNone_onEntry _ _ _ fun _ h => h

theorem takeClearReference_mountsNone (slot generation : Nat) (s : State) :
    s.mountsNone (takeClearReference slot generation s).state :=
  State.named_mountsNone fun _ => State.mountsNone_onEntry _ _ _ fun _ h => h

theorem takeSetRequirement_mountsNone (slot generation : Nat) (bands : BandSet) (s : State) :
    s.mountsNone (takeSetRequirement slot generation bands s).state :=
  State.named_mountsNone fun _ => State.mountsNone_onEntry _ _ _ fun _ h => h

theorem takeApproveTurn_mountsNone (slot generation leaf : Nat) (s : State) :
    s.mountsNone (takeApproveTurn slot generation leaf s).state := by
  refine State.named_mountsNone fun e => ?_
  split
  · exact .refl s
  · exact State.mountsNone_of_custody (by simp [okay])

theorem State.setMark_mountsNone (slot leaf : Nat) (mark : LeafMark) (s : State) :
    s.mountsNone (s.setMark slot leaf mark) :=
  State.mountsNone_onEntry (s.onLeaf slot leaf fun r => { r with mark := mark }) slot _ fun _ h => h

theorem takeMarkLeaf_mountsNone (slot generation leaf : Nat) (mark : LeafMark) (s : State) :
    s.mountsNone (takeMarkLeaf slot generation leaf mark s).state := by
  refine State.named_mountsNone fun e => ?_
  split
  · exact .refl s
  split
  · exact .refl s
  · exact State.setMark_mountsNone slot leaf mark s

theorem takeReadLeaf_state (slot leaf : Nat) (s : State) : (takeReadLeaf slot leaf s).state = s := by
  unfold takeReadLeaf
  dsimp only
  split
  · rfl
  split <;> rfl

/-- CHECK IN fills a FREE slot with a STAGED entry. -/
theorem takeCheckIn_mountsNone (shelfMark : List Byte) (designation : Option (List Byte)) (accession leafCount : Nat)
    (s : State) : s.mountsNone (takeCheckIn shelfMark designation accession leafCount s).state := by
  unfold takeCheckIn
  split
  · exact .refl s
  · exact .refl s
  · exact .refl s
  · next slot base _ _ _ =>
    exact State.mountsNone_onEntry s slot (fun _ => CustodyEntry.staged _ _ _ _ _ _ _) nofun

theorem takeRelease_mountsNone (slot generation : Nat) (s : State) :
    s.mountsNone (takeRelease slot generation s).state := by
  unfold takeRelease
  dsimp only
  (repeat' split) <;> first
    | exact .refl s
    | exact State.mountsNone_onEntry s slot (fun e => .free e.generation) nofun


/-! ### The requests of the frames, the plan and the sweep -/

theorem State.entry_onFace (slot : Nat) (face : Face) (f : FaceRecord → FaceRecord) (s : State) (i : Nat) :
    (s.onFace slot face f).entry i = s.entry i := by
  cases face <;> rfl

theorem State.bookCoverage_mountsNone (slot : Nat) (face : Face) (band : Nat) (s : State) :
    s.mountsNone (s.bookCoverage slot face band).2 := by
  unfold State.bookCoverage
  split
  · split
    · exact .refl s
    · refine State.mountsNone.trans (t := s.onFace slot face _) (fun i _ h => ?_)
        (State.mountsNone_onEntry _ slot _ fun _ h => h)
      rwa [State.entry_onFace] at h
  · exact .refl s

theorem State.freeByVerdict_mountsNone (index : Nat) (s : State) : s.mountsNone (s.freeByVerdict index) :=
  State.mountsNone_of_skeleton (by simp [State.freeByVerdict])

theorem State.inVerdict_mountsNone {index generation : Nat} {act : Served} {s : State} (h : s.mountsNone act.state) :
    s.mountsNone (s.inVerdict index generation act).state := by
  unfold State.inVerdict
  split
  · exact .refl s
  split
  · exact .refl s
  · exact h

theorem takeAcceptFrame_mountsNone (index generation : Nat) (s : State) :
    s.mountsNone (takeAcceptFrame index generation s).state := by
  refine State.inVerdict_mountsNone ?_
  dsimp only
  split
  · exact .refl s
  · exact (State.bookCoverage_mountsNone _ _ _ s).trans (State.freeByVerdict_mountsNone _ _)

theorem takeRejectFrame_mountsNone (index generation : Nat) (s : State) :
    s.mountsNone (takeRejectFrame index generation s).state :=
  State.inVerdict_mountsNone (State.freeByVerdict_mountsNone _ _)

theorem State.firstBuild_skeleton (mode : SweepMode) (s : State) :
    (s.firstBuild mode).custody.skeleton = s.custody.skeleton := by
  have pass : ∀ (l : List Nat) (s : State),
      (l.foldl (fun s i => s.buildEntry i) s).custody.skeleton = s.custody.skeleton := by
    intro l
    induction l with
    | nil => simp
    | cons i rest ih => intro s; simp [ih]
  cases mode with
  | pass => exact pass _ s
  | count _ => simp [State.firstBuild]
  | opened => simp [State.firstBuild]

theorem takeCaptureOpening_mountsNone (mode : SweepMode) (s : State) :
    s.mountsNone (takeCaptureOpening mode s).state := by
  refine State.mountsNone_of_skeleton ?_
  unfold takeCaptureOpening
  dsimp only
  (repeat' split) <;> simp [refuse, accepted, State.openSweep, State.firstBuild_skeleton]

theorem takeCloseOpening_mountsNone (s : State) : s.mountsNone (takeCloseOpening s).state := by
  refine State.mountsNone_of_custody ?_
  unfold takeCloseOpening State.closeSweep
  dsimp only
  (repeat' split) <;> simp [refuse, okay, *]

theorem takeStopSweep_mountsNone (s : State) : s.mountsNone (takeStopSweep s).state := by
  refine State.mountsNone_of_custody ?_
  unfold takeStopSweep
  split <;> simp [refuse, okay]

theorem takeSetPlanEntry_mountsNone (index : Nat) (cameras : CameraSet) (bank level duration : Nat) (s : State) :
    s.mountsNone (takeSetPlanEntry index cameras bank level duration s).state := by
  refine State.mountsNone_of_custody ?_
  unfold takeSetPlanEntry
  split <;> simp [refuse, okay]

theorem takeSetPlanLength_mountsNone (length : Nat) (s : State) :
    s.mountsNone (takeSetPlanLength length s).state := by
  refine State.mountsNone_of_custody ?_
  unfold takeSetPlanLength
  (repeat' split) <;> simp [refuse, okay]

/-! ### The requests of the cradle, the guards, the light and the station -/

theorem takeTurn_mountsNone (direction : Direction) (count requestedClass : Nat) (s : State) :
    s.mountsNone (takeTurn direction count requestedClass s).state := by
  refine State.mountsNone_of_custody ?_
  unfold takeTurn
  dsimp only
  (repeat' split) <;> simp [refuse, accepted, State.beginTurn]

theorem takeResume_mountsNone (s : State) : s.mountsNone (takeResume s).state := by
  refine State.mountsNone_of_skeleton ?_
  unfold takeResume
  (repeat' split) <;> simp [refuse, okay]

theorem takeRecoverTurn_mountsNone (opening : Nat) (s : State) :
    s.mountsNone (takeRecoverTurn opening s).state := by
  refine State.mountsNone_of_skeleton ?_
  unfold takeRecoverTurn State.recoverTo
  (repeat' split) <;> simp [refuse, okay, *]

theorem State.picked_mountsNone {slot leaf : Nat} {act : Served} {s : State} (h : s.mountsNone act.state) :
    s.mountsNone (s.picked slot leaf act).state := by
  unfold State.picked
  split
  · exact .refl s
  split
  · exact .refl s
  · exact h

theorem takeConfirmPick_mountsNone (slot leaf : Nat) (s : State) :
    s.mountsNone (takeConfirmPick slot leaf s).state :=
  State.picked_mountsNone <|
    (State.mountsNone_onEntry s slot (fun e => { e with reference := s.gauge.delta }) fun _ h => h).trans
      (State.mountsNone_of_custody (State.enterCarry_custody _))

theorem takeRejectPick_mountsNone (slot leaf : Nat) (s : State) :
    s.mountsNone (takeRejectPick slot leaf s).state :=
  State.picked_mountsNone (State.mountsNone_of_skeleton (by simp [okay]))

theorem takeAckGuard_mountsNone (s : State) : s.mountsNone (takeAckGuard s).state := by
  refine State.mountsNone_of_custody ?_
  unfold takeAckGuard
  split <;> simp [refuse, okay]

theorem takePreviewOn_mountsNone (level : Nat) (s : State) : s.mountsNone (takePreviewOn level s).state := by
  refine State.mountsNone_of_custody ?_
  unfold takePreviewOn State.grantPreview
  (repeat' split) <;> simp [refuse, okay, State.startPreview]

theorem takePreviewOff_mountsNone (s : State) : s.mountsNone (takePreviewOff s).state :=
  State.mountsNone_of_custody (by simp [takePreviewOff, okay])

theorem takeSetSetting_mountsNone (index : Nat) (value : Word) (s : State) :
    s.mountsNone (takeSetSetting index value s).state := by
  refine State.mountsNone_of_custody ?_
  unfold takeSetSetting
  split <;> simp [refuse, okay]

theorem State.settingsGood_custody (source : SettingsSource) (sum : Nat) (s : State) :
    (s.settingsGood source sum).custody = s.custody := by
  unfold State.settingsGood
  dsimp only
  split <;> simp

theorem State.setMode_custody (mode : Mode) (cause : ModeCause) (s : State) :
    (s.setMode mode cause).custody = s.custody := rfl

theorem State.enterHalted_custody (cause : ModeCause) (s : State) : (s.enterHalted cause).custody = s.custody := by
  simp [State.enterHalted, State.setMode_custody]

theorem takeEnterReady_mountsNone (s : State) : s.mountsNone (takeEnterReady s).state := by
  refine State.mountsNone_of_custody ?_
  unfold takeEnterReady
  dsimp only
  (repeat' split) <;> simp [refuse, okay, State.setMode_custody, State.settingsGood_custody]

theorem takeEnterMaintenance_mountsNone (s : State) : s.mountsNone (takeEnterMaintenance s).state := by
  refine State.mountsNone_of_custody ?_
  unfold takeEnterMaintenance
  (repeat' split) <;> simp [refuse, okay, State.setMode_custody]

theorem takeHalt_mountsNone (s : State) : s.mountsNone (takeHalt s).state := by
  refine State.mountsNone_of_custody ?_
  unfold takeHalt
  split <;> simp [refuse, okay, State.enterHalted_custody]

theorem takeClearHalt_mountsNone (s : State) : s.mountsNone (takeClearHalt s).state := by
  refine State.mountsNone_of_custody ?_
  unfold takeClearHalt
  (repeat' split) <;> simp [refuse, okay, State.setMode_custody]

/-! ### MOUNT, DISMOUNT, RESTART and the device reset -/

theorem State.mountAt_custody (slot generation opening : Nat) (s : State) :
    (s.mountAt slot generation opening).custody = (s.onEntry slot fun e => { e with state := .mounted }).custody := by
  simp [State.mountAt]

/-- MOUNT is granted only while no entry is MOUNTED (R14, check 6), so the entry it mounts is the only one. -/
theorem takeMount_oneMounted (slot generation opening : Nat) (s : State) (h : s.oneMounted) :
    (takeMount slot generation opening s).state.oneMounted := by
  by_cases hn : s.mountedSlot = none
  · have only : (s.mountAt slot generation opening).oneMounted := by
      intro i hi j hj
      have at_ : ∀ k, k < 8 → ((s.mountAt slot generation opening).entry k).state = .mounted → slot = k := by
        intro k hk hm
        by_contra hne
        rw [State.entry, State.mountAt_custody, ← State.entry, State.entry_onEntry _ _ _ _ hk, if_neg hne] at hm
        exact State.mountedSlot_none.1 hn k hk hm
      exact fun hmi hmj => (at_ i hi hmi).symm.trans (at_ j hj hmj)
    unfold takeMount
    dsimp only
    (repeat' split) <;> first | exact h | exact only
  · unfold takeMount
    dsimp only
    (repeat' split) <;> exact h

theorem State.parkMounted_mountsNone (slot : Nat) (s : State) : s.mountsNone (s.parkMounted slot) :=
  (State.mountsNone_onEntry s slot (fun e => { e with state := .staged }) nofun).trans
    (State.mountsNone_of_custody (by simp only [State.parkMounted, State.beginParking_custody, State.onCradle_custody]))

theorem takeDismount_mountsNone (slot generation : Nat) (s : State) :
    s.mountsNone (takeDismount slot generation s).state := by
  have act : s.mountsNone (s.dismount slot) :=
    State.mountsNone.trans (State.mountsNone_of_custody (by simp)) (State.parkMounted_mountsNone slot _)
  unfold takeDismount
  dsimp only
  (repeat' split) <;> first | exact .refl s | exact act

theorem Vec.at_each {α β : Type} {n : Nat} (v : Vector α n) (f : α → β) (i : Nat) (d : α) (hi : i < n) (d' : β) :
    Vec.at (Vec.each v f) i d' = f (Vec.at v i d) := by
  simp [Vec.at, Vec.each, hi]

theorem State.restartBlocks_custody (s : State) : s.restartBlocks.custody = s.custody.noFrames := by
  simp [State.restartBlocks]

/-- The entries after the blocks of a RESTART: frames open 0, all else kept (R26). -/
theorem State.entry_restartBlocks (s : State) (i : Nat) (hi : i < 8) :
    s.restartBlocks.entry i = { s.entry i with framesOpen := 0 } := by
  rw [State.entry, State.restartBlocks_custody]
  exact Vec.at_each _ _ _ _ hi _

theorem State.restartStation_custody (returned : Nat) (volume : Option VolumeName) (s : State) :
    (s.restartStation returned volume).custody = s.custody := by
  unfold State.restartStation
  dsimp only
  split <;> rfl

theorem takeRestart_mountsNone (s : State) : s.mountsNone (takeRestart s).state := by
  have blocks : s.mountsNone s.restartBlocks := by
    intro i hi hm
    rwa [State.entry_restartBlocks _ _ hi] at hm
  have parked (s : State) : s.mountsNone s.restartMounted := by
    unfold State.restartMounted
    split
    · exact .refl s
    · next slot _ =>
      exact (State.mountsNone_onEntry s slot (fun e => { e with hold := some .restart }) fun _ h => h).trans
        (State.parkMounted_mountsNone slot _)
  unfold takeRestart
  split
  · exact .refl s
  · exact (blocks.trans (parked _)).trans (State.mountsNone_of_custody (State.restartStation_custody _ _ _))

/-- A device reset leaves every slot FREE (R1). -/
theorem execDeviceReset_oneMounted (s t : State) (hr : execDeviceReset s = .next t) : t.oneMounted := by
  have free : ∀ i, i < 8 → (t.entry i).state = .free := by
    intro i hi
    simp only [execDeviceReset, Host.Outcome.next.injEq] at hr
    subst hr
    simp [State.entry, State.cleared, State.reset, Vec.at, hi, CustodyEntry.free]
  intro i hi j _ hm
  simp [free i hi] at hm

/-! ### The events -/

theorem State.verify_custody (s : State) : s.verify.custody = s.custody := by
  unfold State.verify
  dsimp only
  split <;> simp [State.settingsGood_custody, State.settingsFault]

theorem State.curtainBreaks_custody (s : State) : s.curtainBreaks.custody = s.custody := by
  unfold State.curtainBreaks State.curtainTrip
  dsimp only
  split <;> simp

theorem State.stopKeyPressed_custody (s : State) : s.stopKeyPressed.custody = s.custody := by
  unfold State.stopKeyPressed
  dsimp only
  (repeat' split) <;> simp [State.enterHalted_custody]

/-- A change of a sensor that is taken by a motion mounts nothing. -/
theorem State.sensor_mountsNone {s : State} {p : Prop} [Decidable p] (f : Sensors → Sensors) (take : State → State)
    (h : ∀ s : State, (take s).custody.skeleton = s.custody.skeleton) :
    s.mountsNone (if p then s else take (s.onSensors f)) := by
  split
  · exact .refl s
  · exact State.mountsNone_of_skeleton (by simp [h])

/-- An expiry of a timer of a turn mounts nothing where what it does books at most. -/
theorem State.turnExpiry_mountsNone (running : CradleTimers → Option Nat) (act : State → State) (s : State)
    (h : (act s).custody.skeleton = s.custody.skeleton) : s.mountsNone (s.turnExpiry running act) := by
  unfold State.turnExpiry
  split
  · exact State.mountsNone_of_skeleton h
  · exact .refl s

theorem State.takeFrame_custody (link : Link) (frame : Frame) (s : State) :
    (s.takeFrame link frame).custody = s.custody := by
  cases frame <;> simp only [State.takeFrame, State.arrive, State.checkFrame] <;> (repeat' split) <;> rfl

/-- Every command keeps at most one entry MOUNTED. -/
theorem exec_oneMounted : ∀ (c : Instr) (s t : State), s.oneMounted → exec c s = .next t → t.oneMounted
  | .deviceReset, s, t, _, hr => execDeviceReset_oneMounted s t hr
  | .requestFrameComplete link frame, s, t, h, hr =>
    event_oneMounted (by split; exacts [.refl s, State.mountsNone_of_custody (State.takeFrame_custody ..)]) h
      (show execRequestFrameComplete link frame s = .next t from hr)
  | .replySent link, s, t, h, hr =>
    event_oneMounted (State.mountsNone_of_custody rfl) h (show execReplySent link s = .next t from hr)
  | .linkIdleTimeout link, s, t, h, hr =>
    event_oneMounted (State.mountsNone_of_custody rfl) h (show execLinkIdleTimeout link s = .next t from hr)
  | .checkIn .., _, _, h, hr => request_oneMounted (takeCheckIn_mountsNone _ _ _ _) h hr
  | .setHandling .., _, _, h, hr => request_oneMounted (takeSetHandling_mountsNone _ _ _ _ _) h hr
  | .setBudget .., _, _, h, hr => request_oneMounted (takeSetBudget_mountsNone _ _ _) h hr
  | .hold .., _, _, h, hr => request_oneMounted (takeHold_mountsNone _ _) h hr
  | .unhold .., _, _, h, hr => request_oneMounted (takeUnhold_mountsNone _ _) h hr
  | .waive .., _, _, h, hr => request_oneMounted (takeWaive_mountsNone _ _ _) h hr
  | .mount .., _, _, h, hr => State.oneMounted_undisturbed.request (takeMount_oneMounted _ _ _) h hr
  | .dismount .., _, _, h, hr => request_oneMounted (takeDismount_mountsNone _ _) h hr
  | .release .., _, _, h, hr => request_oneMounted (takeRelease_mountsNone _ _) h hr
  | .listCustody .., _, _, h, hr => request_oneMounted State.mountsNone.refl h hr
  | .readCustody .., _, _, h, hr => request_oneMounted State.mountsNone.refl h hr
  | .markLeaf .., _, _, h, hr => request_oneMounted (takeMarkLeaf_mountsNone _ _ _ _) h hr
  | .setRequirement .., _, _, h, hr => request_oneMounted (takeSetRequirement_mountsNone _ _ _) h hr
  | .readLeaf _ slot leaf, _, _, h, hr =>
    request_oneMounted (fun s => by rw [takeReadLeaf_state]; exact .refl s) h hr
  | .turn .., _, _, h, hr => request_oneMounted (takeTurn_mountsNone _ _ _) h hr
  | .approveTurn .., _, _, h, hr => request_oneMounted (takeApproveTurn_mountsNone _ _ _) h hr
  | .resume _, _, _, h, hr => request_oneMounted takeResume_mountsNone h hr
  | .recoverTurn .., _, _, h, hr => request_oneMounted (takeRecoverTurn_mountsNone _) h hr
  | .clearReference .., _, _, h, hr => request_oneMounted (takeClearReference_mountsNone _ _) h hr
  | .confirmPick .., _, _, h, hr => request_oneMounted (takeConfirmPick_mountsNone _ _) h hr
  | .rejectPick .., _, _, h, hr => request_oneMounted (takeRejectPick_mountsNone _ _) h hr
  | .ackGuard _, _, _, h, hr => request_oneMounted takeAckGuard_mountsNone h hr
  | .previewOn .., _, _, h, hr => request_oneMounted (takePreviewOn_mountsNone _) h hr
  | .previewOff _, _, _, h, hr => request_oneMounted takePreviewOff_mountsNone h hr
  | .takeFrames .., _, _, h, hr => request_oneMounted (fun _ => State.mountsNone_of_custody rfl) h hr
  | .acceptFrame .., _, _, h, hr => request_oneMounted (takeAcceptFrame_mountsNone _ _) h hr
  | .rejectFrame .., _, _, h, hr => request_oneMounted (takeRejectFrame_mountsNone _ _) h hr
  | .setPlanEntry .., _, _, h, hr => request_oneMounted (takeSetPlanEntry_mountsNone _ _ _ _ _) h hr
  | .setPlanLength .., _, _, h, hr => request_oneMounted (takeSetPlanLength_mountsNone _) h hr
  | .readPlan .., _, _, h, hr => request_oneMounted State.mountsNone.refl h hr
  | .captureOpening .., _, _, h, hr => request_oneMounted (takeCaptureOpening_mountsNone _) h hr
  | .closeOpening _, _, _, h, hr => request_oneMounted takeCloseOpening_mountsNone h hr
  | .stopSweep _, _, _, h, hr => request_oneMounted takeStopSweep_mountsNone h hr
  | .setSetting .., _, _, h, hr => request_oneMounted (takeSetSetting_mountsNone _ _) h hr
  | .readSetting .., _, _, h, hr => request_oneMounted State.mountsNone.refl h hr
  | .enterReady _, _, _, h, hr => request_oneMounted takeEnterReady_mountsNone h hr
  | .enterMaintenance _, _, _, h, hr => request_oneMounted takeEnterMaintenance_mountsNone h hr
  | .halt _, _, _, h, hr => request_oneMounted takeHalt_mountsNone h hr
  | .clearHalt _, _, _, h, hr => request_oneMounted takeClearHalt_mountsNone h hr
  | .restart _, _, _, h, hr => request_oneMounted takeRestart_mountsNone h hr
  | .readStatus _, _, _, h, hr => request_oneMounted State.mountsNone.refl h hr
  | .takeNotices .., _, _, h, hr => request_oneMounted (fun _ => State.mountsNone_of_custody rfl) h hr
  | .curtainBroken, s, t, h, hr =>
    event_oneMounted (by split; exacts [.refl s, State.mountsNone_of_custody s.curtainBreaks_custody]) h
      (show execCurtainBroken s = .next t from hr)
  | .curtainClear, s, t, h, hr =>
    event_oneMounted (State.mountsNone_of_custody rfl) h (show execCurtainClear s = .next t from hr)
  | .stopKeyPress, s, t, h, hr =>
    event_oneMounted (by split; exacts [.refl s, State.mountsNone_of_custody s.stopKeyPressed_custody]) h
      (show execStopKeyPress s = .next t from hr)
  | .stopKeyRelease, s, t, h, hr =>
    event_oneMounted (State.mountsNone_of_custody rfl) h (show execStopKeyRelease s = .next t from hr)
  | .angleChange degrees, s, t, h, hr =>
    event_oneMounted (State.sensor_mountsNone _ State.angleTaken (by simp)) h
      (show execAngleChange degrees s = .next t from hr)
  | .wandDownChange level, s, t, h, hr =>
    event_oneMounted (State.sensor_mountsNone _ (State.wandDownTaken level) (by simp)) h
      (show execWandDownChange level s = .next t from hr)
  | .vacuumHeldChange level, s, t, h, hr =>
    event_oneMounted (State.sensor_mountsNone _ (State.vacuumHeldTaken level) (by simp)) h
      (show execVacuumHeldChange level s = .next t from hr)
  | .armFarChange level, s, t, h, hr =>
    event_oneMounted (State.sensor_mountsNone _ (State.armFarTaken level) (by simp)) h
      (show execArmFarChange level s = .next t from hr)
  | .armRestChange level, s, t, h, hr =>
    event_oneMounted (State.sensor_mountsNone _ State.armRestTaken (by simp)) h
      (show execArmRestChange level s = .next t from hr)
  | .cameraReadyChange camera level, s, t, h, hr =>
    event_oneMounted (by split; exacts [.refl s, State.mountsNone_of_skeleton (by simp)]) h
      (show execCameraReadyChange camera level s = .next t from hr)
  | .doneEdge camera, s, t, h, hr =>
    event_oneMounted (State.mountsNone_of_skeleton (by simp)) h (show execDoneEdge camera s = .next t from hr)
  | .storeUpset index value, s, t, h, hr =>
    event_oneMounted (State.mountsNone_of_custody rfl) h (show execStoreUpset index value s = .next t from hr)
  | .angleTimerExpiry, s, t, h, hr =>
    event_oneMounted (State.mountsNone_of_skeleton (by simp)) h (show execAngleTimerExpiry s = .next t from hr)
  | .liftTimeout, s, t, h, hr =>
    event_oneMounted (State.turnExpiry_mountsNone _ _ _ (by simp [State.phaseTimeout])) h
      (show execLiftTimeout s = .next t from hr)
  | .carryTimeout, s, t, h, hr =>
    event_oneMounted (State.turnExpiry_mountsNone _ _ _ (by simp [State.phaseTimeout])) h
      (show execCarryTimeout s = .next t from hr)
  | .layTimeout, s, t, h, hr =>
    event_oneMounted (State.turnExpiry_mountsNone _ _ _ (by simp [State.phaseTimeout])) h
      (show execLayTimeout s = .next t from hr)
  | .settleTimerExpiry, s, t, h, hr =>
    event_oneMounted (State.turnExpiry_mountsNone _ _ _ (by simp)) h (show execSettleTimerExpiry s = .next t from hr)
  | .pickConfirmTimeout, s, t, h, hr =>
    event_oneMounted (State.turnExpiry_mountsNone _ _ _ (by simp)) h (show execPickConfirmTimeout s = .next t from hr)
  | .recoveryTimerExpiry, s, t, h, hr =>
    event_oneMounted (State.mountsNone_of_skeleton (by simp)) h (show execRecoveryTimerExpiry s = .next t from hr)
  | .gaugeGateExpiry, s, t, h, hr =>
    event_oneMounted (State.mountsNone_of_skeleton (by simp)) h (show execGaugeGateExpiry s = .next t from hr)
  | .meteringIntervalExpiry raw, s, t, h, hr =>
    event_oneMounted (State.mountsNone_of_skeleton (by simp)) h
      (show execMeteringIntervalExpiry raw s = .next t from hr)
  | .cameraReadyTimeout camera, s, t, h, hr =>
    event_oneMounted (State.mountsNone_of_skeleton (by simp)) h (show execCameraReadyTimeout camera s = .next t from hr)
  | .cameraConfirmTimeout camera, s, t, h, hr =>
    event_oneMounted (State.mountsNone_of_skeleton (by simp)) h
      (show execCameraConfirmTimeout camera s = .next t from hr)
  | .verificationTimerExpiry, s, t, h, hr =>
    event_oneMounted (State.mountsNone_of_custody s.verify_custody) h
      (show execVerificationTimerExpiry s = .next t from hr)
  | .pendingBuild, s, t, h, hr =>
    event_oneMounted (State.mountsNone_of_skeleton (by simp)) h (show execPendingBuild s = .next t from hr)
  | .startByte link, s, t, h, hr =>
    event_oneMounted (by split; exacts [State.mountsNone_of_custody rfl, .refl s]) h
      (show execStartByte link s = .next t from hr)
  | .oscillatorCycle, s, t, h, hr =>
    event_oneMounted (State.mountsNone_of_custody rfl) h (show execOscillatorCycle s = .next t from hr)

/-- Settles O8: MOUNT is the one command that mounts an entry, and it is refused while one is MOUNTED (R14, R15). -/
theorem atMostOneVolumeMounted : Obligations.AtMostOneVolumeMounted := by
  unfold Obligations.AtMostOneVolumeMounted
  exact step_keeps State.oneMounted_undisturbed exec_oneMounted

end Sys2Proof.Machine
end

section
/-! PROOFS. The machine right after a device reset. -/

namespace Sys2Proof.Machine

/-! ### The machine right after a device reset -/

theorem State.reset_entry (i : Nat) (hi : i < 8) : State.reset.entry i = .free 0 := by
  simp [State.entry, State.reset, Vec.at, hi]

theorem State.reset_word (i : Nat) (hi : i < 70) : State.reset.word i = 0#32 := by
  simp [State.word, State.reset, Vec.at, hi]

theorem State.reset_frame (i : Nat) (hi : i < 256) : State.reset.frame i = .initial := by
  simp [State.frame, State.reset, Vec.at, hi]

theorem State.reset_planAt (i : Nat) (hi : i < 32) : State.reset.walker.planAt i = none := by
  simp [Walker.planAt, State.reset, Vec.at, hi]

theorem State.reset_dark : State.reset.lights.dark := by
  intro i hi
  simp [State.reset, Vec.at, hi]

theorem State.reset_port (link : Link) : State.reset.port link = .initial := by
  cases link <;> rfl

/-- The whole store is one free run (R31). -/
theorem State.reset_longestRun : longestRun State.reset.custody.leaves = some (0, 4096) := by
  simp [State.reset, longestRun, freeRuns, freeRunsFrom]

/-- Settles O3: each block of the reset state, read off its definition. -/
theorem resetGivesTheSpecValues : Obligations.ResetGivesTheSpecValues := by
  refine ⟨rfl, State.reset_word, rfl, rfl, State.reset_entry, rfl, fun _ => rfl, rfl, State.reset_longestRun, rfl, rfl,
    rfl, rfl, rfl, rfl, rfl, rfl, rfl, rfl, rfl, rfl, rfl, rfl, rfl, rfl, State.reset_dark, rfl, rfl, rfl, ?_,
    fun i hi => ?_, rfl, rfl, rfl, rfl, State.reset_planAt, rfl, rfl, rfl, rfl, rfl, rfl, rfl, rfl, State.reset_port⟩
  · simp only [State.reset]
  · rw [State.reset_frame i hi]
    rfl

/-- Settles O4: the two large invariants by their checks, the others read off the reset state. -/
theorem invariantsHoldAtReset : Obligations.InvariantsHoldAtReset := by
  have store : State.reset.extentsShareStore := State.extentsShareStore_of_check _ (by decide +kernel)
  have light : State.reset.LightSafe := State.lightSafe_of_check _ (by decide +kernel)
  have whole : State.reset.frames.whole := by simp [State.reset, Frames.whole]
  have bounded : State.reset.noticesBounded := fun link => by rw [State.reset_port]; exact Nat.zero_le _
  exact ⟨rfl, LeafStore.reset_wf, store, whole, light.oneMounted, bounded, light⟩

end Sys2Proof.Machine
end

section
/-! PROOFS. The outcome of a request; SET HANDLING, HOLD, WAIVE and UNHOLD. -/

namespace Sys2Proof.Machine

/-! ### The outcome of a request, from what its owning block answers -/

section outcomes
variable {c : Instr} {o : Origin} {take : State → Served} {s : State} {result : Result} {body : List Byte}

/-- A refusal, or an answer that reads alone. -/
theorem onlyAnswers_of_take (h : s.accepts c o) (he : exec c s = request c o take s)
    (ht : take (s.heard o) = ⟨s.heard o, result, body⟩) : s.onlyAnswers c o result body :=
  he.trans (request_only_answers c o take s result body h ht)

/-- An answer with an effect that posts nothing and moves no descriptor. -/
theorem answersWith_quiet {effect : State → State} (h : s.accepts c o) (he : exec c s = request c o take s)
    (ht : take (s.heard o) = ⟨effect (s.heard o), result, body⟩) (hq : (effect (s.heard o)).outbox = [])
    (hf : (effect (s.heard o)).frames = s.frames) : s.answersWith c o result body effect [] := by
  rw [State.answersWith, State.announced_nil, he]
  exact request_quiet c o take s _ result body h ht hq (by rw [hf]; exact id)

/-- An answer with an effect that posts one notice and moves no descriptor. -/
theorem answersWith_posts {effect : State → State} {n : Notice} (h : s.accepts c o)
    (he : exec c s = request c o take s) (ht : take (s.heard o) = ⟨(effect (s.heard o)).post n, result, body⟩)
    (hq : (effect (s.heard o)).outbox = []) (hf : (effect (s.heard o)).frames = s.frames) :
    s.answersWith c o result body effect [n] := by
  rw [State.answersWith, he]
  exact request_posts c o take s _ n result body h ht hq (by rw [hf]; exact id)

/-- One check of a chain: the refusal where it fails, and what lies past it where it does not. -/
theorem check_answers {p : Prop} [Decidable p] {rest : Served} {past : Prop} (h : s.accepts c o)
    (he : exec c s = request c o take s) (ht : take (s.heard o) = if p then refuse result body (s.heard o) else rest)
    (hp : ¬ p → take (s.heard o) = rest → past) : if p then s.onlyAnswers c o result body else past := by
  split
  · next hc => exact onlyAnswers_of_take h he (ht.trans (if_pos hc))
  · next hc => exact hp hc (ht.trans (if_neg hc))

/-- The checks that the requests of a named volume begin with, STALE then STATE (R3); what they do past them is left
open. -/
theorem named_answers {slot generation : Nat} {act : CustodyEntry → Served} {past : Prop} (h : s.accepts c o)
    (he : exec c s = request c o take s) (ht : take (s.heard o) = (s.heard o).named slot generation act)
    (hp : take (s.heard o) = act (s.entry slot) → past) :
    if (s.entry slot).generation ≠ generation then s.onlyAnswers c o .stale []
    else if (s.entry slot).state = .free then s.onlyAnswers c o .state []
    else past :=
  check_answers h he ht fun _ ht => check_answers h he ht fun _ => hp

end outcomes

/-! ### SET HANDLING, HOLD, WAIVE and UNHOLD -/

/-- Settles O21: the checks of each request in turn, then the one field of the entry. -/
theorem clearanceHoldAndWaiver : Obligations.ClearanceHoldAndWaiver := by
  unfold Obligations.ClearanceHoldAndWaiver
  intro o slot generation s
  refine ⟨fun handlingClass angleLimit faceBudget h => ?_, fun h => ?_, fun reason h => ?_⟩
  · refine check_answers h rfl rfl fun _ ht => ?_
    have staged : ((s.entry slot).state = .free ∨ (s.entry slot).state = .mounted) ↔
        (s.entry slot).state ≠ .staged := by
      cases (s.entry slot).state <;> simp
    rw [if_congr staged rfl rfl]
    exact check_answers h rfl ht fun _ ht => answersWith_quiet h rfl ht h.1 rfl
  · exact named_answers h rfl rfl fun ht => answersWith_quiet h rfl ht h.1 rfl
  · exact named_answers h rfl rfl fun ht => answersWith_quiet h rfl ht h.1 rfl

/-- Settles O22: past its checks UNHOLD empties the hold, which leaves an entry that has none as it was. -/
theorem unholdClearsTheHold : Obligations.UnholdClearsTheHold := by
  unfold Obligations.UnholdClearsTheHold
  intro o slot generation s c e h
  refine named_answers h rfl rfl fun ht => ?_
  split
  · next hn =>
    have same : (s.heard o).onEntry slot (fun e => { e with hold := none }) = s.heard o :=
      State.onEntry_same _ _ _ (by
        rw [State.heard_entry]; exact congrArg (fun x => { s.entry slot with hold := x }) hn.symm)
    exact onlyAnswers_of_take h rfl (ht.trans (by rw [same]; rfl))
  · exact answersWith_quiet h rfl ht h.1 rfl

end Sys2Proof.Machine
end

section
/-! PROOFS. READ CUSTODY, LIST CUSTODY and RELEASE. -/

namespace Sys2Proof.Machine

/-! ### The bytes of an entry, as section 11.6 lists them -/

/-- A presence flag (R195). -/
theorem flag_isSome {α : Type} (x : Option α) [Decidable (x = none)] :
    flag x.isSome = be 1 (if x = none then 0 else 1) := by
  cases x <;> simp [flag]

theorem entryStateCode_eq (x : EntryState) :
    entryStateCode x = match x with | .free => 0 | .staged => 1 | .mounted => 2 := by
  cases x <;> rfl

theorem holdCauseCode_eq (x : Option HoldCause) :
    holdCauseCode x = match x with
      | none => 0 | some .conservation => 1 | some .turnFault => 2 | some .restart => 3 := by
  rcases x with _ | _ | _ | _ <;> rfl

/-- A field of an absent clearance is sent as 0. -/
theorem clearance_getD {α : Type} (x : Option Clearance) (f : Clearance → α) (d : Clearance) :
    (x.map f).getD (f d) = f (x.getD d) := by
  cases x <;> rfl

/-! ### READ CUSTODY and LIST CUSTODY -/

/-- READ CUSTODY is permitted on every link (R25, R189). -/
theorem readCustody_accepts {o : Origin} {slot : Nat} {s : State} (hq : s.quiet) (hi : (s.port o.link).idle)
    (hs : slot ≤ 7) : s.accepts (.readCustody o slot) o :=
  ⟨hq, hi, rfl, by simp [linkRangeOk, within, hs]⟩

/-- Settles O27: both requests answer what stands in the table and change nothing. -/
theorem custodyIsReadAndListed : Obligations.CustodyIsReadAndListed := by
  unfold Obligations.CustodyIsReadAndListed
  refine ⟨fun o slot s => ?_, fun o firstSlot s => ?_⟩
  · intro e k name hq hi hs
    have absent {α : Type} (f : Clearance → α) : (e.clearance.map f).getD (f ⟨0, 0, 0⟩) = f k :=
      clearance_getD e.clearance f _
    have h1 := absent Clearance.handlingClass
    have h2 := absent Clearance.angleLimit
    have h3 := absent Clearance.faceBudget
    dsimp only at h1 h2 h3
    refine onlyAnswers_of_take (readCustody_accepts hq hi hs) rfl ?_
    show okay (custodyEntryBytes slot e) (s.heard o) = _
    unfold custodyEntryBytes
    rw [okay, flag_isSome, flag_isSome, flag_isSome, h1, h2, h3, entryStateCode_eq, holdCauseCode_eq]
    rfl
  · intro used name record h
    refine onlyAnswers_of_take h rfl ?_
    have hn : (used.drop 4).head? = used[4]? := List.head?_drop
    have hr : ∀ i, listRecordBytes i (s.entry i) = record i := by
      intro i
      simp only [listRecordBytes, shelfMarkBytes, designationBytes, nameBytes, flag_isSome, entryStateCode_eq]
      rfl
    show okay (be 1 (used.take 4).length ++ (used.take 4).flatMap (fun i => listRecordBytes i (s.entry i)) ++
      opt1 (used.drop 4).head?) (s.heard o) = _
    simp only [List.length_take, hn, hr, opt1, okay]

/-! ### RELEASE -/

/-- Settles O26: the five checks in turn, then the receipt; what the store holds after is `LeafStore.get_release`. -/
theorem releaseChecksInOrder : Obligations.ReleaseChecksInOrder := by
  unfold Obligations.ReleaseChecksInOrder
  intro o slot generation s c e withheld name h
  refine check_answers h rfl rfl fun hg ht => check_answers h rfl ht fun _ ht => check_answers h rfl ht fun _ ht =>
    check_answers h rfl ht fun _ ht => check_answers h rfl ht fun _ ht => ⟨?_, LeafStore.get_release _ _ _⟩
  refine answersWith_posts h rfl (ht.trans ?_) h.1 rfl
  simp only [okay, receiptBytes, flag_isSome, ← not_not.1 hg]
  rfl

end Sys2Proof.Machine
end

section
/-! PROOFS. CHECK IN. -/

namespace Sys2Proof.Machine

/-! ### The searches of CHECK IN -/

/-- The ranges of CHECK IN at its link (R6, check 1). -/
theorem checkIn_linkRangeOk (o : Origin) (shelfMark : List Byte) (designation : Option (List Byte))
    (accession leafCount : Nat) :
    linkRangeOk (.checkIn o shelfMark designation accession leafCount) = true ↔
      nameOk 24 shelfMark = true ∧ (∀ d, designation = some d → nameOk 8 d = true) ∧
        (1 ≤ accession ∧ accession ≤ 4294967295) ∧ (1 ≤ leafCount ∧ leafCount ≤ 1024) := by
  simp only [linkRangeOk, within, Bool.and_eq_true, decide_eq_true_eq, Option.all_eq_true, and_assoc]

section searches
variable {s : State} {shelfMark : List Byte} {designation : Option (List Byte)}

theorem State.holderOfIdentity_eq_some {i : Nat} (hi : i < 8)
    (hh : s.inUse i ∧ (s.entry i).shelfMark = shelfMark ∧ (s.entry i).designation = designation)
    (hl : ∀ j, j < i → ¬ (s.inUse j ∧ (s.entry j).shelfMark = shelfMark ∧ (s.entry j).designation = designation)) :
    s.holderOfIdentity shelfMark designation = some i := by
  simp only [State.holderOfIdentity, List.find?_range_eq_some]
  simpa [sameIdentity, hi, State.inUse, imp_iff_not_or] using And.intro hh hl

theorem State.holderOfIdentity_eq_none
    (hu : ∀ i, i < 8 → ¬ (s.inUse i ∧ (s.entry i).shelfMark = shelfMark ∧ (s.entry i).designation = designation)) :
    s.holderOfIdentity shelfMark designation = none := by
  simpa [State.holderOfIdentity, sameIdentity, State.inUse] using hu

theorem State.lowestFree_eq_some {i : Nat} (hi : i < 8) (hf : ¬ s.inUse i) (hl : ∀ j, j < i → s.inUse j) :
    s.lowestFree = some i := by
  simp only [State.lowestFree, List.find?_range_eq_some]
  simpa [hi, State.inUse] using And.intro hf hl

theorem State.lowestFree_eq_none (hu : ∀ i, i < 8 → s.inUse i) : s.lowestFree = none := by
  simpa [State.lowestFree, State.inUse] using hu

end searches

/-- The first-fit search fails where no run is long enough (R29). -/
theorem firstFit_eq_none {st : LeafStore} {l : Nat} (h : LeafStore.wf st) (hl : 1 ≤ l)
    (hn : ∀ b, ¬ LeafStore.freeRun st b l) : firstFit l st = none := by
  simp only [firstFit, Option.map_eq_none_iff, List.find?_eq_none, decide_eq_true_eq]
  intro run hr hlong
  exact hn run.1 ((freeRun_iff st h _ _ hl).2 ⟨run, hr, Nat.le_refl _, by omega⟩)

/-- The first-fit search finds the lowest base where the records lie together free (R29): the first listed run that is
long enough begins there, since the runs are listed lowest base first. -/
theorem firstFit_eq_some {st : LeafStore} {b l : Nat} (h : LeafStore.wf st) (hl : 1 ≤ l)
    (hb : LeafStore.freeRun st b l) (hlow : ∀ b', b' < b → ¬ LeafStore.freeRun st b' l) : firstFit l st = some b := by
  have begins : ∀ run ∈ freeRuns st, l ≤ run.2 → b ≤ run.1 := fun run hr hlong =>
    Nat.le_of_not_lt fun hlt => hlow _ hlt ((freeRun_iff st h _ _ hl).2 ⟨run, hr, Nat.le_refl _, by omega⟩)
  obtain ⟨run, hr, hbase, hend⟩ := (freeRun_iff st h b l hl).1 hb
  have hrun : run.1 = b := Nat.le_antisymm hbase (begins run hr (by omega))
  cases hf : (freeRuns st).find? (fun run => decide (l ≤ run.2)) with
  | none => exact absurd (List.find?_eq_none.1 hf run hr) (by simp; omega)
  | some first =>
    obtain ⟨hlong, before, after, hsplit, hshort⟩ := List.find?_eq_some_iff_append.1 hf
    have hfirst : b ≤ first.1 := begins first (by simp [hsplit]) (by simpa using hlong)
    have hsorted := freeRunsFrom_sorted st 0 h.1 fun p hp => ⟨Nat.zero_le _, h.2 p hp⟩
    rw [show freeRunsFrom 0 st = before ++ first :: after from hsplit] at hsorted
    rw [hsplit, List.mem_append, List.mem_cons] at hr
    have hle : first.1 ≤ b := by
      rcases hr with hr | hr | hr
      · exact absurd (hshort run hr) (by simp; omega)
      · rw [← hr, hrun]
      · have := (List.pairwise_cons.1 (List.pairwise_append.1 hsorted).2.1).1 run hr
        omega
    simp only [firstFit, hf, Option.map_some]
    rw [Nat.le_antisymm hle hfirst]

/-- Settles O19: the link's range check, then the three searches of the Custody Unit in turn. -/
theorem checkInChecksInOrder : Obligations.CheckInChecksInOrder := by
  unfold Obligations.CheckInChecksInOrder
  intro o shelfMark designation accession leafCount s c name inRange holds unknown firstFree fits h hwf
  have range : inRange ↔ linkRangeOk c = true := by
    rw [checkIn_linkRangeOk]
    simp only [nameOk_iff]
    exact Iff.rfl
  have hl : inRange → 1 ≤ leafCount := fun hr => hr.2.2.2.1
  have taken (hr : inRange) := h.accepts (range.1 hr)
  have searched : takeCheckIn shelfMark designation accession leafCount (s.heard o) =
      match s.holderOfIdentity shelfMark designation, s.lowestFree, firstFit leafCount s.custody.leaves with
      | some slot, _, _ => refuse .duplicate (be 1 slot ++ be 1 (s.entry slot).generation) (s.heard o)
      | none, none, _ => refuse .noSlot [] (s.heard o)
      | none, some _, none => refuse .noExtent [] (s.heard o)
      | none, some slot, some base => checkInAt slot base shelfMark designation accession leafCount (s.heard o) := rfl
  refine ⟨fun hr => ?_, fun hr i hi hh hlow => ?_, fun hr hu hfull => ?_, fun hr hu hfree hfit => ?_,
    fun hr hu i hfree b hfit hlow => ?_⟩
  · exact request_out_of_range _ h (by simpa using (not_congr range).1 hr)
  · refine onlyAnswers_of_take (taken hr) rfl (searched.trans ?_)
    rw [State.holderOfIdentity_eq_some hi hh hlow]
    rfl
  · refine onlyAnswers_of_take (taken hr) rfl (searched.trans ?_)
    rw [State.holderOfIdentity_eq_none hu, State.lowestFree_eq_none hfull]
    rfl
  · obtain ⟨i, hi, hf, hused⟩ := hfree
    refine onlyAnswers_of_take (taken hr) rfl (searched.trans ?_)
    rw [State.holderOfIdentity_eq_none hu, State.lowestFree_eq_some hi hf hused, firstFit_eq_none hwf (hl hr) hfit]
    rfl
  · obtain ⟨hi, hf, hused⟩ := hfree
    refine ⟨answersWith_posts (taken hr) rfl (searched.trans ?_) h.1 rfl, LeafStore.get_allocate _ _ _⟩
    rw [State.holderOfIdentity_eq_none hu, State.lowestFree_eq_some hi hf hused, firstFit_eq_some hwf (hl hr) hfit hlow]
    rfl

end Sys2Proof.Machine
end

section
/-! PROOFS. MOUNT. -/

namespace Sys2Proof.Machine

/-! ### SETTLING begins -/

/-- The cradle of a SETTLING held at its start by the curtain (R53). -/
def Cradle.settlingHeld (handlingClass : Nat) (k : Cradle) : Cradle :=
  { k with moveClass := handlingClass, state := .holding, hold := some { cause := .guard, work := .settling } }

/-- The cradle of a SETTLING that ends in the event that begins it (R50). -/
def Cradle.settledAt (handlingClass limit : Nat) (k : Cradle) : Cradle :=
  { k with
    moveClass := handlingClass, state := .openReady, timers := { k.timers with angle := none }
    outputs := { k.outputs with angleDrive := .holding limit } }

/-- The cradle of a SETTLING that drives toward the limit under the angle timer (R50, R52). -/
def Cradle.settlingToward (handlingClass limit time : Nat) (k : Cradle) : Cradle :=
  { k with
    moveClass := handlingClass, state := .settling, timers := { k.timers with angle := some time }
    outputs := { k.outputs with angleDrive := .toward limit } }

section settling
variable {s : State} {slot : Nat} {k : Clearance}

theorem State.beginSettling_held (hm : s.mountedSlot = some slot) (hk : (s.entry slot).clearance = some k)
    (hc : s.guards.clear = false) :
    s.beginSettling =
      (s.onCradle (Cradle.settlingHeld k.handlingClass)).post (.turnHeld .guard .settling 0 s.gauge.values) := by
  simp only [State.beginSettling, State.onCradle_guards, hc, hm, Option.map_some, Option.getD_some,
    CustodyEntry.handlingClass, hk]
  rfl

/-- With the guard clear SETTLING drives the plates and tests arrival. -/
theorem State.beginSettling_driven (hm : s.mountedSlot = some slot) (hk : (s.entry slot).clearance = some k)
    (hc : s.guards.clear = true) :
    s.beginSettling =
      (s.onCradle (Cradle.settlingToward k.handlingClass k.angleLimit (s.angleTime k.handlingClass))).settlingTest := by
  simp only [State.beginSettling, State.onCradle_guards, hc, if_true, hm, Option.map_some, Option.getD_some,
    CustodyEntry.handlingClass, hk, State.driveSettling, State.angleLimit, State.onCradle_mountedSlot,
    State.onCradle_entry, CustodyEntry.angleLimit]
  rfl

theorem State.beginSettling_near (hm : s.mountedSlot = some slot) (hk : (s.entry slot).clearance = some k)
    (hc : s.guards.clear = true)
    (ha : s.cradle.sensors.angle ≤ k.angleLimit + 2 ∧ k.angleLimit ≤ s.cradle.sensors.angle + 2) :
    s.beginSettling =
      (s.onCradle (Cradle.settledAt k.handlingClass k.angleLimit)).post
        (.volumeMounted slot (s.entry slot).generation s.cradle.opening k.angleLimit) := by
  rw [State.beginSettling_driven hm hk hc, State.settlingTest, State.onCradle_mountedSlot, hm]
  simp only [State.onCradle_entry, CustodyEntry.angleLimit, hk, Option.map_some, Option.getD_some]
  exact (if_pos ha).trans rfl

theorem State.beginSettling_far (hm : s.mountedSlot = some slot) (hk : (s.entry slot).clearance = some k)
    (hc : s.guards.clear = true)
    (ha : ¬ (s.cradle.sensors.angle ≤ k.angleLimit + 2 ∧ k.angleLimit ≤ s.cradle.sensors.angle + 2)) :
    s.beginSettling =
      s.onCradle (Cradle.settlingToward k.handlingClass k.angleLimit (s.angleTime k.handlingClass)) := by
  rw [State.beginSettling_driven hm hk hc, State.settlingTest, State.onCradle_mountedSlot, hm]
  simp only [State.onCradle_entry, CustodyEntry.angleLimit, hk, Option.map_some, Option.getD_some]
  exact if_neg ha

end settling

/-! ### MOUNT -/

/-- With no other entry MOUNTED the entry that MOUNT rewrites is the MOUNTED one (R15). -/
theorem State.mountedSlot_mounted {s : State} {slot : Nat} (hs : slot < 8) (hn : s.mountedSlot = none) :
    (s.onEntry slot fun e => { e with state := .mounted }).mountedSlot = some slot := by
  rw [State.mountedSlot_some]
  refine ⟨hs, by rw [State.entry_onEntry _ _ _ _ hs, if_pos rfl], fun j hj => ?_⟩
  rw [State.entry_onEntry _ _ _ _ (by omega), if_neg (by omega)]
  exact State.mountedSlot_none.1 hn j (by omega)

/-- The ranges of MOUNT at its link (R14). -/
theorem mount_linkRangeOk (o : Origin) (slot generation opening : Nat) :
    linkRangeOk (.mount o slot generation opening) = true ↔ ¬ (7 < slot ∨ 255 < generation ∨ 1024 < opening) := by
  simp only [linkRangeOk, slotGenOk, within, Bool.and_eq_true, decide_eq_true_eq]
  omega

/-- Settles O24: the link's range check, the nine checks in turn, then SETTLING held, ended at once or driven. -/
theorem mountSettlesTheVolume : Obligations.MountSettlesTheVolume := by
  unfold Obligations.MountSettlesTheVolume
  intro o slot generation opening s c e h
  split
  · next hr => exact request_out_of_range _ h (by simpa using (not_congr (mount_linkRangeOk ..)).2 (not_not.2 hr))
  next hr =>
  have h := h.accepts ((mount_linkRangeOk ..).2 hr)
  refine check_answers h rfl rfl fun _ ht => check_answers h rfl ht fun hg ht => check_answers h rfl ht fun _ ht => ?_
  split
  · next hk => exact onlyAnswers_of_take h rfl (ht.trans (if_pos hk))
  next k hk =>
  intro near clear mounted accepts
  have ht := ht.trans (if_neg (by rw [State.heard_entry, hk]; exact nofun))
  refine check_answers h rfl ht fun _ ht => check_answers h rfl ht fun hn ht => check_answers h rfl ht fun _ ht =>
    check_answers h rfl ht fun _ ht => check_answers h rfl ht fun _ ht => ?_
  have hs : slot < 8 := by omega
  let t := ((s.heard o).onEntry slot fun e => { e with state := .mounted }).onCradle fun c =>
    { c with mounted := some ⟨slot, generation⟩, opening := opening }
  have hm : t.mountedSlot = some slot := State.mountedSlot_mounted (s := s.heard o) hs (not_not.1 hn)
  have hte : t.entry slot = { e with state := .mounted } := by
    simp only [t, State.onCradle_entry, State.entry_onEntry _ _ _ _ hs]; rfl
  have htk : (t.entry slot).clearance = some k := by rw [hte]; exact hk
  have hl : e.angleLimit = k.angleLimit := by simp [CustodyEntry.angleLimit, hk]
  have ht : takeMount slot generation opening (s.heard o) =
      accepted (be 1 slot ++ be 1 generation ++ be 2 opening ++ be 1 k.angleLimit) t.beginSettling := by
    rw [← hl]; exact ht
  split
  · next hc =>
    have hc : s.guards.clear = false := by simpa using (not_congr (Guards.clear_iff s.guards)).2 hc
    exact answersWith_posts h rfl (ht.trans (by rw [State.beginSettling_held hm htk hc]; rfl)) h.1 rfl
  next hc =>
  have hc : t.guards.clear = true := (Guards.clear_iff s.guards).2 (not_not.1 hc)
  split
  · next ha =>
    have hg : (t.entry slot).generation = generation := by rw [hte]; exact not_not.1 hg
    exact answersWith_posts h rfl (ht.trans (by rw [State.beginSettling_near hm htk hc ha, hg]; rfl)) h.1 rfl
  · next ha => exact answersWith_quiet h rfl (ht.trans (by rw [State.beginSettling_far hm htk hc ha]; rfl)) h.1 rfl

end Sys2Proof.Machine
end

section
/-! PROOFS. What a request that posts leaves; PARKING begun. -/

namespace Sys2Proof.Machine

/-! ### The notices of an event: only their order within one kind matters -/

/-- Two lists that agree kind by kind join the queues alike (R190). -/
theorem inOrderOfKind_congr {a b : List Notice}
    (h : ∀ k, a.filter (fun n => n.rank == k) = b.filter fun n => n.rank == k) : inOrderOfKind a = inOrderOfKind b := by
  simp only [inOrderOfKind, h]

/-- Of two lists with no kind in common, at most one holds notices of a kind. -/
theorem filter_rank_swap {a b : List Notice} (h : ∀ n ∈ a, ∀ m ∈ b, n.rank ≠ m.rank) (k : Nat) :
    (a ++ b).filter (fun n => n.rank == k) = (b ++ a).filter fun n => n.rank == k := by
  have one : a.filter (fun n => n.rank == k) = [] ∨ b.filter (fun n => n.rank == k) = [] := by
    by_contra hne
    obtain ⟨ha, hb⟩ := not_or.1 hne
    obtain ⟨n, hn⟩ := List.exists_mem_of_ne_nil _ ha
    obtain ⟨m, hm⟩ := List.exists_mem_of_ne_nil _ hb
    simp only [List.mem_filter, beq_iff_eq] at hn hm
    exact h n hn.1 m hm.1 (hn.2.trans hm.2.symm)
  rcases one with one | one <;> simp [one]

/-- Notices of different kinds may be posted in either order. -/
theorem inOrderOfKind_swap {a b : List Notice} (h : ∀ n ∈ a, ∀ m ∈ b, n.rank ≠ m.rank) (c d : List Notice) :
    inOrderOfKind (c ++ (a ++ b) ++ d) = inOrderOfKind (c ++ (b ++ a) ++ d) := by
  refine inOrderOfKind_congr fun k => ?_
  rw [List.filter_append, List.filter_append, filter_rank_swap h, ← List.filter_append, ← List.filter_append]

/-- The queue and the notices-lost flag after a delivery depend on those before it alone. -/
theorem Port.receive_congr {p q : Port} (hn : p.notices = q.notices) (hl : p.lost = q.lost) (out : List Notice)
    (link : Link) :
    (p.receive out link).notices = (q.receive out link).notices ∧
      (p.receive out link).lost = (q.receive out link).lost := by
  unfold Port.receive
  generalize (inOrderOfKind out).filter (fun n => n.routed link) = l
  induction l generalizing p q with
  | nil => exact ⟨hn, hl⟩
  | cons n rest ih =>
    refine ih ?_ ?_ <;> simp only [Port.push, hn] <;> split <;> simp [hl]

theorem State.notified.congr {s t : State} {a b : List Notice} (h : s.notified t a)
    (hab : inOrderOfKind a = inOrderOfKind b) : s.notified t b := by
  intro link
  have := h link
  simp only [Port.receive, hab] at this
  exact this

/-! ### The next state of a request that posts -/

/-- Every block but the links of `u` is as in `t`. -/
structure State.sameBlocks (t u : State) : Prop where
  station : u.station = t.station
  settings : u.settings = t.settings
  custody : u.custody = t.custody
  cradle : u.cradle = t.cradle
  gauge : u.gauge = t.gauge
  guards : u.guards = t.guards
  lights : u.lights = t.lights
  meter : u.meter = t.meter
  frames : u.frames = t.frames
  walker : u.walker = t.walker
  pending : u.pending = t.pending

/-- A port at the end of an event: what the event posted is delivered, and FRAMES WAITING where it is owed (R134). -/
theorem State.port_finish (s t : State) (link : Link) :
    (s.finish t).port link = (t.port link).receive (t.outbox ++ s.framesWaiting t) link := by
  unfold State.finish State.framesWaiting
  by_cases hw : s.frames.completed = [] ∧ t.frames.completed ≠ []
  · rw [if_pos hw, if_pos hw, State.port_flush]; rfl
  · rw [if_neg hw, if_neg hw, State.port_flush, List.append_nil]

/-- A request whose block leaves state `t`: the next state has the blocks of `t`, the reply under way and the posted
notices delivered to the queues that the block leaves. -/
theorem request_delivers {c : Instr} {o : Origin} {take : State → Served} {s t : State} {result : Result}
    {body : List Byte} (h : s.accepts c o) (ht : take (s.heard o) = ⟨t, result, body⟩)
    (he : exec c s = request c o take s) :
    ∃ u, exec c s = .next u ∧
      (u.port o.link).request =
        some (.answered { tag := o.tag, code := codeByte c, result := result, body := body }) ∧
      t.sameBlocks u ∧
      ∀ link, (u.port link).notices = ((t.port link).receive (t.outbox ++ s.framesWaiting t) link).notices ∧
        (u.port link).lost = ((t.port link).receive (t.outbox ++ s.framesWaiting t) link).lost := by
  refine ⟨_, request_next h ht he, by simp, by constructor <;> simp, fun link => ?_⟩
  rw [State.port_finish]
  refine Port.receive_congr ?_ ?_ _ _
  all_goals
    simp only [State.reply, State.port_onPort]
    split <;> rfl

/-- The same of a block that leaves the links untouched. -/
theorem request_outcome {c : Instr} {o : Origin} {take : State → Served} {s t : State} {result : Result}
    {body : List Byte} (h : s.accepts c o) (ht : take (s.heard o) = ⟨t, result, body⟩)
    (he : exec c s = request c o take s) (hlinks : t.links = (s.heard o).links) :
    ∃ u, exec c s = .next u ∧
      (u.port o.link).request =
        some (.answered { tag := o.tag, code := codeByte c, result := result, body := body }) ∧
      t.sameBlocks u ∧ s.notified u (t.outbox ++ s.framesWaiting t) := by
  obtain ⟨u, hu, hreq, hsame, hports⟩ := request_delivers h ht he
  refine ⟨u, hu, hreq, hsame, fun link => ?_⟩
  have hp : (t.port link).notices = (s.port link).notices ∧ (t.port link).lost = (s.port link).lost := by
    rw [State.port, hlinks]
    change ((s.heard o).port link).notices = _ ∧ ((s.heard o).port link).lost = _
    rw [State.heard, State.receiving, State.port_onPort]
    split <;> exact ⟨rfl, rfl⟩
  have hq := Port.receive_congr hp.1 hp.2 (t.outbox ++ s.framesWaiting t) link
  exact ⟨(hports link).1.trans hq.1, (hports link).2.trans hq.2⟩

/-! ### PARKING begins -/

/-- TURN HELD of a PARKING stopped at its start, VOLUME DISMOUNTED of one that ends at once (R51, R53). -/
def State.parkingNotices (v : VolumeName) (s : State) : List Notice :=
  if s.guards.clear = false then [.turnHeld .guard .parking 0 s.gauge.values]
  else if Config.flatAngle ≤ s.cradle.sensors.angle + Config.angleTolerance ∧ s.cradle.sensors.atRest = true then
    [.volumeDismounted v.slot v.generation]
  else []

/-- What the arrival test of PARKING leaves, whole. -/
theorem State.parkingTest_eq (s : State) : s.parkingTest =
    { s with
      cradle := s.parkingTest.cradle
      outbox := s.outbox ++
        if s.cradle.drive = .moving ∧ Config.flatAngle ≤ s.cradle.sensors.angle + Config.angleTolerance ∧
            s.cradle.sensors.atRest = true then
          s.cradle.parked.toList.map fun v => .volumeDismounted v.slot v.generation
        else [] } := by
  unfold State.parkingTest
  split
  · dsimp only
    split <;> simp [State.onOutputs, State.onTimers, State.onCradle, State.post, State.onOutbox, *]
  · simp

/-- The start of a PARKING of a volume touches the cradle and the notices alone. -/
theorem State.beginParking_eq (handlingClass : Nat) (v : VolumeName) (s : State) :
    s.beginParking handlingClass (some v) =
      { s with
        cradle := (s.beginParking handlingClass (some v)).cradle
        outbox := s.outbox ++ s.parkingNotices v } := by
  unfold State.parkingNotices
  unfold State.beginParking
  dsimp only
  by_cases hc : s.guards.clear = true
  · simp only [State.onCradle_guards, hc, if_true, Bool.true_eq_false, if_false, State.driveParking]
    rw [State.parkingTest_eq]
    simp only [State.onCradle_cradle, State.onOutputs, true_and]
    rfl
  · simp only [Bool.not_eq_true] at hc
    simp only [State.onCradle_guards, hc, Bool.false_eq_true, if_false, if_true, State.postParking_eq]
    rfl

end Sys2Proof.Machine
end

section
/-! PROOFS. DISMOUNT. -/

namespace Sys2Proof.Machine

/-! ### The light while a request is heard, and after a tear -/

/-- A frame that has just been received changes nothing of the light. -/
theorem State.LightSafe.heard {s : State} (h : s.LightSafe) (o : Origin) : (s.heard o).LightSafe where
  one := h.one
  preview := h.preview
  conditions := h.conditions
  metered := h.metered
  exposing := h.exposing
  framing := h.framing
  idle := h.idle
  waiting := h.waiting
  oneMounted := h.oneMounted
  banks := h.banks
  checked link c hc := by
    refine h.checked link c ?_
    rw [← hc, State.heard, State.receiving, State.port_onPort]
    split <;> rfl

theorem State.putOut_running_safe (s : State) (h : s.LightSafe) : s.putOut.meter.running = none :=
  State.putOut_running s h.dark_running

/-- An end of the sweep that tears, and the end of the preview, leave metering IDLE (R95, R110). -/
theorem State.stopped_running (s : State) (h : s.LightSafe) (reason : SweepEnd) (hr : reason.tears = true)
    (cause : PreviewEnd) : ((s.sweepTrip reason).endPreview cause).meter.running = none := by
  by_cases hi : s.walker.sweep.state = .idle
  · rw [State.sweepTrip, if_pos hi]
    by_cases hp : s.lights.preview = none
    · have hd := State.stopped_dark s h reason hr cause
      rw [State.sweepTrip, if_pos hi, State.endPreview_none _ _ hp] at hd
      rw [State.endPreview_none _ _ hp]
      exact h.dark_running hd
    · rw [State.endPreview, if_neg hp, State.onLights_meter]
      exact State.putOut_running_safe s h
  · have ho : s.lightOwner ≠ some .preview := fun ho => hi (h.framing ho)
    have hp : (s.endSweep reason).lights.preview = none := by
      simpa [State.endSweep, hr] using (State.tearSlot_light s h.one).2.2.2.1.trans (h.no_preview ho)
    rw [State.sweepTrip, if_neg hi, State.endPreview_none _ _ hp]
    have hm : (s.endSweep reason).meter = s.tearSlot.meter := by simp [State.endSweep, hr]
    rw [hm]
    by_cases he : s.lightOwner = some .exposure
    · have hput : s.tearSlot.meter = s.handMeasured.putOut.meter := by
        simp [State.tearSlot, (h.exposing he).2.2.1, he]
      rw [hput]
      exact State.putOut_running _ (by simpa using h.dark_running)
    · rw [((State.tearSlot_light s h.one).2.1 he).2]
      refine h.dark_running (State.dark_of_owner ?_)
      rcases hx : s.lightOwner with _ | _ | _
      · rfl
      · exact absurd hx he
      · exact absurd hx ho

/-- What a tear of the sweep leaves of the preview record (R157). -/
theorem State.sweepTrip_preview (s : State) (h1 : s.lights.oneLit) (reason : SweepEnd) (hr : reason.tears = true) :
    (s.sweepTrip reason).lights.preview = s.lights.preview ∧
      (s.sweepTrip reason).lights.lastEnd = s.lights.lastEnd := by
  unfold State.sweepTrip
  split
  · exact ⟨rfl, rfl⟩
  · simpa [State.endSweep, hr] using (State.tearSlot_light s h1).2.2.2

/-- What the torn sweep says is said of the frames and the walker alone. -/
theorem State.sweepTorn.congr {s t u : State} {reason : SweepEnd} (h : s.sweepTorn t reason) (hf : u.frames = t.frames)
    (hw : u.walker = t.walker) : s.sweepTorn u reason := by
  simpa only [State.sweepTorn, State.frame, hf, hw] using h

/-- The notices of a sweep that a trip with a reason that tears has ended: those `State.captureNotices` owes, but
for FRAMES WAITING (R158). -/
theorem State.captureNotices_sweepTrip (s : State) (reason : SweepEnd) (hr : reason.tears = true) (t : State)
    (hw : t.walker = (s.sweepTrip reason).walker) :
    ∃ ended : List Notice, (s.sweepTrip reason).outbox = s.outbox ++ ended ∧
      s.captureNotices t = s.framesWaiting t ++ ended ∧ ∀ n ∈ ended, n.rank = 11 := by
  by_cases hi : s.walker.sweep.state = .idle
  · exact ⟨[], by simp [State.sweepTrip, hi], by simp [State.captureNotices, hi], by simp⟩
  · have hends := State.sweepTrip_ends s reason
    have htrip : s.sweepTrip reason = s.endSweep reason := by rw [State.sweepTrip, if_neg hi]
    refine ⟨[(s.endSweep reason).walker.sweep.endNotice reason], ?_, ?_, ?_⟩
    · rw [htrip, (State.endSweep_tears reason hr s).2]
    · rw [if_neg hi, htrip] at hends
      rw [State.captureNotices, hw, htrip, hends.1, hends.2]
      cases hx : s.walker.sweep.state
      case idle => exact absurd hx hi
      all_goals rfl
    · simp [Sweep.endNotice, Notice.rank]

theorem State.framesWaiting_rank (s t : State) : ∀ n ∈ s.framesWaiting t, n.rank = 10 := by
  unfold State.framesWaiting
  split <;> simp [Notice.rank]

/-- The arrival levels of PARKING, as the statements write them (R51). -/
theorem Sensors.parked_iff (m : Sensors) :
    (Config.flatAngle ≤ m.angle + Config.angleTolerance ∧ m.atRest = true) ↔
      (178 ≤ m.angle ∧ m.armRest = true ∧ m.wandDown = false) := by
  simp only [Sensors.atRest, Bool.and_eq_true, Bool.not_eq_true', Config.flatAngle, Config.angleTolerance]
  exact and_congr_left' (by omega)

theorem State.beginParking_gauge (handlingClass : Nat) (v : VolumeName) (s : State) :
    (s.beginParking handlingClass (some v)).gauge = s.gauge := by
  rw [State.beginParking_eq]

theorem State.beginParking_outbox (handlingClass : Nat) (v : VolumeName) (s : State) :
    (s.beginParking handlingClass (some v)).outbox = s.outbox ++ s.parkingNotices v := by
  rw [State.beginParking_eq]

theorem State.parkingNotices_rank (v : VolumeName) (s : State) : ∀ n ∈ s.parkingNotices v, n.rank < 11 := by
  unfold State.parkingNotices
  repeat' split
  all_goals simp [Notice.rank]

/-- What PARKING posts at its start, as the statements write it (R51, R53). -/
theorem State.parkingNotices_eq (v : VolumeName) (s : State) :
    s.parkingNotices v =
      if ¬ (s.guards.curtainBroken = false ∧ s.guards.curtainLatch = false) then
        [.turnHeld .guard .parking 0 s.gauge.values]
      else if 178 ≤ s.cradle.sensors.angle ∧ s.cradle.sensors.armRest = true ∧ s.cradle.sensors.wandDown = false then
        [.volumeDismounted v.slot v.generation]
      else [] := by
  have hclear : s.guards.clear = false ↔ ¬ (s.guards.curtainBroken = false ∧ s.guards.curtainLatch = false) := by
    rw [← Guards.clear_iff, Bool.not_eq_true]
  exact if_congr hclear rfl (if_congr (Sensors.parked_iff _) rfl rfl)

/-! ### DISMOUNT -/

/-- Where DISMOUNT may take the cradle from (R16, check 4). -/
theorem Cradle.dismountable_iff (k : Cradle) : ¬ (k.state = .openReady ∨ ((k.state = .fault ∨ k.state = .holding) ∧
    k.leafOnWand = false)) ↔ (k.state ≠ .openReady ∧ k.atRestInHold = false) := by
  simp only [Cradle.atRestInHold, Bool.and_eq_false_iff, Bool.or_eq_false_iff, beq_eq_false_iff_ne, ne_eq,
    Bool.not_eq_false', not_or, not_and, Bool.not_eq_false]
  tauto

/-- The state DISMOUNT begins to park: light and sweep ended, the work at the cradle discarded, the entry STAGED. -/
def State.dismounting (slot : Nat) (s : State) : State :=
  ((((s.sweepTrip .dismounted).endPreview .dismount).onCradle fun c =>
    { c.discardWork with approval := none }).onEntry slot fun e => { e with state := .staged }).onCradle fun c =>
    { c with mounted := none }

theorem State.dismount_eq (slot : Nat) (s : State) :
    s.dismount slot =
      (s.dismounting slot).beginParking (s.entry slot).handlingClass (some ⟨slot, (s.entry slot).generation⟩) := by
  have he : ∀ t : State, t.custody = s.custody → t.entry slot = s.entry slot := fun t h => by
    simp only [State.entry, h]
  have := he (((s.sweepTrip .dismounted).endPreview .dismount).onCradle fun c =>
    { c.discardWork with approval := none }) (by simp)
  simp only [State.dismount, State.parkMounted, this]
  rfl

theorem State.dismounting_parkingNotices (slot : Nat) (v : VolumeName) (s : State) :
    (s.dismounting slot).parkingNotices v = s.parkingNotices v := by
  simp [State.parkingNotices, State.dismounting, Cradle.discardWork]

/-- The blocks that a DISMOUNT does not touch. -/
theorem State.dismount_keeps (slot : Nat) (s : State) :
    (s.dismount slot).station = s.station ∧ (s.dismount slot).settings = s.settings ∧
      (s.dismount slot).gauge = s.gauge ∧ (s.dismount slot).guards = s.guards ∧
      (s.dismount slot).pending = s.pending ∧ (s.dismount slot).links = s.links := by
  refine ⟨?_, ?_, ?_, ?_, ?_, ?_⟩
  case refine_3 => rw [State.dismount_eq, State.beginParking_gauge]; simp [State.dismounting]
  all_goals simp [State.dismount, State.parkMounted]

theorem State.dismount_custody (slot : Nat) (s : State) :
    (s.dismount slot).custody = (s.onEntry slot fun e => { e with state := .staged }).custody := by
  simp [State.dismount, State.parkMounted, State.onEntry]

/-- The light, the meter, the frames and the walker after a DISMOUNT are those of the sweep and the preview ended. -/
theorem State.dismount_stopped (slot : Nat) (s : State) :
    (s.dismount slot).lights = ((s.sweepTrip .dismounted).endPreview .dismount).lights ∧
      (s.dismount slot).meter = ((s.sweepTrip .dismounted).endPreview .dismount).meter ∧
      (s.dismount slot).frames = (s.sweepTrip .dismounted).frames ∧
      (s.dismount slot).walker = (s.sweepTrip .dismounted).walker := by
  simp [State.dismount, State.parkMounted]

/-- The cradle a DISMOUNT leaves: PARKING stopped at its start, ended at once, or driven (R51, R53). -/
theorem State.dismount_cradle (slot : Nat) (s : State) :
    (s.dismount slot).cradle =
      ((s.onCradle fun c => { c.discardWork with approval := none, mounted := none }).beginParking
        (s.entry slot).handlingClass (some ⟨slot, (s.entry slot).generation⟩)).cradle := by
  have hs : (s.dismounting slot).settings = s.settings := by simp [State.dismounting]
  have hg : (s.dismounting slot).guards = s.guards := by simp [State.dismounting]
  have hc : (s.dismounting slot).cradle = { s.cradle.discardWork with approval := none, mounted := none } := by
    simp [State.dismounting]
  rw [State.dismount_eq, State.beginParking_cradle, State.beginParking_cradle, hg, hc]
  simp only [State.angleTime, State.profile, State.setting, State.word, hs]
  rfl

/-- The light and the sweep that a DISMOUNT leaves: dark, no preview, an active sweep torn (R17, R157). -/
theorem State.dismount_ends {s u : State} {slot : Nat} (h : s.LightSafe) (hu : (s.dismount slot).sameBlocks u) :
    u.lights.dark ∧ u.meter.running = none ∧ u.lights.preview = none ∧
      u.lights.lastEnd = (if s.lights.preview = none then s.lights.lastEnd else some .dismount) ∧
      (s.walker.sweep.state ≠ .idle → s.sweepTorn u .dismounted) ∧
      (s.walker.sweep.state = .idle → u.frames = s.frames ∧ u.walker = s.walker) := by
  obtain ⟨hlights, hmeter, hframes, hwalker⟩ := State.dismount_stopped slot s
  replace hlights := hu.lights.trans hlights
  replace hmeter := hu.meter.trans hmeter
  replace hframes := hu.frames.trans hframes
  replace hwalker := hu.walker.trans hwalker
  obtain ⟨hpreview, hlast⟩ := State.sweepTrip_preview s h.one .dismounted rfl
  refine ⟨?_, ?_, ?_, ?_, fun hi => ?_, fun hi => ?_⟩
  · rw [hlights]; exact State.stopped_dark s h _ rfl _
  · rw [hmeter]; exact State.stopped_running s h _ rfl _
  · rw [hlights]; exact (State.endPreview_preview _ _).1
  · rw [hlights, (State.endPreview_preview _ _).2, hpreview, hlast]
  · rw [State.sweepTrip, if_neg hi] at hframes hwalker
    exact (State.endSweep_tears .dismounted rfl s).1.congr hframes hwalker
  · rw [State.sweepTrip, if_pos hi] at hframes hwalker
    exact ⟨hframes, hwalker⟩

/-- The notices of a DISMOUNT, the end of the sweep posted before those of PARKING. -/
theorem State.dismount_notices {s u : State} {slot : Nat} (ho : s.outbox = []) (hu : (s.dismount slot).sameBlocks u) :
    inOrderOfKind ((s.dismount slot).outbox ++ s.framesWaiting (s.dismount slot)) =
      inOrderOfKind (s.parkingNotices ⟨slot, (s.entry slot).generation⟩ ++ s.captureNotices u) := by
  obtain ⟨-, -, -, hwalker⟩ := State.dismount_stopped slot s
  obtain ⟨ended, hended, hcapture, hrank⟩ :=
    State.captureNotices_sweepTrip s .dismounted rfl u (hu.walker.trans hwalker)
  have hout : (s.dismount slot).outbox = ended ++ s.parkingNotices ⟨slot, (s.entry slot).generation⟩ := by
    rw [State.dismount_eq, State.beginParking_outbox, State.dismounting_parkingNotices]
    simp [State.dismounting, hended, ho]
  have hwait : s.framesWaiting (s.dismount slot) = s.framesWaiting u := by rw [State.framesWaiting, ← hu.frames]; rfl
  have hfirst : ∀ n ∈ ended, ∀ m ∈ s.parkingNotices ⟨slot, (s.entry slot).generation⟩ ++ s.framesWaiting u,
      n.rank ≠ m.rank := by
    intro n hn m hm
    rw [hrank n hn]
    rcases List.mem_append.1 hm with hm | hm
    · exact (State.parkingNotices_rank _ _ _ hm).ne'
    · rw [State.framesWaiting_rank _ _ _ hm]; decide
  have := inOrderOfKind_swap hfirst [] []
  simpa [hout, hwait, hcapture] using this

/-- The cradle with PARKING begun on it, as the statements write it (R51, R53). -/
theorem State.beginParking_parks {handlingClass : Nat} {v : VolumeName} {s : State} {t : Cradle}
    (ht : t = (s.beginParking handlingClass (some v)).cradle) :
    t.mounted = s.cradle.mounted ∧ t.approval = s.cradle.approval ∧ t.turn = s.cradle.turn ∧ t.hold = s.cradle.hold ∧
      t.fault = s.cradle.fault ∧ t.opening = s.cradle.opening ∧ t.sensors = s.cradle.sensors ∧
      t.moveClass = handlingClass ∧
      if ¬ (s.guards.curtainBroken = false ∧ s.guards.curtainLatch = false) then
        t.state = .parking ∧ t.parked = some v ∧ t.drive = .stopped .guard ∧ t.timers = .stopped ∧
          t.outputs = { s.cradle.outputs.stopped with vacuumOpen := false, airKnife := none }
      else if 178 ≤ s.cradle.sensors.angle ∧ s.cradle.sensors.armRest = true ∧ s.cradle.sensors.wandDown = false then
        t.state = .parked ∧ t.parked = none ∧ t.timers.angle = none ∧
          t.outputs = { s.cradle.outputs.stopped with vacuumOpen := false, airKnife := none }
      else
        t.state = .parking ∧ t.parked = some v ∧ t.drive = .moving ∧
          t.timers.angle = some (s.angleTime handlingClass) ∧
          t.outputs =
            { angleDrive := .toward 180, armDrive := .toRest none, wandDrive := .up, vacuumOpen := false,
              airKnife := none } := by
  rw [State.beginParking_cradle] at ht
  split
  · next hc =>
    rw [if_pos (by simpa using (not_congr (Guards.clear_iff s.guards)).2 hc)] at ht
    subst ht
    exact ⟨rfl, rfl, rfl, rfl, rfl, rfl, rfl, rfl, rfl, rfl, rfl, rfl, rfl⟩
  next hc =>
  rw [if_neg (by simp [(Guards.clear_iff s.guards).2 (not_not.1 hc)])] at ht
  split
  · next ha =>
    rw [if_pos ((Sensors.parked_iff _).2 ha)] at ht
    subst ht
    exact ⟨rfl, rfl, rfl, rfl, rfl, rfl, rfl, rfl, rfl, rfl, rfl, rfl⟩
  · next ha =>
    rw [if_neg ((not_congr (Sensors.parked_iff _)).2 ha)] at ht
    subst ht
    exact ⟨rfl, rfl, rfl, rfl, rfl, rfl, rfl, rfl, rfl, rfl, rfl, rfl, rfl⟩

/-- Settles O25: the checks in turn, then the sweep and the light ended, the entry STAGED and PARKING begun. -/
theorem dismountParksTheVolume : Obligations.DismountParksTheVolume := by
  unfold Obligations.DismountParksTheVolume
  intro o slot generation s c e k clear arrived h
  refine check_answers h rfl rfl fun _ ht => check_answers h rfl ht fun hg ht => check_answers h rfl ht fun hm ht => ?_
  rw [if_congr (Cradle.dismountable_iff k) rfl rfl]
  refine check_answers h rfl ht fun _ ht hsafe => ?_
  have hg : (s.entry slot).generation = generation := not_not.1 hg
  obtain ⟨hstation, hsettings, hgauge, hguards, hpending, hlinks⟩ := State.dismount_keeps slot (s.heard o)
  obtain ⟨u, hu, hreq, hsame, hnotes⟩ := request_outcome h ht rfl hlinks
  obtain ⟨hdark, hrunning, hpreview, hlast, htorn, hidle⟩ := State.dismount_ends (hsafe.heard o) hsame
  have hcustody := hsame.custody.trans (State.dismount_custody slot (s.heard o))
  have hcradle := hsame.cradle.trans (State.dismount_cradle slot (s.heard o))
  obtain ⟨hmounted, happroval, hturn, hhold, hfault, hopening, -, hclass, hmove⟩ :=
    State.beginParking_parks hcradle
  replace hnotes := hnotes.congr (State.dismount_notices h.1 hsame)
  rw [State.parkingNotices_eq, State.heard_entry, hg] at hnotes
  rw [State.heard_entry, hg] at hmove
  refine ⟨u, hu, hreq, fun i hi => ?_, by rw [hcustody]; rfl, hdark, hrunning, hpreview, hlast, htorn, hidle,
    hmounted, happroval, hturn, hhold, hfault, hopening, hclass, hsame.station.trans hstation,
    hsame.settings.trans hsettings, hsame.gauge.trans hgauge, hsame.guards.trans hguards,
    hsame.pending.trans hpending, hnotes, ?_⟩
  · have he : u.entry i = (s.onEntry slot fun e => { e with state := .staged }).entry i := by
      rw [State.entry, hcustody]; rfl
    rw [he, State.entry_onEntry _ _ _ _ hi]
    exact if_ctx_congr eq_comm (fun hi => by rw [hi]) fun _ => rfl
  · split
    · next hc =>
      obtain ⟨hstate, hparked, hdrive, htimers, -⟩ := (if_pos hc).mp hmove
      exact ⟨hstate, hdrive, by rw [htimers]; rfl, hparked⟩
    next hc =>
    replace hmove := (if_neg hc).mp hmove
    split
    · next ha =>
      obtain ⟨hstate, hparked, hangle, -⟩ := (if_pos ha).mp hmove
      exact ⟨hstate, hangle, hparked⟩
    · next ha =>
      obtain ⟨hstate, hparked, hdrive, hangle, houtputs⟩ := (if_neg ha).mp hmove
      exact ⟨hstate, hdrive, hparked, hangle, houtputs⟩

end Sys2Proof.Machine
end

section
/-! PROOFS. RESTART. -/

namespace Sys2Proof.Machine

/-! ### The blocks of a RESTART -/

/-- When RESTART is refused (R180). -/
theorem Cradle.refusesRestart_iff (k : Cradle) : k.refusesRestart = true ↔
    (k.state = .turning ∨ k.state = .settling ∨ k.state = .recovering ∨
      ((k.state = .holding ∨ k.state = .fault) ∧ k.leafOnWand = true)) := by
  simp only [Cradle.refusesRestart, Bool.or_eq_true, Bool.and_eq_true, beq_iff_eq, or_assoc]

theorem LeafStore.get_map (f : LeafRecord → LeafRecord) (st : LeafStore) (i : Nat) :
    LeafStore.get (st.map fun p => (p.1, f p.2)) i = (LeafStore.get st i).map f := by
  induction st with
  | nil => rfl
  | cons p rest ih =>
    simp only [List.map_cons, LeafStore.get]
    split
    · rfl
    · exact ih

/-- A queue that was emptied takes as many notices as it is deep (R182, R192). -/
theorem Port.receive_emptied {p : Port} (hn : p.notices = []) (hl : p.lost = false) (out : List Notice) (link : Link)
    (hlen : ((inOrderOfKind out).filter fun n => n.routed link).length ≤ Config.noticeDepth) :
    (p.receive out link).notices = (inOrderOfKind out).filter (fun n => n.routed link) ∧
      (p.receive out link).lost = false := by
  have fits : ∀ (l : List Notice) (q : Port), q.notices.length + l.length ≤ Config.noticeDepth →
      (l.foldl (fun q n => q.push n) q).notices = q.notices ++ l ∧
        (l.foldl (fun q n => q.push n) q).lost = q.lost := by
    intro l
    induction l with
    | nil => exact fun q _ => ⟨by simp, rfl⟩
    | cons n rest ih =>
      intro q hq
      have hroom : q.notices.length < Config.noticeDepth := by simp only [List.length_cons] at hq; omega
      have hpush : q.push n = { q with notices := q.notices ++ [n] } := if_pos hroom
      have := ih (q.push n) (by simp only [hpush, List.length_append, List.length_cons, List.length_nil] at hq ⊢; omega)
      simpa [hpush] using this
  have := fits ((inOrderOfKind out).filter fun n => n.routed link) p (by simpa [hn] using hlen)
  rwa [hn, hl, List.nil_append] at this

/-- The blocks of a RESTART that the parking of the volume leaves as they are (R181). -/
theorem State.restartBlocks_keeps (s : State) :
    s.restartBlocks.station = s.station ∧ s.restartBlocks.settings = s.settings ∧ s.restartBlocks.gauge = s.gauge ∧
      s.restartBlocks.guards = s.guards ∧ s.restartBlocks.pending = s.pending ∧
      s.restartBlocks.outbox = s.outbox := by
  simp [State.restartBlocks]

theorem State.restartBlocks_stopped (s : State) :
    s.restartBlocks.lights = (s.endPreview .restart).putOut.lights ∧
      s.restartBlocks.meter = { running := none, irradiance := 0, exposure := none, preview := s.meter.preview } ∧
      s.restartBlocks.frames = s.frames.restart ∧ s.restartBlocks.walker = s.walker.restart ∧
      s.restartBlocks.links = s.links.emptied ∧
      s.restartBlocks.cradle = { s.cradle.discardWork with approval := none } := by
  have hp : (s.endPreview .restart).meter.preview = s.meter.preview := by
    unfold State.endPreview
    split <;> simp
  simp [State.restartBlocks, Meter.restart, hp]

theorem State.restartBlocks_mountedSlot (s : State) : s.restartBlocks.mountedSlot = s.mountedSlot :=
  State.mountedSlot_congr fun i hi => by rw [State.entry_restartBlocks _ _ hi]

/-- The light after the preview ended and the lit bank was put out (R104). -/
theorem State.LightSafe.restart_dark {s : State} (h : s.LightSafe) : (s.endPreview .restart).putOut.lights.dark := by
  refine State.putOut_dark _ ?_
  by_cases hp : s.lights.preview = none
  · rw [State.endPreview_none _ _ hp]; exact h.one
  · exact Lights.dark_one (State.endPreview_dark _ s hp h.one)

/-! ### The mounted volume parked at a RESTART -/

section mounted
variable {s : State} {slot : Nat}

theorem State.restartMounted_none (h : s.mountedSlot = none) : s.restartMounted = s := by
  rw [State.restartMounted, h]

theorem State.restartMounted_some (h : s.mountedSlot = some slot) :
    s.restartMounted =
      (((s.onEntry slot fun e => { e with hold := some .restart }).onEntry slot fun e =>
        { e with state := .staged }).onCradle fun c => { c with mounted := none }).beginParking
        (s.entry slot).handlingClass (some ⟨slot, (s.entry slot).generation⟩) := by
  obtain ⟨hs, -⟩ := State.mountedSlot_some.1 h
  have he : (s.onEntry slot fun e => { e with hold := some .restart }).entry slot =
      { s.entry slot with hold := some .restart } := by rw [State.entry_onEntry _ _ _ _ hs, if_pos rfl]
  rw [State.restartMounted, h]
  simp only [State.parkMounted, he]
  rfl

end mounted

/-- The blocks that the parking of the mounted volume leaves as they are. -/
theorem State.restartMounted_keeps (s : State) :
    s.restartMounted.settings = s.settings ∧ s.restartMounted.gauge = s.gauge ∧
      s.restartMounted.guards = s.guards ∧ s.restartMounted.pending = s.pending ∧
      s.restartMounted.lights = s.lights ∧ s.restartMounted.meter = s.meter ∧
      s.restartMounted.frames = s.frames ∧ s.restartMounted.walker = s.walker ∧
      s.restartMounted.links = s.links ∧ s.restartMounted.station = s.station ∧
      s.restartMounted.custody.leaves = s.custody.leaves ∧
      s.restartMounted.custody.nextSequence = s.custody.nextSequence := by
  cases h : s.mountedSlot with
  | none => simp [State.restartMounted_none h]
  | some slot =>
    rw [State.restartMounted_some h]
    refine ⟨?_, State.beginParking_gauge .., ?_⟩ <;> simp

/-- The entry of the mounted volume is STAGED and held with cause RESTART (R26, R75). -/
theorem State.entry_restartMounted (s : State) (i : Nat) (hi : i < 8) :
    s.restartMounted.entry i =
      if s.mountedSlot = some i then { s.entry i with state := .staged, hold := some .restart }
      else s.entry i := by
  cases h : s.mountedSlot with
  | none => rw [State.restartMounted_none h, if_neg nofun]
  | some slot =>
    rw [State.restartMounted_some h, State.entry, State.beginParking_custody, ← State.entry, State.onCradle_entry,
      State.entry_onEntry _ _ _ _ hi, State.entry_onEntry _ _ _ _ hi]
    by_cases hs : slot = i
    · simp [hs]
    · simp [hs]

/-- What the parking of the mounted volume posts at its start. -/
def State.restartParking (s : State) : List Notice := (s.mountedVolume.map fun v => s.parkingNotices v).getD []

theorem State.restartMounted_outbox (s : State) : s.restartMounted.outbox = s.outbox ++ s.restartParking := by
  unfold State.restartParking State.mountedVolume
  cases h : s.mountedSlot with
  | none => simp [State.restartMounted_none h]
  | some slot =>
    rw [State.restartMounted_some h, State.beginParking_outbox]
    rfl

/-! ### The mode and the notices of a RESTART -/

/-- RESTARTED, and MODE CHANGED where the mode changed (R181, R182). -/
def restartNotices (old : Mode) (volume : Option VolumeName) (returned : Nat) : List Notice :=
  [.restarted old volume returned] ++ if old = .maintenance then [] else [.modeChanged old .maintenance .restart]

theorem State.restartStation_eq (returned : Nat) (volume : Option VolumeName) (s : State) :
    s.restartStation returned volume =
      { s with
        station := { mode := .maintenance, lastReset := .restart }
        outbox := s.outbox ++ restartNotices s.station.mode volume returned } := by
  unfold State.restartStation restartNotices
  by_cases h : s.station.mode = .maintenance
  · simp [h, State.post, State.onOutbox, State.onStation]
  · simp [h, State.setMode, State.post, State.onOutbox, State.onStation]

/-- The order of the notices of a RESTART on a link: the PARKING between RESTARTED and MODE CHANGED (R190, R191). -/
theorem restart_queue (s : State) (v : Option VolumeName) (old : Mode) (volume : Option VolumeName) (returned : Nat)
    (link : Link) :
    (inOrderOfKind ((v.map fun v => s.parkingNotices v).getD [] ++ restartNotices old volume returned)).filter
        (fun n => n.routed link) =
      [.restarted old volume returned] ++
        (if link = .accounting then [] else (v.map fun v => s.parkingNotices v).getD []) ++
        if old = .maintenance then [] else [.modeChanged old .maintenance .restart] := by
  unfold restartNotices
  cases v with
  | none => cases old <;> cases link <;> rfl
  | some v =>
    simp only [Option.map_some, Option.getD_some, State.parkingNotices]
    split
    · cases old <;> cases link <;> rfl
    split
    · cases old <;> cases link <;> rfl
    · cases old <;> cases link <;> rfl

/-- At most three notices of a RESTART are routed to a link. -/
theorem restart_queue_fits (s : State) (v volume : Option VolumeName) (old : Mode) (returned : Nat) (link : Link) :
    ((inOrderOfKind ((v.map fun v => s.parkingNotices v).getD [] ++ restartNotices old volume returned)).filter
      fun n => n.routed link).length ≤ Config.noticeDepth := by
  have hp : ((v.map fun v => s.parkingNotices v).getD []).length ≤ 1 := by
    cases v with
    | none => simp
    | some v =>
      simp only [Option.map_some, Option.getD_some, State.parkingNotices]
      repeat' split
      all_goals simp
  have hi : (if link = .accounting then [] else (v.map fun v => s.parkingNotices v).getD []).length ≤ 1 := by
    split
    · simp
    · exact hp
  rw [restart_queue, List.length_append, List.length_append]
  have hm : (if old = .maintenance then [] else [Notice.modeChanged old .maintenance .restart]).length ≤ 1 := by
    split <;> simp
  simp only [List.length_singleton, Config.noticeDepth]
  omega

/-- Every block but the links that a RESTART leaves, the cradle aside. -/
theorem State.restart_blocks (s : State) :
    s.restart.settings = s.settings ∧ s.restart.gauge = s.gauge ∧ s.restart.guards = s.guards ∧
      s.restart.pending = s.pending ∧ s.restart.lights = (s.endPreview .restart).putOut.lights ∧
      s.restart.meter = { running := none, irradiance := 0, exposure := none, preview := s.meter.preview } ∧
      s.restart.frames = s.frames.restart ∧ s.restart.walker = s.walker.restart ∧
      s.restart.links = s.links.emptied := by
  obtain ⟨-, hsettings, hgauge, hguards, hpending, -⟩ := s.restartBlocks_keeps
  obtain ⟨hlights, hmeter, hframes, hwalker, hlinks, -⟩ := s.restartBlocks_stopped
  have hkeep := s.restartBlocks.restartMounted_keeps
  rw [hsettings, hgauge, hguards, hpending, hlights, hmeter, hframes, hwalker, hlinks] at hkeep
  obtain ⟨hsettings, hgauge, hguards, hpending, hlights, hmeter, hframes, hwalker, hlinks, -⟩ := hkeep
  rw [State.restart, State.restartStation_eq]
  exact ⟨hsettings, hgauge, hguards, hpending, hlights, hmeter, hframes, hwalker, hlinks⟩

theorem State.restart_station (s : State) : s.restart.station = { mode := .maintenance, lastReset := .restart } := by
  rw [State.restart, State.restartStation_eq]

theorem State.restartBlocks_parkingNotices (s : State) (v : VolumeName) :
    s.restartBlocks.parkingNotices v = s.parkingNotices v := by
  obtain ⟨-, -, hgauge, hguards, -⟩ := s.restartBlocks_keeps
  obtain ⟨-, -, -, -, -, hcradle⟩ := s.restartBlocks_stopped
  simp only [State.parkingNotices, hgauge, hguards, hcradle]
  rfl

theorem State.restartBlocks_mountedVolume (s : State) : s.restartBlocks.mountedVolume = s.mountedVolume := by
  unfold State.mountedVolume
  rw [State.restartBlocks_mountedSlot]
  cases h : s.mountedSlot with
  | none => rfl
  | some slot => simp [State.entry_restartBlocks _ _ (State.mountedSlot_some.1 h).1]

theorem State.restart_outbox (s : State) :
    s.restart.outbox =
      s.outbox ++ ((s.mountedVolume.map fun v => s.parkingNotices v).getD [] ++
        restartNotices s.station.mode s.mountedVolume s.frames.outside.length) := by
  obtain ⟨hstation, -, -, -, -, houtbox⟩ := s.restartBlocks_keeps
  obtain ⟨-, -, -, -, -, -, -, -, -, hmounted, -⟩ := s.restartBlocks.restartMounted_keeps
  rw [State.restart, State.restartStation_eq]
  simp only [State.restartMounted_outbox, houtbox, hmounted, hstation, State.restartParking,
    State.restartBlocks_mountedVolume, State.restartBlocks_parkingNotices, List.append_assoc]

/-- The entries after a RESTART: frames open 0, and the MOUNTED one STAGED and held (R26, R75). -/
theorem State.entry_restart {s : State} (h : s.oneMounted) (i : Nat) (hi : i < 8) :
    s.restart.entry i =
      if (s.entry i).state = .mounted then { s.entry i with state := .staged, hold := some .restart, framesOpen := 0 }
      else { s.entry i with framesOpen := 0 } := by
  have hcustody : s.restart.custody = s.restartBlocks.restartMounted.custody := by
    rw [State.restart, State.restartStation_custody]
  have hmounted : (s.restartBlocks.mountedSlot = some i) ↔ (s.entry i).state = .mounted := by
    rw [State.restartBlocks_mountedSlot]
    exact ⟨fun hm => (State.mountedSlot_some.1 hm).2.1, State.mountedSlot_of_one h hi⟩
  rw [State.entry, hcustody, ← State.entry, State.entry_restartMounted _ _ hi, State.entry_restartBlocks _ _ hi]
  exact if_congr hmounted rfl rfl

theorem State.restart_custody (s : State) :
    s.restart.custody.nextSequence = s.custody.nextSequence ∧
      s.restart.custody.leaves = s.custody.noFrames.leaves := by
  obtain ⟨-, -, -, -, -, -, -, -, -, -, hleaves, hnext⟩ := s.restartBlocks.restartMounted_keeps
  rw [State.restart, State.restartStation_custody, hleaves, hnext, State.restartBlocks_custody]
  exact ⟨rfl, rfl⟩

/-- The cradle after a RESTART: the work at it discarded, and PARKING of the mounted volume begun (R51, R181). -/
theorem State.restart_cradle (s : State) :
    s.restart.cradle =
      match s.mountedSlot with
      | none => { s.cradle.discardWork with approval := none }
      | some slot =>
        ((s.onCradle fun c => { c.discardWork with approval := none, mounted := none }).beginParking
          (s.entry slot).handlingClass (some ⟨slot, (s.entry slot).generation⟩)).cradle := by
  obtain ⟨-, hsettings, -, hguards, -⟩ := s.restartBlocks_keeps
  obtain ⟨-, -, -, -, -, hcradle⟩ := s.restartBlocks_stopped
  have hr : s.restart.cradle = s.restartBlocks.restartMounted.cradle := by rw [State.restart, State.restartStation_eq]
  rw [hr]
  cases h : s.mountedSlot with
  | none => rw [State.restartMounted_none (s.restartBlocks_mountedSlot.trans h), hcradle]
  | some slot =>
    rw [State.restartMounted_some (s.restartBlocks_mountedSlot.trans h),
      State.entry_restartBlocks _ _ (State.mountedSlot_some.1 h).1]
    simp only [State.beginParking_cradle, State.angleTime, State.profile, State.setting, State.word,
      State.onCradle_guards, State.onEntry_guards, State.onCradle_cradle, State.onEntry_cradle, State.onCradle_settings,
      State.onEntry_settings, hguards, hcradle, hsettings]
    rfl

/-- Settles O59: the refusal, then the blocks of the RESTART one by one, the PARKING of a volume and the queues. -/
theorem restartLeavesEachBlockAsGiven : Obligations.RestartLeavesEachBlockAsGiven := by
  unfold Obligations.RestartLeavesEachBlockAsGiven
  intro o s c k busy outside volume clear arrived still parking h hone
  have hbusy : k.refusesRestart = true ↔ busy := Cradle.refusesRestart_iff k
  refine ⟨fun hb => onlyAnswers_of_take h rfl (if_pos (hbusy.2 hb)), fun hb => ?_⟩
  have ht := (if_neg (mt hbusy.1 hb) : takeRestart (s.heard o) = _)
  obtain ⟨u, hu, hreq, hsame, hports⟩ := request_delivers h ht rfl
  obtain ⟨hsettings, hgauge, hguards, hpending, hlights, hmeter, hframes, hwalker, hlinks⟩ := (s.heard o).restart_blocks
  obtain ⟨hnext, hleaves⟩ := (s.heard o).restart_custody
  have hentry (i : Nat) : u.entry i = (s.heard o).restart.entry i := by rw [State.entry, hsame.custody]; rfl
  have hwaiting : s.framesWaiting (s.heard o).restart = [] := by
    rw [State.framesWaiting, hframes]; exact if_neg fun hw => hw.2 rfl
  have hp : (s.mountedVolume.map fun v => s.parkingNotices v).getD [] = parking := by
    change _ = match s.mountedVolume with
      | none => []
      | some v => _
    cases s.mountedVolume with
    | none => rfl
    | some v => exact State.parkingNotices_eq v s
  have hposted : (s.heard o).restart.outbox ++ s.framesWaiting (s.heard o).restart =
      parking ++ restartNotices s.station.mode volume outside.length := by
    rw [hwaiting, List.append_nil, State.restart_outbox, show (s.heard o).outbox = [] from h.1, List.nil_append, ← hp]
    rfl
  have hcradle := hsame.cradle.trans (s.heard o).restart_cradle
  replace hlights := hsame.lights.trans hlights
  refine ⟨u, hu, ?_, hsame.station.trans (State.restart_station _), hsame.settings.trans hsettings,
    hsame.gauge.trans hgauge, hsame.guards.trans hguards, hsame.pending.trans hpending, fun i hi => ?_,
    ?_, fun i => ?_, fun hsafe => ?_, ?_, ?_, hsame.meter.trans hmeter, by rw [hsame.frames, hframes]; rfl,
    by rw [hsame.walker, hwalker]; rfl, ?_⟩
  · exact hreq
  · rw [hentry]; exact State.entry_restart (s := s.heard o) hone i hi
  · rw [hsame.custody]; exact hnext
  · rw [hsame.custody, hleaves]; exact LeafStore.get_map _ _ _
  · rw [hlights]; exact (hsafe.heard o).restart_dark
  · rw [hlights, (State.putOut_preview _).1]; exact (State.endPreview_preview _ _).1
  · rw [hlights, (State.putOut_preview _).2.1]; exact (State.endPreview_preview _ _).2
  have hqueue (link : Link) : (u.port link).lost = false ∧ (u.port link).notices =
      [.restarted s.station.mode volume outside.length] ++ (if link = .accounting then [] else parking) ++
        if s.station.mode = .maintenance then [] else [.modeChanged s.station.mode .maintenance .restart] := by
    have hempty : ((s.heard o).restart.port link).notices = [] ∧ ((s.heard o).restart.port link).lost = false := by
      rw [State.port, hlinks]
      cases link <;> exact ⟨rfl, rfl⟩
    obtain ⟨hn, hl⟩ := hports link
    rw [hposted, ← hp] at hn hl
    have hq := Port.receive_emptied hempty.1 hempty.2 _ link
      (restart_queue_fits s s.mountedVolume volume s.station.mode outside.length link)
    rw [← hp]
    exact ⟨hl.trans hq.2, (hn.trans hq.1).trans (restart_queue ..)⟩
  cases hm : s.mountedSlot with
  | none =>
    have hv : volume = none := by simp [volume, hm]
    rw [show (s.heard o).mountedSlot = none from hm] at hcradle
    rw [hv] at hqueue ⊢
    rw [hcradle]
    exact ⟨rfl, rfl, rfl, rfl, rfl, rfl, rfl, hqueue⟩
  | some slot =>
    have hv : volume = some ⟨slot, (s.entry slot).generation⟩ := by simp [volume, hm]
    rw [show (s.heard o).mountedSlot = some slot from hm] at hcradle
    obtain ⟨hmounted, happroval, hturn, hhold, hfault, hopening, hsensors, hclass, hmove⟩ :=
      State.beginParking_parks hcradle
    rw [hv] at hqueue ⊢
    exact ⟨happroval, hturn, hhold, hfault, hopening, hsensors, ⟨hmounted, hclass, hmove⟩, hqueue⟩

end Sys2Proof.Machine
end

section
/-! PROOFS. The settle time expires. -/

namespace Sys2Proof.Machine

/-! ### BASELINE begins -/

theorem Sensors.atRest_iff (m : Sensors) : m.atRest = true ↔ (m.armRest = true ∧ m.wandDown = false) := by
  simp [Sensors.atRest]

theorem State.onTurn_eq {s : State} {r : TurnRecord} (h : s.cradle.turn = some r) (f : TurnRecord → TurnRecord) :
    s.onTurn f = s.onCradle fun k => { k with turn := some (f r) } := by
  simp only [State.onTurn, State.onCradle, h, Option.map_some]

/-- The turn `r` at a step of BASELINE, with the lift timer of that step (R60). -/
def State.baselineAt (r : TurnRecord) (step : Nat) (lift : Option Nat) (s : State) : State :=
  s.onCradle fun k =>
    { k with
      turn := some { r with phase := .baseline, step := step }
      timers := { k.timers with lift := lift }
      outputs := k.outputs.baseline }

/-- BASELINE begins at step 1 with the lift timer, or at its gate with the mechanism at rest (R60). -/
theorem State.enterBaseline_eq {s : State} {r : TurnRecord} (h : s.cradle.turn = some r) :
    s.enterBaseline =
      if s.cradle.sensors.atRest then (s.baselineAt r 2 none).startGate .baseline
      else s.baselineAt r 1 (some (s.liftTime r.effectiveClass)) := by
  have ht : ((s.onOutputs Outputs.baseline).toPhase .baseline 1).onTimers (fun t =>
      { t with lift := some (((s.onOutputs Outputs.baseline).toPhase .baseline 1).liftTime
        ((s.onOutputs Outputs.baseline).toPhase .baseline 1).effectiveClass) }) =
      s.baselineAt r 1 (some (s.liftTime r.effectiveClass)) := by
    simp only [State.onOutputs, State.toPhase, State.onTurn, State.onTimers, State.onCradle, State.baselineAt,
      State.effectiveClass, h, Option.map_some, Option.getD_some]
    rfl
  rw [State.enterBaseline, ht, State.baselineTest]
  rfl

/-! ### A leaf is booked -/

section settle
variable (r : TurnRecord) (slot leaf : Nat) (k : Cradle) (s : State)

/-- The opening a turn shows after its current leaf (R65). -/
def TurnRecord.nextOpening : Nat := if r.direction = .forward then k.opening + 1 else k.opening - 1

/-- The leaf a turn lifts after its current one (R34, R56). -/
def TurnRecord.nextLeaf : Nat := if r.direction = .forward then r.nextOpening k else r.nextOpening k - 1

/-- The entry and the leaf record with one turn booked (R18, R34). -/
def State.booked : State :=
  (s.onEntry slot fun e => { e with turns := (e.turns + 1) % 4294967296 }).onLeaf slot leaf fun x =>
    { x with turnCount := min 65535 (x.turnCount + 1) }

/-- The current leaf of the turn `r` booked, the next opening shown (R65). -/
def State.leafBooked : State :=
  (s.booked slot leaf).onCradle fun k =>
    { k with
      opening := r.nextOpening s.cradle
      turn := some { r with done := r.done + 1, retriesUsed := 0 }
      timers := { k.timers with settle := none } }

variable {r slot leaf s}

theorem State.booked_mountedSlot : (s.booked slot leaf).mountedSlot = s.mountedSlot := by
  rw [State.booked, State.onLeaf_mountedSlot]
  refine State.mountedSlot_congr fun i hi => ?_
  rw [State.entry_onEntry _ _ _ _ hi]
  split <;> rfl

theorem State.booked_entry (hs : slot < 8) :
    (s.booked slot leaf).entry slot = { s.entry slot with turns := ((s.entry slot).turns + 1) % 4294967296 } := by
  have := State.entry_onEntry s slot slot (fun e => { e with turns := (e.turns + 1) % 4294967296 }) hs
  rw [if_pos rfl] at this
  exact this

/-- The other leaves of the volume keep their records. -/
theorem State.booked_leaf (hs : slot < 8) {other : Nat} (hne : leaf ≠ other) :
    (s.booked slot leaf).leaf slot other = s.leaf slot other := by
  have hb : ((s.onEntry slot fun e => { e with turns := (e.turns + 1) % 4294967296 }).entry slot).extentBase =
      (s.entry slot).extentBase := by rw [State.entry_onEntry _ _ _ _ hs, if_pos rfl]
  simp only [State.leaf, Custody.leafOf, State.booked_entry hs]
  have hl : (s.booked slot leaf).custody.leaves = LeafStore.edit ((s.entry slot).extentBase + leaf)
      (fun x => { x with turnCount := min 65535 (x.turnCount + 1) }) s.custody.leaves := by
    rw [← hb]; rfl
  rw [hl, LeafStore.get_edit, if_neg (by omega)]

/-- The settle time expires: the current leaf is booked, then the turn ends or the next leaf starts (R65). -/
theorem State.settleEnd_eq (hm : s.mountedSlot = some slot) (ht : s.cradle.turn = some r)
    (hl : s.cradle.currentLeaf = some leaf) :
    s.settleEnd =
      if r.done + 1 = r.count then (s.leafBooked r slot leaf).endTurn .complete none
      else (s.leafBooked r slot leaf).startLeaf := by
  have hb : (s.onTimers fun t => { t with settle := none }).bookTurn leaf =
      (s.onTimers fun t => { t with settle := none }).booked slot leaf := by
    rw [State.bookTurn, show (s.onTimers _).mountedSlot = some slot from hm]; rfl
  rw [State.settleEnd, ht, hl]
  simp only [hb, State.leafBooked, TurnRecord.nextOpening]
  cases r.direction <;> rfl

/-! ### The next leaf -/

/-- The next leaf begins, by its mark or by its approval, which is spent (R56). -/
theorem State.startLeaf_begins (hm : s.mountedSlot = some slot) (ht : s.cradle.turn = some r)
    (hl : s.cradle.currentLeaf = some leaf)
    (h : ((s.leaf slot leaf).mark = .normal ∨ (s.leaf slot leaf).mark = .withheld) ∨
      s.cradle.approval = some { slot := slot, generation := (s.entry slot).generation, leaf := leaf }) :
    s.startLeaf =
      (s.onCradle fun k =>
        { k with
          approval :=
            if (s.leaf slot leaf).mark = .normal ∨ (s.leaf slot leaf).mark = .withheld then k.approval else none
          turn := some { r with retriesUsed := 0, lastClass := none } }).enterBaseline := by
  rw [State.startLeaf, hm, hl]
  cases hk : (s.leaf slot leaf).mark
  case normal | withheld =>
    simp only [hk]
    exact congrArg State.enterBaseline (State.onTurn_eq ht _)
  case foldout | damaged =>
    have ha := h.resolve_left (by simp [hk])
    simp only [hk, ha, if_true]
    exact congrArg State.enterBaseline
      (State.onTurn_eq (s := s.onCradle fun c => { c with approval := none }) ht _)

/-- The next leaf asks for an approval it does not have: the turn ends (R56). -/
theorem State.startLeaf_refused (hm : s.mountedSlot = some slot) (hl : s.cradle.currentLeaf = some leaf)
    (hp : ¬ ((s.leaf slot leaf).mark = .normal ∨ (s.leaf slot leaf).mark = .withheld))
    (ha : ¬ s.cradle.approval = some { slot := slot, generation := (s.entry slot).generation, leaf := leaf }) :
    s.startLeaf = s.endTurn .approvalRequired (some leaf) := by
  rw [State.startLeaf, hm, hl]
  cases hk : (s.leaf slot leaf).mark
  case normal | withheld => simp [hk] at hp
  case foldout | damaged => simp only [hk, if_neg ha]

/-! ### The turn after the booking -/

theorem State.leafBooked_currentLeaf : (s.leafBooked r slot leaf).cradle.currentLeaf = some (r.nextLeaf s.cradle) := by
  simp only [State.leafBooked, Cradle.currentLeaf, State.onCradle_cradle, Option.map_some, TurnRecord.nextLeaf,
    liftedLeaf]
  cases r.direction <;> rfl

/-- The mark and the approval that the next leaf begins by are those before the booking. -/
theorem State.leafBooked_next (hm : s.mountedSlot = some slot) {next : Nat} (hne : leaf ≠ next) :
    (s.leafBooked r slot leaf).mountedSlot = some slot ∧
      (s.leafBooked r slot leaf).leaf slot next = s.leaf slot next ∧
      ((s.leafBooked r slot leaf).entry slot).generation = (s.entry slot).generation := by
  obtain ⟨hs, -⟩ := State.mountedSlot_some.1 hm
  refine ⟨State.booked_mountedSlot.trans hm, State.booked_leaf hs hne, ?_⟩
  have := congrArg CustodyEntry.generation (State.booked_entry (leaf := leaf) (s := s) hs)
  exact this

/-- The leaf booked was not the last and the next leaf begins (R56, R65). -/
theorem State.settleEnd_begins (hm : s.mountedSlot = some slot) (ht : s.cradle.turn = some r)
    (hl : s.cradle.currentLeaf = some leaf) (hd : r.done + 1 ≠ r.count) (hne : leaf ≠ r.nextLeaf s.cradle)
    (h : ((s.leaf slot (r.nextLeaf s.cradle)).mark = .normal ∨ (s.leaf slot (r.nextLeaf s.cradle)).mark = .withheld) ∨
      s.cradle.approval =
        some { slot := slot, generation := (s.entry slot).generation, leaf := r.nextLeaf s.cradle }) :
    s.settleEnd =
      ((s.leafBooked r slot leaf).onCradle fun k =>
        { k with
          approval :=
            if (s.leaf slot (r.nextLeaf s.cradle)).mark = .normal ∨
              (s.leaf slot (r.nextLeaf s.cradle)).mark = .withheld then k.approval else none
          turn := some { r with done := r.done + 1, retriesUsed := 0, lastClass := none } }).enterBaseline := by
  obtain ⟨hmounted, hleaf, hgeneration⟩ := State.leafBooked_next (r := r) hm hne
  rw [State.settleEnd_eq hm ht hl, if_neg hd,
    State.startLeaf_begins hmounted rfl State.leafBooked_currentLeaf (by rw [hleaf, hgeneration]; exact h), hleaf]

/-- The leaf booked was not the last and the next one waits for an approval (R56). -/
theorem State.settleEnd_refuses (hm : s.mountedSlot = some slot) (ht : s.cradle.turn = some r)
    (hl : s.cradle.currentLeaf = some leaf) (hd : r.done + 1 ≠ r.count) (hne : leaf ≠ r.nextLeaf s.cradle)
    (hp : ¬ ((s.leaf slot (r.nextLeaf s.cradle)).mark = .normal ∨
      (s.leaf slot (r.nextLeaf s.cradle)).mark = .withheld))
    (ha : ¬ s.cradle.approval =
      some { slot := slot, generation := (s.entry slot).generation, leaf := r.nextLeaf s.cradle }) :
    s.settleEnd = (s.leafBooked r slot leaf).endTurn .approvalRequired (some (r.nextLeaf s.cradle)) := by
  obtain ⟨hmounted, hleaf, hgeneration⟩ := State.leafBooked_next (r := r) hm hne
  rw [State.settleEnd_eq hm ht hl, if_neg hd]
  exact State.startLeaf_refused hmounted State.leafBooked_currentLeaf (by rwa [hleaf]) (by rwa [hgeneration])

end settle

/-- An expiry of a timer that runs in a turn acts (R59). -/
theorem State.turnExpiry_runs {s : State} {running : CradleTimers → Option Nat} (hs : s.cradle.state = .turning)
    (hr : running s.cradle.timers ≠ none) (act : State → State) : s.turnExpiry running act = act s :=
  if_pos ⟨hs, hr⟩

/-- Settles O39: the leaf booked, then the turn ended, or BASELINE of the next leaf at its step 1 or at its gate. -/
theorem settleBooksTheLeaf : Obligations.SettleBooksTheLeaf := by
  unfold Obligations.SettleBooksTheLeaf
  intro s r slot leaf k m opening next_ booked mark plain approved begun hq hs ht hrun hm hl
  have hact (act : State → State) := State.turnExpiry_runs (running := (·.settle)) hs hrun act
  refine ⟨fun hd => ?_, fun hd hne => ⟨fun hb hrest => ?_, fun hb harm hwand => ?_, fun hp ha => ?_⟩⟩
  · refine event_posts _ _ _ _ ((hact _).trans ?_) hq id
    rw [State.settleEnd_eq hm ht hl, if_pos hd]
    rfl
  · refine event_eq _ _ _ ((hact _).trans ?_) hq rfl
    rw [State.settleEnd_begins hm ht hl hd hne hb, State.enterBaseline_eq rfl]
    exact (if_neg ((not_congr m.atRest_iff).2 hrest)).trans rfl
  · refine event_eq _ _ _ ((hact _).trans ?_) hq rfl
    rw [State.settleEnd_begins hm ht hl hd hne hb, State.enterBaseline_eq rfl]
    exact (if_pos (m.atRest_iff.2 ⟨harm, hwand⟩)).trans rfl
  · refine event_posts _ _ _ _ ((hact _).trans ?_) hq id
    rw [State.settleEnd_refuses hm ht hl hd hne hp ha]
    rfl

end Sys2Proof.Machine
end

section
/-! PROOFS. The changes of the sensors that end a step. -/

namespace Sys2Proof.Machine

/-! ### A change of a sensor is taken for the step it ends (R49) -/

section taken
variable {s : State} {r : TurnRecord}

/-- The turn `r` in progress, in a phase and step. -/
def Cradle.turningAt (k : Cradle) (r : TurnRecord) (phase : Phase) (step : Nat) : Prop :=
  k.state = .turning ∧ k.turn = some r ∧ r.phase = phase ∧ r.step = step

theorem Cradle.turningAt.turningStep {k : Cradle} {phase : Phase} {step : Nat} (h : k.turningAt r phase step) :
    k.turningStep = some (phase, step) := by
  obtain ⟨hs, ht, hp, hn⟩ := h
  rw [Cradle.turningStep, if_pos hs, ht, Option.map_some, hp, hn]

/-- The levels of the sensors say nothing of the step. -/
theorem Cradle.turningAt.onSensors {phase : Phase} {step : Nat} (h : s.cradle.turningAt r phase step)
    (f : Sensors → Sensors) : (s.onSensors f).cradle.turningAt r phase step := h

theorem Cradle.turningAt.leafOnWand {k : Cradle} {phase : Phase} {step : Nat} (h : k.turningAt r phase step) :
    k.leafOnWand = r.leafOnWand := by
  rw [Cradle.leafOnWand, h.2.1]; rfl

section wandDown
variable {step : Nat} (level : Bool)

theorem State.wandDownTaken_baseline (h : s.cradle.turningAt r .baseline 1) :
    s.wandDownTaken level = s.baselineTest := by
  rw [State.wandDownTaken, h.turningStep, h.1]; rfl

theorem State.wandDownTaken_drop (h : s.cradle.turningAt r .drop step) : s.wandDownTaken level = s.dropTest := by
  rw [State.wandDownTaken, h.turningStep, h.1]

theorem State.wandDownTaken_returning (h : s.cradle.turningAt r .returning step) :
    s.wandDownTaken level = s.returnTest := by
  rw [State.wandDownTaken, h.turningStep, h.1]

theorem State.wandDownTaken_open (h : s.cradle.turningAt r .lift 1) : s.wandDownTaken true = s.liftOpen := by
  rw [State.wandDownTaken, h.turningStep, h.1]; rfl

theorem State.wandDownTaken_gate (h : s.cradle.turningAt r .lift 3) : s.wandDownTaken false = s.liftGate := by
  rw [State.wandDownTaken, h.turningStep, h.1]; rfl

theorem State.wandDownTaken_release (h : s.cradle.turningAt r .lay 1) : s.wandDownTaken true = s.layRelease := by
  rw [State.wandDownTaken, h.turningStep, h.1]; rfl

theorem State.armRestTaken_baseline (h : s.cradle.turningAt r .baseline 1) : s.armRestTaken = s.baselineTest := by
  rw [State.armRestTaken, h.turningStep, h.1]; rfl

theorem State.armRestTaken_returning (h : s.cradle.turningAt r .returning step) : s.armRestTaken = s.returnTest := by
  rw [State.armRestTaken, h.turningStep, h.1]

theorem State.armFarTaken_carry (h : s.cradle.turningAt r .carry step) : s.armFarTaken true = s.enterLay := by
  rw [State.armFarTaken, h.turningStep]; rfl

theorem State.vacuumHeldTaken_raise (h : s.cradle.turningAt r .lift 2) : s.vacuumHeldTaken true = s.liftRaise := by
  rw [State.vacuumHeldTaken, h.turningStep]; rfl

/-- With no leaf on the wand a fall of VACUUM HELD is no loss (R66). -/
theorem State.vacuumHeldTaken_drop (h : s.cradle.turningAt r .drop step) (hw : r.leafOnWand = false) :
    s.vacuumHeldTaken false = s.dropTest := by
  rw [State.vacuumHeldTaken, h.turningStep, h.leafOnWand, hw]
  simp

theorem State.vacuumHeldTaken_return (h : s.cradle.turningAt r .lay 2) (hw : r.leafOnWand = false) :
    s.vacuumHeldTaken false = s.enterReturn := by
  rw [State.vacuumHeldTaken, h.turningStep, h.leafOnWand, hw]
  simp

end wandDown
/-! A change to the other level is taken; one to the level that stands is not (log 5). -/

theorem exec_wandDownChange {level : Bool} (h : s.cradle.sensors.wandDown ≠ level) :
    ∃ f, exec (.wandDownChange level) s = event f s ∧
      f s = (s.onSensors fun m => { m with wandDown := level }).wandDownTaken level :=
  ⟨_, (rfl : execWandDownChange level s = event _ s), by exact if_neg h⟩

theorem exec_vacuumHeldChange {level : Bool} (h : s.cradle.sensors.vacuumHeld ≠ level) :
    ∃ f, exec (.vacuumHeldChange level) s = event f s ∧
      f s = (s.onSensors fun m => { m with vacuumHeld := level }).vacuumHeldTaken level :=
  ⟨_, (rfl : execVacuumHeldChange level s = event _ s), by exact if_neg h⟩

theorem exec_armFarChange {level : Bool} (h : s.cradle.sensors.armFar ≠ level) :
    ∃ f, exec (.armFarChange level) s = event f s ∧
      f s = (s.onSensors fun m => { m with armFar := level }).armFarTaken level :=
  ⟨_, (rfl : execArmFarChange level s = event _ s), by exact if_neg h⟩

theorem exec_armRestChange {level : Bool} (h : s.cradle.sensors.armRest ≠ level) :
    ∃ f, exec (.armRestChange level) s = event f s ∧
      f s = (s.onSensors fun m => { m with armRest := level }).armRestTaken :=
  ⟨_, (rfl : execArmRestChange level s = event _ s), by exact if_neg h⟩

end taken

/-! ### The next step of a turn, written out -/

section steps
variable {s : State} {r : TurnRecord}

theorem State.effectiveClass_eq (h : s.cradle.turn = some r) : s.effectiveClass = r.effectiveClass := by
  rw [State.effectiveClass, h]; rfl

theorem State.baselineGate_eq (h : s.cradle.turn = some r) :
    s.baselineGate =
      (s.onCradle fun k =>
        { k with
          turn := some { r with phase := .baseline, step := 2 }
          timers := { k.timers with lift := none } }).startGate .baseline := by
  simp only [State.baselineGate, State.onTurn, State.toPhase, State.onTimers, State.onCradle, h, Option.map_some]

theorem State.liftOpen_eq (h : s.cradle.turn = some r) :
    s.liftOpen =
      s.onCradle fun k =>
        { k with
          turn := some { r with phase := .lift, step := 2 }
          outputs := { k.outputs with vacuumOpen := true } } := by
  simp only [State.liftOpen, State.onTurn, State.toPhase, State.onOutputs, State.onCradle, h, Option.map_some]

theorem State.liftRaise_eq (h : s.cradle.turn = some r) :
    s.liftRaise =
      s.onCradle fun k =>
        { k with
          turn := some { r with phase := .lift, step := 3, leafOnWand := true }
          outputs := { k.outputs with wandDrive := .up } } := by
  simp only [State.liftRaise, State.onTurn, State.toPhase, State.onOutputs, State.onCradle, h, Option.map_some]

theorem State.liftGate_eq (h : s.cradle.turn = some r) :
    s.liftGate =
      (s.onCradle fun k =>
        { k with
          turn := some { r with phase := .lift, step := 4 }
          timers := { k.timers with lift := none } }).startGate .lift := by
  simp only [State.liftGate, State.onTurn, State.toPhase, State.onTimers, State.onCradle, h, Option.map_some]

theorem State.enterLay_eq (h : s.cradle.turn = some r) :
    s.enterLay =
      s.onCradle fun k =>
        { k with
          turn := some { r with phase := .lay, step := 1 }
          timers := { k.timers with carry := none, lay := some (s.layTime r.effectiveClass) }
          outputs := { k.outputs with armDrive := .stopped, wandDrive := .down } } := by
  simp only [State.enterLay, State.onTurn, State.toPhase, State.onTimers, State.onOutputs,
    State.onCradle, State.effectiveClass_eq h, h, Option.map_some]

theorem State.layRelease_eq (h : s.cradle.turn = some r) :
    s.layRelease =
      s.onCradle fun k =>
        { k with
          turn := some { r with phase := .lay, step := 2, leafOnWand := false }
          outputs := { k.outputs with vacuumOpen := false } } := by
  simp only [State.layRelease, State.onTurn, State.toPhase, State.onOutputs, State.onCradle, h, Option.map_some]

theorem State.enterReturn_eq (h : s.cradle.turn = some r) :
    s.enterReturn =
      s.onCradle fun k =>
        { k with
          turn := some { r with phase := .returning, step := 1 }
          timers := { k.timers with lay := none, carry := some (s.carryTime r.effectiveClass) }
          outputs :=
            { k.outputs with wandDrive := .up, armDrive := .toRest (some (s.carrySpeed r.effectiveClass)) } } := by
  simp only [State.enterReturn, State.onTurn, State.toPhase, State.onTimers, State.onOutputs,
    State.onCradle, State.effectiveClass_eq h, h, Option.map_some]

/-- SETTLE of the turn `r` begun, with its settle time (R65). -/
def State.settlingAt (r : TurnRecord) (s : State) : State :=
  s.onCradle fun k =>
    { k with
      turn := some { r with phase := .settle, step := 1 }
      timers := { k.timers with carry := none, settle := some (s.settleTime r.effectiveClass) }
      outputs := { k.outputs with armDrive := .stopped, wandDrive := .stopped } }

theorem State.enterSettle_eq (h : s.cradle.turn = some r) :
    s.enterSettle =
      if s.settleTime r.effectiveClass = 0 then (s.settlingAt r).settleEnd else s.settlingAt r := by
  simp only [State.enterSettle, State.onTurn, State.toPhase, State.onTimers, State.onOutputs,
    State.onCradle, State.effectiveClass_eq h, h, Option.map_some]
  rfl

theorem State.resolveDrop_rejected (h : s.cradle.turn = some r) (hd : r.drop = .rejected) :
    s.resolveDrop = s.enterBaseline := by
  rw [State.resolveDrop, h]
  simp only [hd]

/-- A DROP that was not counted ends in BASELINE of the same leaf (R63). -/
theorem State.dropTest_rejected (h : s.cradle.turn = some r) (hd : r.drop = .rejected)
    (hl : s.cradle.sensors.vacuumHeld = false ∧ s.cradle.sensors.wandDown = false) :
    s.dropTest =
      if s.cradle.sensors.armRest then (s.baselineAt r 2 none).startGate .baseline
      else s.baselineAt r 1 (some (s.liftTime r.effectiveClass)) := by
  have ht : (s.onTimers fun t => { t with lift := none }).cradle.turn = some r := h
  rw [State.dropTest, if_pos hl, State.resolveDrop_rejected ht hd, State.enterBaseline_eq ht]
  refine if_congr ?_ rfl rfl
  exact (Sensors.atRest_iff _).trans (and_iff_left hl.2)

end steps

/-! ### The change that ends a step -/

section ends
variable {s : State} {r : TurnRecord} {c : Instr} {sensors : Sensors} {step : Nat}

/-- The change that brings the mechanism to rest (R60, R65). -/
def Cradle.comesToRest (k : Cradle) (c : Instr) (sensors : Sensors) : Prop :=
  (c = .armRestChange true ∧ k.sensors.armRest = false ∧ k.sensors.wandDown = false ∧
    sensors = { k.sensors with armRest := true }) ∨
  (c = .wandDownChange false ∧ k.sensors.wandDown = true ∧ k.sensors.armRest = true ∧
    sensors = { k.sensors with wandDown := false })

/-- The change that frees the wand of its leaf (R63). -/
def Cradle.comesFree (k : Cradle) (c : Instr) (sensors : Sensors) : Prop :=
  (c = .vacuumHeldChange false ∧ k.sensors.vacuumHeld = true ∧ k.sensors.wandDown = false ∧
    sensors = { k.sensors with vacuumHeld := false }) ∨
  (c = .wandDownChange false ∧ k.sensors.wandDown = true ∧ k.sensors.vacuumHeld = false ∧
    sensors = { k.sensors with wandDown := false })

theorem Cradle.comesToRest.atRest {k : Cradle} (h : k.comesToRest c sensors) : sensors.atRest = true := by
  rcases h with ⟨-, -, hw, rfl⟩ | ⟨-, -, ha, rfl⟩ <;> simp [Sensors.atRest, *]

theorem Cradle.comesFree.levels {k : Cradle} (h : k.comesFree c sensors) :
    (sensors.vacuumHeld = false ∧ sensors.wandDown = false) ∧ sensors.armRest = k.sensors.armRest := by
  rcases h with ⟨-, -, hw, rfl⟩ | ⟨-, -, hv, rfl⟩ <;> simp [*]

theorem Cradle.comesToRest.baseline (h : s.cradle.comesToRest c sensors) (hat : s.cradle.turningAt r .baseline 1) :
    ∃ f, exec c s = event f s ∧ f s = (s.onSensors fun _ => sensors).baselineTest := by
  rcases h with ⟨rfl, ha, -, rfl⟩ | ⟨rfl, hw, -, rfl⟩
  · obtain ⟨f, he, hf⟩ := exec_armRestChange (s := s) (level := true) (by simp [ha])
    exact ⟨f, he, hf.trans (State.armRestTaken_baseline (hat.onSensors _))⟩
  · obtain ⟨f, he, hf⟩ := exec_wandDownChange (s := s) (level := false) (by simp [hw])
    exact ⟨f, he, hf.trans (State.wandDownTaken_baseline _ (hat.onSensors _))⟩

theorem Cradle.comesToRest.returning (h : s.cradle.comesToRest c sensors)
    (hat : s.cradle.turningAt r .returning step) :
    ∃ f, exec c s = event f s ∧ f s = (s.onSensors fun _ => sensors).returnTest := by
  rcases h with ⟨rfl, ha, -, rfl⟩ | ⟨rfl, hw, -, rfl⟩
  · obtain ⟨f, he, hf⟩ := exec_armRestChange (s := s) (level := true) (by simp [ha])
    exact ⟨f, he, hf.trans (State.armRestTaken_returning (hat.onSensors _))⟩
  · obtain ⟨f, he, hf⟩ := exec_wandDownChange (s := s) (level := false) (by simp [hw])
    exact ⟨f, he, hf.trans (State.wandDownTaken_returning _ (hat.onSensors _))⟩

theorem Cradle.comesFree.drop (h : s.cradle.comesFree c sensors) (hat : s.cradle.turningAt r .drop step)
    (hw : r.leafOnWand = false) :
    ∃ f, exec c s = event f s ∧ f s = (s.onSensors fun _ => sensors).dropTest := by
  rcases h with ⟨rfl, hv, -, rfl⟩ | ⟨rfl, hd, -, rfl⟩
  · obtain ⟨f, he, hf⟩ := exec_vacuumHeldChange (s := s) (level := false) (by simp [hv])
    exact ⟨f, he, hf.trans (State.vacuumHeldTaken_drop (hat.onSensors _) hw)⟩
  · obtain ⟨f, he, hf⟩ := exec_wandDownChange (s := s) (level := false) (by simp [hd])
    exact ⟨f, he, hf.trans (State.wandDownTaken_drop _ (hat.onSensors _))⟩

end ends

/-- The end of RETURN with a settle time of 0 books the leaf in the same event (R65). -/
theorem State.settlingAt_currentLeaf {s : State} {r : TurnRecord} {leaf : Nat} (ht : s.cradle.turn = some r)
    (hl : s.cradle.currentLeaf = some leaf) : (s.settlingAt r).cradle.currentLeaf = some leaf := by
  rw [Cradle.currentLeaf, ht] at hl
  exact hl

/-- Settles O36: each change is taken for the step it ends, and the next step is as written out. -/
theorem sensorsEndTheSteps : Obligations.SensorsEndTheSteps := by
  unfold Obligations.SensorsEndTheSteps
  intro s r k e at_ leaves gated brings releases hq hs ht
  have hk {phase : Phase} {step : Nat} (h : at_ phase step) : s.cradle.turningAt r phase step := ⟨hs, ht, h.1, h.2⟩
  refine ⟨fun c sensors hat hb => ?_, fun hat hl => ?_, fun hat hl => ?_, fun hat hl => ?_, fun hat hl => ?_,
    fun hat hl => ?_, fun hat hw hl => ?_, fun c sensors hat hb => ?_, fun c sensors hat hd hw hr => ?_⟩
  · have hb : s.cradle.comesToRest c sensors := hb
    obtain ⟨f, he, hf⟩ := hb.baseline (hk hat)
    refine he.trans (event_eq _ _ _ (hf.trans ((if_pos hb.atRest).trans ?_)) hq rfl)
    exact (State.baselineGate_eq (s := s.onSensors fun _ => sensors) ht).trans rfl
  · obtain ⟨f, he, hf⟩ := exec_wandDownChange (s := s) (level := true) (by simp [k, hl])
    replace hf := hf.trans (State.wandDownTaken_open ((hk hat).onSensors _))
    exact he.trans (event_eq _ _ _ (hf.trans (State.liftOpen_eq ht)) hq rfl)
  · obtain ⟨f, he, hf⟩ := exec_vacuumHeldChange (s := s) (level := true) (by simp [k, hl])
    replace hf := hf.trans (State.vacuumHeldTaken_raise ((hk hat).onSensors _))
    exact he.trans (event_eq _ _ _ (hf.trans (State.liftRaise_eq ht)) hq rfl)
  · obtain ⟨f, he, hf⟩ := exec_wandDownChange (s := s) (level := false) (by simp [k, hl])
    replace hf := hf.trans (State.wandDownTaken_gate ((hk hat).onSensors _))
    exact he.trans (event_eq _ _ _ (hf.trans (State.liftGate_eq ht)) hq rfl)
  · obtain ⟨f, he, hf⟩ := exec_armFarChange (s := s) (level := true) (by simp [k, hl])
    replace hf := hf.trans (State.armFarTaken_carry ((hk hat).onSensors _))
    exact he.trans (event_eq _ _ _ (hf.trans (State.enterLay_eq ht)) hq rfl)
  · obtain ⟨f, he, hf⟩ := exec_wandDownChange (s := s) (level := true) (by simp [k, hl])
    replace hf := hf.trans (State.wandDownTaken_release ((hk hat).onSensors _))
    exact he.trans (event_eq _ _ _ (hf.trans (State.layRelease_eq ht)) hq rfl)
  · obtain ⟨f, he, hf⟩ := exec_vacuumHeldChange (s := s) (level := false) (by simp [k, hl])
    replace hf := hf.trans (State.vacuumHeldTaken_return ((hk hat).onSensors _) hw)
    exact he.trans (event_eq _ _ _ (hf.trans (State.enterReturn_eq ht)) hq rfl)
  · have hb : s.cradle.comesToRest c sensors := hb
    obtain ⟨f, he, hf⟩ := hb.returning (hk hat)
    replace hf := (hf.trans (if_pos hb.atRest)).trans
      (State.enterSettle_eq (s := s.onSensors fun _ => sensors) ht)
    refine ⟨fun hset => ?_, fun slot leaf hset hm hleaf => ?_⟩
    · exact he.trans (event_eq _ _ _ (hf.trans (if_neg hset)) hq rfl)
    · replace hf := hf.trans (if_pos hset)
      replace hm : ((s.onSensors fun _ => sensors).settlingAt r).mountedSlot = some slot := hm
      have hl := State.settlingAt_currentLeaf (s := s.onSensors fun _ => sensors) ht hleaf
      refine ⟨fun hd => ?_, fun hd hne h => ?_, fun hd hne hp ha => ?_⟩
      · refine he.trans (event_posts _ _ _ _ (hf.trans ?_) hq id)
        rw [State.settleEnd_eq hm rfl hl, if_pos hd]
        rfl
      · refine he.trans (event_eq _ _ _ (hf.trans ?_) hq rfl)
        rw [State.settleEnd_begins hm rfl hl hd hne h, State.enterBaseline_eq rfl]
        exact (if_pos hb.atRest).trans rfl
      · refine he.trans (event_posts _ _ _ _ (hf.trans ?_) hq id)
        rw [State.settleEnd_refuses hm rfl hl hd hne hp ha]
        rfl
  · have hr : s.cradle.comesFree c sensors := hr
    obtain ⟨f, he, hf⟩ := hr.drop (hk hat) hw
    obtain ⟨hlevels, harm⟩ := hr.levels
    replace hf := hf.trans (State.dropTest_rejected (s := s.onSensors fun _ => sensors) ht hd hlevels)
    change exec c s = .next (if s.cradle.sensors.armRest then _ else _)
    split
    · next ha => exact he.trans (event_eq _ _ _ (hf.trans ((if_pos (harm.trans ha)).trans rfl)) hq rfl)
    · next ha => exact he.trans (event_eq _ _ _ (hf.trans ((if_neg fun h => ha (harm.symm.trans h)).trans rfl)) hq rfl)

end Sys2Proof.Machine
end

section
/-! PROOFS. The walker with no light: bookings and descriptors alone. -/

namespace Sys2Proof.Machine

/-! ### Bookings of frames open alone -/

/-- Nothing of the custody unit has changed but frames open, of the entry in a slot and of the faces (R19, R33). -/
structure State.framesBooked (slot : Nat) (s t : State) : Prop where
  others : ∀ i, i < 8 → i ≠ slot → t.entry i = s.entry i
  entry : { t.entry slot with framesOpen := 0 } = { s.entry slot with framesOpen := 0 }
  doses : ∀ i side, (((LeafStore.get t.custody.leaves i).getD .fresh).sideOf side).dose =
    (((LeafStore.get s.custody.leaves i).getD .fresh).sideOf side).dose

section framesBooked
variable {slot : Nat} {s t u : State}

theorem State.framesBooked.of_custody (h : t.custody = s.custody) : s.framesBooked slot t := by
  constructor <;> simp [State.entry, h]

theorem State.framesBooked.trans (h : s.framesBooked slot t) (g : t.framesBooked slot u) : s.framesBooked slot u where
  others i hi hne := (g.others i hi hne).trans (h.others i hi hne)
  entry := g.entry.trans h.entry
  doses i side := (g.doses i side).trans (h.doses i side)

theorem State.framesBooked.budget (h : s.framesBooked slot t) : (t.entry slot).budget = (s.entry slot).budget :=
  (congrArg CustodyEntry.budget h.entry :)

theorem State.framesBooked.doseOf (h : s.framesBooked slot t) (v : VisibleFace) :
    t.custody.doseOf (t.entry slot) v = s.custody.doseOf (s.entry slot) v := by
  have hb : (t.entry slot).extentBase = (s.entry slot).extentBase := (congrArg CustodyEntry.extentBase h.entry :)
  simp only [Custody.doseOf, Custody.leafOf, hb, h.doses]

theorem State.framesBooked.mountedSlot (h : s.framesBooked slot t) : t.mountedSlot = s.mountedSlot := by
  refine State.mountedSlot_congr fun i hi => ?_
  by_cases hs : i = slot
  · subst hs
    have he : (t.entry i).state = (s.entry i).state := (congrArg CustodyEntry.state h.entry :)
    rw [he]
  · rw [h.others i hi hs]

/-- With the cradle as it was the faces in view are those before, and so is the first of them at the budget. -/
theorem State.framesBooked.faceAtBudget (h : s.framesBooked slot t) (hc : t.cradle = s.cradle)
    (hm : s.mountedSlot = some slot) : t.visible = s.visible ∧ t.faceAtBudget = s.faceAtBudget := by
  have hl : (t.entry slot).leafCount = (s.entry slot).leafCount := (congrArg CustodyEntry.leafCount h.entry :)
  have hv : t.visible = s.visible := by simp only [State.visible, h.mountedSlot, hm, hl, hc]
  refine ⟨hv, ?_⟩
  simp only [State.faceAtBudget, h.mountedSlot, hm, hv, h.budget, h.doseOf]

theorem LeafRecord.dose_onSide (side side' : Side) (f : FaceRecord → FaceRecord) (hf : ∀ r, (f r).dose = r.dose)
    (r : LeafRecord) : ((r.onSide side f).sideOf side').dose = (r.sideOf side').dose := by
  cases side <;> cases side' <;> simp [LeafRecord.onSide, LeafRecord.sideOf, hf]

/-- A rewrite of a face record that keeps its dose keeps every dose. -/
theorem State.onFace_doses (slot : Nat) (face : Face) (f : FaceRecord → FaceRecord) (hf : ∀ r, (f r).dose = r.dose)
    (s : State) (i : Nat) (side : Side) :
    (((LeafStore.get (s.onFace slot face f).custody.leaves i).getD .fresh).sideOf side).dose =
      (((LeafStore.get s.custody.leaves i).getD .fresh).sideOf side).dose := by
  have leaf (l : Nat) (side' : Side) :
      (((LeafStore.get (s.onLeaf slot l (LeafRecord.onSide side' f)).custody.leaves i).getD .fresh).sideOf side).dose =
        (((LeafStore.get s.custody.leaves i).getD .fresh).sideOf side).dose := by
    rw [State.onLeaf, State.onLeaves, State.onCustody_custody, LeafStore.get_edit]
    split
    · cases LeafStore.get s.custody.leaves i with
      | none => rfl
      | some r => exact LeafRecord.dose_onSide _ _ f hf r
    · rfl
  cases face with
  | verso l => exact leaf l .left
  | recto l => exact leaf l .right
  | board => rfl

theorem State.bookFrame_booked (hs : slot < 8) (face : Face) (s : State) :
    s.framesBooked slot (s.bookFrame slot face) where
  others i hi hne := by rw [State.bookFrame, State.entry_onFace, State.entry_onEntry _ _ _ _ hi, if_neg hne.symm]
  entry := by rw [State.bookFrame, State.entry_onFace, State.entry_onEntry _ _ _ _ hs, if_pos rfl]
  doses i side := by
    rw [State.bookFrame]
    exact State.onFace_doses slot face (fun r => { r with framesOpen := r.framesOpen + 1 }) (fun _ => rfl)
      (s.onEntry slot fun e => { e with framesOpen := e.framesOpen + 1 }) i side

end framesBooked

/-! ### The walker with no light -/

/-- The walker has gone on without a light: frames open booked and descriptors moved, those in COMPLETED as they were,
the light, the meter, the triggers and the count of CUT untouched. -/
structure State.walks (slot : Nat) (s t : State) : Prop where
  booked : s.framesBooked slot t
  cradle : t.cradle = s.cradle
  lights : t.lights = s.lights
  meter : t.meter = s.meter
  left : t.walker.left.trigger = s.walker.left.trigger
  right : t.walker.right.trigger = s.walker.right.trigger
  cut : t.walker.sweep.counts.cut = s.walker.sweep.counts.cut
  completed : s.frames.completed <+: t.frames.completed
  whole : s.frames.whole → t.frames.whole
  kept : s.frames.whole → ∀ i ∈ s.frames.completed, t.frame i = s.frame i

section walks
variable {slot : Nat} {s t u : State}

theorem State.walks.trans (h : s.walks slot t) (g : t.walks slot u) : s.walks slot u where
  booked := h.booked.trans g.booked
  cradle := g.cradle.trans h.cradle
  lights := g.lights.trans h.lights
  meter := g.meter.trans h.meter
  left := g.left.trans h.left
  right := g.right.trans h.right
  cut := g.cut.trans h.cut
  completed := h.completed.trans g.completed
  whole hw := g.whole (h.whole hw)
  kept hw i hi := (g.kept (h.whole hw) i (h.completed.subset hi)).trans (h.kept hw i hi)

/-- A step of the walker's own record. -/
theorem State.walks.of_walker (hcustody : t.custody = s.custody) (hcradle : t.cradle = s.cradle)
    (hlights : t.lights = s.lights) (hmeter : t.meter = s.meter) (hframes : t.frames = s.frames)
    (hleft : t.walker.left.trigger = s.walker.left.trigger)
    (hright : t.walker.right.trigger = s.walker.right.trigger)
    (hcut : t.walker.sweep.counts.cut = s.walker.sweep.counts.cut) : s.walks slot t where
  booked := .of_custody hcustody
  cradle := hcradle
  lights := hlights
  meter := hmeter
  left := hleft
  right := hright
  cut := hcut
  completed := by rw [hframes]
  whole hw := by rwa [hframes]
  kept _ i _ := by rw [State.frame, hframes]; rfl

theorem State.walks.refl (s : State) : s.walks slot s := .of_walker rfl rfl rfl rfl rfl rfl rfl rfl

theorem State.onSweep_walks (f : Sweep → Sweep) (hf : ∀ w, (f w).counts.cut = w.counts.cut) (s : State) :
    s.walks slot (s.onSweep f) :=
  .of_walker rfl rfl rfl rfl rfl rfl rfl (hf _)

theorem State.toStage_walks (stage : SlotStage) (state : SweepState) (s : State) :
    s.walks slot (s.toStage stage state) :=
  .of_walker rfl rfl rfl rfl rfl rfl rfl rfl

theorem State.countStart_walks (lit : Bool) (s : State) : s.walks slot (s.countStart lit) := by
  unfold State.countStart
  split
  · exact .refl s
  · exact .of_walker rfl rfl rfl rfl rfl rfl rfl rfl

theorem State.onCamera_walks (camera : Camera) (f : CameraPort → CameraPort) (hf : ∀ p, (f p).trigger = p.trigger)
    (s : State) : s.walks slot (s.onCamera camera f) := by
  cases camera
  · exact .of_walker rfl rfl rfl rfl rfl (hf _) rfl rfl
  · exact .of_walker rfl rfl rfl rfl rfl rfl (hf _) rfl

theorem State.onEachCamera_walks (cameras : List Camera) (f : CameraPort → CameraPort)
    (hf : ∀ p, (f p).trigger = p.trigger) (s : State) : s.walks slot (s.onEachCamera cameras f) := by
  unfold State.onEachCamera
  induction cameras generalizing s with
  | nil => exact .refl s
  | cons c rest ih => exact (State.onCamera_walks c f hf s).trans (ih _)

/-- Nothing in COMPLETED is in FREE, in PLANNED or in the slot. -/
theorem Frames.whole_completed {q : Frames} (h : q.whole) {i : Nat} (hi : i ∈ q.completed) :
    i < 256 ∧ i ∉ q.free ∧ i ∉ q.planned ∧ i ∉ q.slot := by
  have hn := Frames.whole_nodup h
  simp only [List.nodup_append, List.mem_append] at hn
  obtain ⟨⟨⟨-, -, hs⟩, -, hc⟩, -⟩ := hn
  exact ⟨Frames.whole_lt h (by tauto), fun hf => hc i (by tauto) i hi rfl, fun hf => hc i (by tauto) i hi rfl,
    fun hf => hc i (by tauto) i hi rfl⟩

theorem State.fillSlot_walks (s : State) : s.walks slot s.fillSlot := by
  have hc : s.fillSlot.frames.completed = s.frames.completed := by
    unfold State.fillSlot
    repeat' split
    all_goals rfl
  have hp : s.fillSlot.frames.pool = s.frames.pool := by
    unfold State.fillSlot
    repeat' split
    all_goals rfl
  refine ⟨.of_custody (by simp), by simp, by simp, by simp, by simp, by simp, by simp, by rw [hc],
    State.fillSlot_whole s, fun _ i _ => ?_⟩
  simp only [State.frame, hp]

theorem State.completeSlot_walks (status : FrameStatus) (s : State) : s.walks slot (s.completeSlot status) := by
  refine ⟨.of_custody (by simp), by simp, by simp, by simp, by simp, by simp, by simp, ?_,
    State.completeSlot_whole status s, fun hw i hi => ?_⟩
  · simp [State.completeSlot]
  · obtain ⟨hlt, -, -, hs⟩ := Frames.whole_completed hw hi
    have := State.frame_onEach s.frames.slot (fun d => { d with status := status }) s i hlt (Frames.whole_apart hw).1
    rw [if_neg hs] at this
    exact this

theorem State.refuseSlot_walks (s : State) : s.walks slot s.refuseSlot :=
  (State.completeSlot_walks _ s).trans (.of_walker rfl rfl rfl rfl rfl rfl rfl rfl)

theorem State.divert_walks (s : State) : s.walks slot s.divert := by
  obtain ⟨heq, hframe⟩ := s.divert_eq
  have hwalker := congrArg State.walker heq
  have hcompleted := congrArg (fun t => t.frames.completed) heq
  simp only at hwalker hcompleted
  refine ⟨.of_custody (by simp), by simp, by simp, by simp, by rw [hwalker], by rw [hwalker], by rw [hwalker], ?_,
    State.divert_whole s, fun hw i hi => ?_⟩
  · rw [hcompleted]; exact ⟨_, rfl⟩
  · obtain ⟨hlt, -, hp, -⟩ := Frames.whole_completed hw hi
    rw [hframe (Frames.whole_apart hw).2.1 i hlt, if_neg hp]

/-- A take from FREE, the fields it writes aside (R130). -/
theorem State.takeFromFree_cons {index : Nat} {rest : List Nat} (h : s.frames.free = index :: rest)
    (volume : VolumeName) (opening : Nat) (camera : Camera) (face : Face) (entry : Nat) (e : PlanEntry) :
    ∃ g : Descriptor → Descriptor, s.takeFromFree volume opening camera face entry e =
      (((s.onFrame index g).onFrames fun q =>
        { q with free := rest, planned := q.planned ++ [index] }).bookFrame volume.slot face).onCounts fun c =>
        { c with built := count32 c.built 1 } :=
  ⟨_, by rw [State.takeFromFree, h]⟩

theorem State.takeFromFree_walks {volume : VolumeName} (hs : volume.slot < 8) (opening : Nat) (camera : Camera)
    (face : Face) (entry : Nat) (e : PlanEntry) (s : State) :
    s.walks volume.slot (s.takeFromFree volume opening camera face entry e) := by
  have hwhole := State.takeFromFree_whole volume opening camera face entry e s
  obtain ⟨-, -, hcradle, -⟩ := State.takeFromFree_captures volume opening camera face entry e s
  cases hfree : s.frames.free with
  | nil =>
    have hnone : s.takeFromFree volume opening camera face entry e = s := by rw [State.takeFromFree, hfree]
    rw [hnone]; exact .refl s
  | cons index rest =>
    obtain ⟨g, ht⟩ := State.takeFromFree_cons hfree volume opening camera face entry e
    rw [ht] at hwhole hcradle ⊢
    refine ⟨?_, hcradle, by simp, by simp, ?_, ?_, ?_, by simp [State.onFrame_holders], hwhole, fun hw i hi => ?_⟩
    · refine State.framesBooked.trans (.of_custody ?_) ((State.bookFrame_booked hs face _).trans (.of_custody rfl))
      simp
    · simp [State.onCounts, State.onSweep]
    · simp [State.onCounts, State.onSweep]
    · simp [State.onCounts, State.onSweep]
    · obtain ⟨hlt, hf, -, -⟩ := Frames.whole_completed hw hi
      have hne : i ∉ [index] := fun h => hf (by rw [hfree]; simp at h; simp [h])
      have := State.frame_onEach [index] g s i hlt (List.nodup_singleton _)
      rw [if_neg hne] at this
      simpa [State.frame, State.onEach] using this

end walks

end Sys2Proof.Machine
end

section
/-! PROOFS. The walker goes on over a face at its budget. -/

namespace Sys2Proof.Machine

theorem State.onEachCamera_sweep (cameras : List Camera) (f : CameraPort → CameraPort) (s : State) :
    (s.onEachCamera cameras f).walker.sweep = s.walker.sweep := by
  unfold State.onEachCamera
  induction cameras generalizing s with
  | nil => rfl
  | cons c rest ih => exact (ih _).trans (by cases c <;> rfl)

/-! ### The walker goes on while a visible face is at its budget -/

section goes
variable {slot : Nat} {s t : State}

theorem State.foldTake_walks {volume : VolumeName} (hs : volume.slot < 8) (n l entry : Nat) (e : PlanEntry)
    (cameras : List Camera) (s : State) :
    s.walks volume.slot
      (cameras.foldl (fun s camera => s.takeFromFree volume n camera (faceSeen l n camera) entry e) s) := by
  induction cameras generalizing s with
  | nil => exact .refl s
  | cons c rest ih => exact (State.takeFromFree_walks hs n c _ entry e s).trans (ih _)

theorem State.buildEntry_walks (hm : s.mountedSlot = some slot) (index : Nat) : s.walks slot (s.buildEntry index) := by
  unfold State.buildEntry
  split
  · next v _ hv _ =>
    have hslot : v.slot = slot := by
      simp only [State.mountedVolume, hm, Option.map_some, Option.some.injEq] at hv
      rw [← hv]
    subst hslot
    exact State.foldTake_walks (State.mountedSlot_some.1 hm).1 _ _ _ _ _ _
  · exact .refl s

/-- A build moves the sweep neither into a state nor out of one. -/
theorem State.takeFromFree_sweepState (volume : VolumeName) (opening : Nat) (camera : Camera) (face : Face)
    (entry : Nat) (e : PlanEntry) (s : State) :
    (s.takeFromFree volume opening camera face entry e).walker.sweep.state = s.walker.sweep.state := by
  cases hfree : s.frames.free with
  | nil => rw [State.takeFromFree, hfree]
  | cons index rest =>
    obtain ⟨g, ht⟩ := State.takeFromFree_cons hfree volume opening camera face entry e
    rw [ht]
    simp [State.onCounts, State.onSweep, State.onFrame]

theorem State.buildEntry_sweepState (index : Nat) (s : State) :
    (s.buildEntry index).walker.sweep.state = s.walker.sweep.state := by
  have fold (v : VolumeName) (n l : Nat) (e : PlanEntry) (cameras : List Camera) (s : State) :
      (cameras.foldl (fun s camera => s.takeFromFree v n camera (faceSeen l n camera) index e) s).walker.sweep.state =
        s.walker.sweep.state := by
    induction cameras generalizing s with
    | nil => rfl
    | cons c rest ih => exact (ih _).trans (State.takeFromFree_sweepState ..)
  unfold State.buildEntry
  split
  · exact fold ..
  · rfl

/-- The sweep of `t` goes on with nothing posted, or it has ended with SWEEP ENDED posted (R158). -/
def State.walkerEnds (s t : State) : Prop :=
  (t.outbox = s.outbox ∧ t.walker.sweep.state ≠ .idle) ∨
    ∃ reason, t.outbox = s.outbox ++ [t.walker.sweep.endNotice reason] ∧ t.walker.sweep.state = .idle ∧
      t.walker.sweep.lastEnd = some reason

/-- An active sweep over a visible face at its budget, its volume in the slot. -/
def State.spent (slot : Nat) (s : State) : Prop :=
  s.mountedSlot = some slot ∧ s.faceAtBudget ≠ none ∧ s.walker.sweep.state ≠ .idle

/-- The way of a sweep over such a face: no light, and at most one end. -/
def State.goesDark (slot : Nat) (s t : State) : Prop := s.walks slot t ∧ s.walkerEnds t

theorem State.spent.walks (h : s.spent slot) (hw : s.walks slot t) (ht : t.walker.sweep.state ≠ .idle) :
    t.spent slot := by
  obtain ⟨hm, hf, -⟩ := h
  exact ⟨hw.booked.mountedSlot.trans hm, by rwa [(hw.booked.faceAtBudget hw.cradle hm).2], ht⟩

/-- A step that posts nothing, before the rest of the way. -/
theorem State.goesDark.after {u : State} (hw : s.walks slot t) (ho : t.outbox = s.outbox) (h : t.goesDark slot u) :
    s.goesDark slot u := by
  obtain ⟨hwalks, hends⟩ := h
  refine ⟨hw.trans hwalks, ?_⟩
  rwa [State.walkerEnds, ho] at hends

/-- The light is refused over a face at its budget (R92). -/
theorem State.spent.refused (h : s.spent slot) : s.lightRefusal ≠ none := by
  obtain ⟨-, hf, -⟩ := h
  unfold State.lightRefusal
  repeat' split
  all_goals simp [hf] at *

theorem State.endSweep_goesDark (reason : SweepEnd) (hr : reason.tears = false) (s : State) :
    s.goesDark slot (s.endSweep reason) := by
  have hends := s.divert_walks (slot := slot)
  have ho : s.divert.outbox = s.outbox := by simp
  unfold State.endSweep
  simp only [hr, Bool.false_eq_true, if_false]
  refine ⟨hends.trans (.of_walker rfl rfl rfl rfl rfl rfl rfl rfl), .inr ⟨reason, ?_, rfl, rfl⟩⟩
  exact congrArg (· ++ [_]) ho

theorem State.runOut_goesDark (reason : SweepEnd) (hr : reason.tears = false) (s : State) :
    s.goesDark slot (s.runOut reason) := by
  unfold State.runOut
  split
  · exact State.endSweep_goesDark _ rfl s
  · exact State.endSweep_goesDark _ hr s

variable {start : State → State}

theorem State.nextBuild_goesDark (hstart : ∀ s : State, s.spent slot → s.goesDark slot (start s)) (h : s.spent slot) :
    s.goesDark slot (s.nextBuild start) := by
  have hbuild := State.buildEntry_walks h.1 s.walker.sweep.nextEntry
  unfold State.nextBuild
  dsimp only
  split
  · have hw := hbuild.trans (State.onSweep_walks (fun w' =>
      { w' with
        buildPending := false
        nextEntry := if s.walker.sweep.nextEntry + 1 < s.walker.planLength then s.walker.sweep.nextEntry + 1 else 0 })
      (fun _ => rfl) _)
    refine .after hw (by simp) (hstart _ (h.walks hw ?_))
    exact (State.buildEntry_sweepState s.walker.sweep.nextEntry s).trans_ne h.2.2
  · exact ⟨.of_walker rfl rfl rfl rfl rfl rfl rfl rfl, .inl ⟨by simp, nofun⟩⟩

theorem State.buildOrEnd_goesDark (hstart : ∀ s : State, s.spent slot → s.goesDark slot (start s)) (h : s.spent slot) :
    s.goesDark slot (s.buildOrEnd start) := by
  unfold State.buildOrEnd
  split
  · exact State.runOut_goesDark _ rfl s
  · exact State.nextBuild_goesDark hstart h

theorem State.countStart_sweepState (lit : Bool) (s : State) :
    (s.countStart lit).walker.sweep.state = s.walker.sweep.state := by
  unfold State.countStart
  split <;> rfl

theorem State.goOnByMode_goesDark (hstart : ∀ s : State, s.spent slot → s.goesDark slot (start s)) (h : s.spent slot)
    (lit : Bool) : s.goesDark slot (s.goOnByMode start lit) := by
  have hw : s.walks slot (s.countStart lit) := State.countStart_walks lit s
  have ho : (s.countStart lit).outbox = s.outbox := by simp
  have hspent := h.walks hw (by rw [State.countStart_sweepState]; exact h.2.2)
  unfold State.goOnByMode
  split
  · split
    · exact State.runOut_goesDark _ rfl s
    · exact hstart s h
  · split
    · exact .after hw ho (State.endSweep_goesDark _ rfl _)
    · exact .after hw ho (State.buildOrEnd_goesDark hstart hspent)
  · exact .after hw ho (State.buildOrEnd_goesDark hstart hspent)

theorem State.goOn_goesDark (hstart : ∀ s : State, s.spent slot → s.goesDark slot (start s)) (h : s.spent slot)
    (lit : Bool) : s.goesDark slot (s.goOn start lit) := by
  unfold State.goOn
  split
  · exact State.endSweep_goesDark _ rfl s
  · have hw : s.walks slot (s.onSweep fun w => { w with state := .walking, stage := none }) :=
      .of_walker rfl rfl rfl rfl rfl rfl rfl rfl
    exact .after hw rfl (State.goOnByMode_goesDark hstart (h.walks hw nofun) lit)

variable {next : State → State}

theorem State.refuseSlot_sweepState (s : State) : s.refuseSlot.walker.sweep.state = s.walker.sweep.state := by
  simp [State.refuseSlot, State.onCounts, State.onSweep]

/-- What a refused slot is followed by. -/
theorem State.refuseSlot_goesDark (hnext : ∀ s : State, s.spent slot → s.goesDark slot (next s)) (h : s.spent slot) :
    s.goesDark slot (next s.refuseSlot) :=
  .after (State.refuseSlot_walks s) (by simp [State.refuseSlot])
    (hnext _ (h.walks (State.refuseSlot_walks s) (by rw [State.refuseSlot_sweepState]; exact h.2.2)))

theorem State.requestLight_goesDark (hnext : ∀ s : State, s.spent slot → s.goesDark slot (next s))
    (h : s.spent slot) : s.goesDark slot (s.requestLight next) := by
  have hw : s.walks slot (s.onCameras fun p => { p with readyTimer := none }) :=
    .of_walker rfl rfl rfl rfl rfl rfl rfl rfl
  have hspent := h.walks hw h.2.2
  unfold State.requestLight
  dsimp only
  split
  · exact ⟨hw, .inl ⟨rfl, h.2.2⟩⟩
  · rw [if_neg hspent.refused]
    exact .after hw rfl (State.refuseSlot_goesDark hnext hspent)

/-- The slot stage is left in a sweep that goes on. -/
theorem State.toStage_sweepState (stage : SlotStage) (state : SweepState) (hstate : state ≠ .idle) (s : State) :
    (s.toStage stage state).walker.sweep.state ≠ .idle := by
  simp only [State.toStage, State.onSweep, State.onWalker_walker]
  split <;> simp [hstate]

theorem State.awaitCameras_goesDark (hnext : ∀ s : State, s.spent slot → s.goesDark slot (next s))
    (h : s.spent slot) : s.goesDark slot (s.awaitCameras next) := by
  have hw : s.walks slot (s.toStage .waitCamera .waitCamera) := State.toStage_walks _ _ s
  have hs := State.toStage_sweepState .waitCamera .waitCamera nofun s
  unfold State.awaitCameras
  dsimp only
  split
  · exact .after hw rfl (State.requestLight_goesDark hnext (h.walks hw hs))
  · refine ⟨hw.trans (State.onEachCamera_walks _ _ (by intro; rfl) _), .inl ⟨by simp, ?_⟩⟩
    rwa [State.onEachCamera_sweep]

theorem State.startExposure_goesDark (bound : Nat) (h : s.spent slot) : s.goesDark slot (s.startExposure bound) := by
  induction bound generalizing s with
  | zero => exact ⟨.refl s, .inl ⟨rfl, h.2.2⟩⟩
  | succ bound ih =>
    have hw : s.walks slot s.fillSlot := State.fillSlot_walks s
    have hs : s.fillSlot.walker.sweep.state ≠ .idle := by simpa using h.2.2
    have ho : s.fillSlot.outbox = s.outbox := by simp
    have hspent := h.walks hw hs
    have hnext (s : State) (h : s.spent slot) := State.goOn_goesDark (fun _ h => ih h) h false
    unfold State.startExposure
    dsimp only
    split
    · exact ⟨hw, .inl ⟨ho, hs⟩⟩
    · split
      · exact .after hw ho (State.awaitCameras_goesDark hnext hspent)
      · exact .after hw ho (State.refuseSlot_goesDark hnext hspent)

/-- Over a face at its budget a sweep whose slot has emptied goes on without a light, or ends (R155, R156). -/
theorem State.slotEmptied_goesDark (h : s.spent slot) (lit : Bool) : s.goesDark slot (s.slotEmptied lit) :=
  State.goOn_goesDark (fun _ h => State.startExposure_goesDark _ h) h lit

end goes

end Sys2Proof.Machine
end

section
/-! PROOFS. BUDGET REACHED, the end of a preview and the CUT. -/

namespace Sys2Proof.Machine

/-! ### BUDGET REACHED for the faces of a list -/

/-- The notices BUDGET REACHED of a list of faces (R113). -/
def State.budgetNotices (slot : Nat) (faces : List VisibleFace) (source : BudgetSource) (owner : LightOwner)
    (ending : LightEnd) (s : State) : List Notice :=
  faces.map fun v =>
    .budgetReached slot (s.entry slot).generation v.leaf v.side (s.custody.doseOf (s.entry slot) v)
      (s.entry slot).budget source owner ending

theorem State.postBudget_eq (slot : Nat) (faces : List VisibleFace) (source : BudgetSource) (owner : LightOwner)
    (ending : LightEnd) (s : State) :
    s.postBudget slot faces source owner ending =
      s.onOutbox fun out => out ++ s.budgetNotices slot faces source owner ending := by
  have fold (e : CustodyEntry) (s : State) :
      faces.foldl (fun s v => s.post
        (.budgetReached slot e.generation v.leaf v.side (s.custody.doseOf e v) e.budget source owner ending)) s =
        s.onOutbox fun out => out ++ faces.map fun v =>
          .budgetReached slot e.generation v.leaf v.side (s.custody.doseOf e v) e.budget source owner ending := by
    induction faces generalizing s with
    | nil => simp [State.onOutbox]
    | cons v rest ih => rw [List.foldl_cons, ih]; simp [State.post, State.onOutbox]
  exact fold _ s

/-! ### A lit preview ends -/

/-- The light of a preview is bank 0, so the end of the preview puts that bank out (R96). -/
theorem State.endPreview_eq {s : State} (cause : PreviewEnd)
    (h : s.lights.preview ≠ none → ∃ level owner, litBank s.lights.banks = some (0, level, owner)) :
    s.endPreview cause = s.previewEnded cause := by
  unfold State.endPreview State.previewEnded
  split
  · rfl
  · next hp =>
    obtain ⟨level, owner, hl⟩ := h hp
    rw [State.putOut, hl]
    rfl

theorem State.LightSafe.preview_bank {s : State} (h : s.LightSafe) (hp : s.lights.preview ≠ none) :
    ∃ level owner, litBank s.lights.banks = some (0, level, owner) := by
  obtain ⟨level, hl⟩ := Option.ne_none_iff_exists'.1 hp
  exact ⟨level, .preview, litBank_of_one h.one (by omega) ((h.preview.1 level).1 hl)⟩

theorem State.previewEnded_onOutbox (cause : PreviewEnd) (f : List Notice → List Notice) (s : State) :
    (s.onOutbox f).previewEnded cause = (s.previewEnded cause).onOutbox f := by
  unfold State.previewEnded
  rw [State.onOutbox_lights]
  split <;> rfl

/-! ### The exposure in the slot is CUT -/

/-- The station with the exposure in its slot CUT, before the walker goes on (R154). -/
def State.slotCut (s : State) : State :=
  (s.handMeasured.putOut.lowerTriggers.completeSlot .cut).onCounts fun c =>
    { c with cut := count32 c.cut s.handMeasured.putOut.lowerTriggers.frames.slot.length }

section slotCut
variable (s : State)

theorem State.slotCut_keeps :
    s.slotCut.custody = s.custody ∧ s.slotCut.cradle = s.cradle ∧ s.slotCut.outbox = s.outbox := by
  simp [State.slotCut]

theorem State.slotCut_slot : s.handMeasured.putOut.lowerTriggers.frames.slot = s.frames.slot := by
  simp [State.handMeasured]

theorem State.slotCut_walker :
    s.slotCut.walker.left.trigger = false ∧ s.slotCut.walker.right.trigger = false ∧
      s.slotCut.walker.sweep.state = s.walker.sweep.state ∧
      s.slotCut.walker.sweep.counts.cut = min 4294967295 (s.walker.sweep.counts.cut + s.frames.slot.length) := by
  rw [State.slotCut, State.slotCut_slot]
  simp [State.onCounts, State.onSweep, State.lowerTriggers, State.onCameras, count32, satAdd]

theorem State.slotCut_completed : s.slotCut.frames.completed = s.frames.completed ++ s.frames.slot := by
  simp [State.slotCut, State.completeSlot, State.handMeasured]

theorem State.slotCut_whole (h : s.frames.whole) : s.slotCut.frames.whole := by
  have hm := (State.handMeasured_whole s).2 h
  simp only [State.slotCut, State.onCounts_only]
  exact State.completeSlot_whole _ _ (by simpa using hm)

/-- The descriptors of the slot are CUT and keep what was measured (R116, R154). -/
theorem State.slotCut_frame (h : s.frames.whole) (i : Nat) (hi : i ∈ s.frames.slot) :
    s.slotCut.frame i = { s.frame i with status := .cut, measured := s.measuredLight } := by
  obtain ⟨hn, -, -, hlt⟩ := Frames.whole_apart h
  have hcut := State.frame_onEach s.frames.slot (fun d => { d with status := .cut })
    s.handMeasured.putOut.lowerTriggers i (hlt i (.inl hi)) hn
  have hmeasured := State.frame_onEach s.frames.slot
    (fun d => { d with measured := s.meter.exposure.bind (·.measured) }) s i (hlt i (.inl hi)) hn
  rw [if_pos hi] at hcut hmeasured
  have hput : s.handMeasured.putOut.lowerTriggers.frame i = s.handMeasured.frame i := by simp [State.frame]
  have hslot : s.slotCut.frame i = (s.handMeasured.putOut.lowerTriggers.onEach s.frames.slot fun d =>
      { d with status := .cut }).frame i := by
    rw [← State.slotCut_slot]; rfl
  rw [hslot, hcut, hput, State.handMeasured, hmeasured]
  rfl

/-- A put-out of a lit bank leaves metering IDLE and no irradiance (R95, R110). -/
theorem State.putOut_meter {s : State} (h : s.lightOwner ≠ none) :
    s.putOut.meter.running = none ∧ s.putOut.meter.irradiance = 0 := by
  unfold State.putOut
  split
  · next hn => simp [State.lightOwner, hn] at h
  · exact ⟨rfl, rfl⟩

theorem State.slotCut_light (h1 : s.lights.oneLit) (h : s.lightOwner ≠ none) :
    s.slotCut.lights.dark ∧ s.slotCut.meter.running = none ∧ s.slotCut.meter.irradiance = 0 := by
  have ho : s.handMeasured.lightOwner ≠ none := by simpa [State.lightOwner] using h
  have hd : s.handMeasured.putOut.lights.dark := State.putOut_dark _ (by simpa using h1)
  obtain ⟨hr, hi⟩ := State.putOut_meter ho
  simp only [State.slotCut, State.onCounts_only, State.completeSlot_only, State.lowerTriggers_only]
  exact ⟨hd, hr, hi⟩

end slotCut

/-- Over a face at its budget the walker goes on from a CUT with no light (R154). -/
theorem State.spent.cut {slot : Nat} {s : State} (h : s.spent slot) : s.slotCut.goesDark slot s.cutExposure := by
  obtain ⟨hcustody, hcradle, -⟩ := s.slotCut_keeps
  obtain ⟨-, -, hstate, -⟩ := s.slotCut_walker
  obtain ⟨hm, hf, hs⟩ := h
  have hb : s.framesBooked slot s.slotCut := .of_custody hcustody
  refine State.slotEmptied_goesDark ⟨hb.mountedSlot.trans hm, ?_, by rwa [hstate]⟩ true
  rwa [(hb.faceAtBudget hcradle hm).2]

/-- The blocks that such a CUT and the way of the walker leave. -/
theorem State.spent.cut_blocks {slot : Nat} {s u : State} (h : s.spent slot) (h1 : s.lights.oneLit)
    (hl : s.lightOwner ≠ none) (hu : s.cutExposure.sameBlocks u) :
    u.lights.dark ∧ u.meter.running = none ∧ u.meter.irradiance = 0 ∧ s.framesBooked slot u ∧ u.sameButCapture s ∧
      s.frames.completed ++ s.frames.slot <+: u.frames.completed ∧
      (s.frames.whole → ∀ i ∈ s.frames.slot,
        u.frame i = { s.frame i with status := .cut, measured := s.measuredLight }) ∧
      u.walker.sweep.counts.cut = min 4294967295 (s.walker.sweep.counts.cut + s.frames.slot.length) ∧
      u.walker.left.trigger = false ∧ u.walker.right.trigger = false := by
  obtain ⟨hwalks, -⟩ := h.cut
  obtain ⟨hcustody, -⟩ := s.slotCut_keeps
  obtain ⟨hleft, hright, -, hcut⟩ := s.slotCut_walker
  obtain ⟨hdark, hrunning, hirradiance⟩ := s.slotCut_light h1 hl
  obtain ⟨hstation, hsettings, hcradle, hgauge, hguards, -, hpending, -⟩ := s.cutExposure_captures
  refine ⟨?_, ?_, ?_, ?_, ?_, ?_, fun hwhole i hi => ?_, ?_, ?_, ?_⟩
  · rw [hu.lights, hwalks.lights]; exact hdark
  · rw [hu.meter, hwalks.meter]; exact hrunning
  · rw [hu.meter, hwalks.meter]; exact hirradiance
  · exact (State.framesBooked.of_custody hcustody).trans (hwalks.booked.trans (.of_custody hu.custody))
  · exact ⟨(hu.station.trans hstation).symm, (hu.settings.trans hsettings).symm, (hu.cradle.trans hcradle).symm,
      (hu.gauge.trans hgauge).symm, (hu.guards.trans hguards).symm, (hu.pending.trans hpending).symm⟩
  · rw [hu.frames, ← s.slotCut_completed]; exact hwalks.completed
  · have hkept := hwalks.kept (s.slotCut_whole hwhole) i (by rw [s.slotCut_completed]; simp [hi])
    rw [State.frame, hu.frames]
    exact hkept.trans (s.slotCut_frame hwhole i hi)
  · rw [hu.walker, hwalks.cut, hcut]
  · rw [hu.walker, hwalks.left]; exact hleft
  · rw [hu.walker, hwalks.right]; exact hright

end Sys2Proof.Machine
end

section
/-! PROOFS. SET BUDGET. -/

namespace Sys2Proof.Machine

/-- An answer with an effect that posts a list of notices and moves no descriptor. -/
theorem answersWith_announces {c : Instr} {o : Origin} {take : State → Served} {s : State} {result : Result}
    {body : List Byte} {effect : State → State} {notices : List Notice} (h : s.accepts c o)
    (he : exec c s = request c o take s)
    (ht : take (s.heard o) = ⟨(effect (s.heard o)).onOutbox fun _ => notices, result, body⟩)
    (hq : (effect (s.heard o)).outbox = []) (hf : (effect (s.heard o)).frames = s.frames) :
    s.answersWith c o result body effect notices := by
  rw [State.answersWith, he]
  exact request_announces c o take s _ notices result body h ht hq (by rw [hf]; exact id)

/-! ### The face budget of an entry replaced -/

section withBudget
variable {slot faceBudget : Nat} {s : State}

theorem CustodyEntry.withBudget_budget {e : CustodyEntry} (h : e.clearance ≠ none) :
    (e.withBudget faceBudget).budget = faceBudget := by
  obtain ⟨k, hk⟩ := Option.ne_none_iff_exists'.1 h
  simp [CustodyEntry.withBudget, CustodyEntry.budget, hk]

theorem State.entry_withBudget (hs : slot < 8) :
    (s.onEntry slot (CustodyEntry.withBudget faceBudget)).entry slot = (s.entry slot).withBudget faceBudget := by
  rw [State.entry_onEntry _ _ _ _ hs, if_pos rfl]

theorem State.budget_withBudget (hs : slot < 8) (hk : (s.entry slot).clearance ≠ none) :
    ((s.onEntry slot (CustodyEntry.withBudget faceBudget)).entry slot).budget = faceBudget := by
  rw [State.entry_withBudget hs, CustodyEntry.withBudget_budget hk]

theorem State.withBudget_mountedSlot (slot : Nat) :
    (s.onEntry slot (CustodyEntry.withBudget faceBudget)).mountedSlot = s.mountedSlot := by
  refine State.mountedSlot_congr fun i hi => ?_
  rw [State.entry_onEntry _ _ _ _ hi]
  split <;> rfl

theorem State.withBudget_visible (slot : Nat) :
    (s.onEntry slot (CustodyEntry.withBudget faceBudget)).visible = s.visible := by
  have hl (i : Nat) (hi : i < 8) : ((s.onEntry slot (CustodyEntry.withBudget faceBudget)).entry i).leafCount =
      (s.entry i).leafCount := by
    rw [State.entry_onEntry _ _ _ _ hi]
    split <;> rfl
  simp only [State.visible, State.withBudget_mountedSlot]
  cases hm : s.mountedSlot with
  | none => rfl
  | some i => simp only [hl i (State.mountedSlot_some.1 hm).1, State.onEntry_cradle]

theorem State.withBudget_dose (hs : slot < 8) (v : VisibleFace) :
    (s.onEntry slot (CustodyEntry.withBudget faceBudget)).custody.doseOf
      ((s.onEntry slot (CustodyEntry.withBudget faceBudget)).entry slot) v = s.custody.doseOf (s.entry slot) v := by
  rw [State.entry_withBudget hs]
  rfl

/-- The visible faces at or above a budget (R120). -/
def State.reached (slot faceBudget : Nat) (s : State) : List VisibleFace :=
  s.visible.filter fun v => decide (faceBudget ≤ s.custody.doseOf (s.entry slot) v)

/-- The faces that the Dose Meter finds at or above the new budget. -/
theorem State.withBudget_reached (hs : slot < 8) (hk : (s.entry slot).clearance ≠ none) :
    let t := s.onEntry slot (CustodyEntry.withBudget faceBudget)
    t.reached slot (t.entry slot).budget = s.reached slot faceBudget := by
  intro t
  have hb : (t.entry slot).budget = faceBudget := State.budget_withBudget hs hk
  have hv : t.visible = s.visible := State.withBudget_visible slot
  have hd (v : VisibleFace) : t.custody.doseOf (t.entry slot) v = s.custody.doseOf (s.entry slot) v :=
    State.withBudget_dose hs v
  simp only [State.reached, hb, hv, hd]

theorem State.withBudget_notices (hs : slot < 8) (hk : (s.entry slot).clearance ≠ none) (faces : List VisibleFace)
    (owner : LightOwner) (ending : LightEnd) :
    (s.onEntry slot (CustodyEntry.withBudget faceBudget)).budgetNotices slot faces .setBudget owner ending =
      faces.map fun v => .budgetReached slot (s.entry slot).generation v.leaf v.side
        (s.custody.doseOf (s.entry slot) v) faceBudget .setBudget owner ending := by
  simp only [State.budgetNotices, State.withBudget_dose hs, State.budget_withBudget hs hk]
  simp only [State.entry_withBudget hs]
  rfl

end withBudget

/-! ### The Dose Meter compares (R120) -/

section changed
variable {slot : Nat} {s : State}

theorem State.budgetChanged_dark (h : s.lightOwner = none) : s.budgetChanged slot = s := by
  rw [State.budgetChanged, h]

theorem State.budgetChanged_below (h : s.reached slot (s.entry slot).budget = []) : s.budgetChanged slot = s := by
  unfold State.budgetChanged
  dsimp only
  split
  · rfl
  · exact if_pos h
  · exact if_pos h

theorem State.previewEnded_keeps (cause : PreviewEnd) (s : State) :
    (s.previewEnded cause).outbox = s.outbox ∧ (s.previewEnded cause).frames = s.frames := by
  unfold State.previewEnded
  split <;> exact ⟨rfl, rfl⟩

theorem State.budgetChanged_preview (ho : s.lightOwner = some .preview)
    (hlit : s.lights.preview ≠ none → ∃ level owner, litBank s.lights.banks = some (0, level, owner))
    (h : s.reached slot (s.entry slot).budget ≠ []) :
    s.budgetChanged slot = (s.previewEnded .budget).onOutbox fun out =>
      out ++ s.budgetNotices slot (s.reached slot (s.entry slot).budget) .setBudget .preview .budget := by
  rw [State.budgetChanged, ho, ← State.previewEnded_onOutbox]
  refine (if_neg h).trans ?_
  rw [State.postBudget_eq]
  exact State.endPreview_eq _ hlit

theorem State.budgetChanged_exposure (ho : s.lightOwner = some .exposure)
    (h : s.reached slot (s.entry slot).budget ≠ []) :
    s.budgetChanged slot = (s.onOutbox fun out =>
      out ++ s.budgetNotices slot (s.reached slot (s.entry slot).budget) .setBudget .exposure .cut).cutExposure := by
  rw [State.budgetChanged, ho, ← State.postBudget_eq]
  exact if_neg h

/-- A face that was reached stands at the budget. -/
theorem State.faceAtBudget_of_reached (hm : s.mountedSlot = some slot)
    (h : s.reached slot (s.entry slot).budget ≠ []) : s.faceAtBudget ≠ none := by
  simp only [State.faceAtBudget, hm, ne_eq, List.find?_eq_none, decide_eq_true_eq]
  simpa [State.reached, List.filter_eq_nil_iff] using h

end changed

/-! ### The notices of a sweep that goes on or ends -/

section notices
variable {s c t u : State}

theorem State.captureNotices_goes (hs : s.walker.sweep.state ≠ .idle) (hu : u.walker.sweep.state ≠ .idle) :
    s.captureNotices u = s.framesWaiting u := by
  unfold State.captureNotices
  split
  · next h => exact absurd h hs
  · next hstate _ _ => exact absurd hstate hu
  · exact List.append_nil _

theorem State.captureNotices_ended (hs : s.walker.sweep.state ≠ .idle) (hu : u.walker.sweep.state = .idle)
    {reason : SweepEnd} (hl : u.walker.sweep.lastEnd = some reason) :
    s.captureNotices u = s.framesWaiting u ++ [u.walker.sweep.endNotice reason] := by
  unfold State.captureNotices
  rw [hu, hl]
  split
  · next h => exact absurd h hs
  · next hlast _ => cases hlast; rfl
  · next h => exact (h _ rfl rfl).elim

/-- What the walker posts on its way is what the event owes the capture link (R134, R158). -/
theorem State.walkerEnds.captureNotices (hs : s.walker.sweep.state ≠ .idle) (h : c.walkerEnds t)
    (hu : t.sameBlocks u) :
    inOrderOfKind (t.outbox ++ s.framesWaiting t) = inOrderOfKind (c.outbox ++ s.captureNotices u) := by
  have hwaiting : s.framesWaiting u = s.framesWaiting t := by rw [State.framesWaiting, hu.frames]; rfl
  rcases h with ⟨ho, hstate⟩ | ⟨reason, ho, hstate, hlast⟩
  · rw [State.captureNotices_goes hs (by rwa [hu.walker]), ho, hwaiting]
  · rw [State.captureNotices_ended hs (by rwa [hu.walker]) (by rwa [hu.walker]), ho, hwaiting, hu.walker]
    have hranks : ∀ n ∈ [t.walker.sweep.endNotice reason], ∀ m ∈ s.framesWaiting t, n.rank ≠ m.rank := by
      intro n hn m hm
      rw [State.framesWaiting_rank _ _ _ hm, List.mem_singleton.1 hn]
      exact (by decide : 11 ≠ 10)
    simpa using inOrderOfKind_swap hranks c.outbox []

end notices

/-- Settles O23: the checks, then the one field of the entry, and over a face at the new budget the light ended. -/
theorem budgetIsReplaced : Obligations.BudgetIsReplaced := by
  unfold Obligations.BudgetIsReplaced
  intro o slot generation faceBudget s c e w replaced reached posted h
  have hs : slot < 8 := by
    have hrange := h.2.2.2
    simp only [c, linkRangeOk, slotGenOk, within, Bool.and_eq_true, decide_eq_true_eq] at hrange
    omega
  let t := (s.heard o).onEntry slot replaced
  have hpast (hg : e.generation = generation) (hf : e.state ≠ .free) (hk : e.clearance ≠ none) :
      takeSetBudget slot generation faceBudget (s.heard o) =
        okay (be 4 faceBudget) (if e.state = .mounted then t.budgetChanged slot else t) :=
    (if_neg (not_not.2 hg)).trans ((if_neg hf).trans (if_neg hk))
  have hfaces (hk : e.clearance ≠ none) : t.reached slot (t.entry slot).budget = reached :=
    State.withBudget_reached (s := s.heard o) hs hk
  have hposted (hk : e.clearance ≠ none) (owner : LightOwner) (ending : LightEnd) :
      t.budgetNotices slot reached .setBudget owner ending = posted owner ending :=
    State.withBudget_notices (s := s.heard o) hs hk reached owner ending
  refine ⟨fun hg => ?_, fun hg hf => ?_, fun hg hf hk => ?_, fun hg hf hk hquiet => ?_, fun hg hm hk hsafe ho hr => ?_,
    fun hg hm hk hsafe ho hr => ?_⟩
  · exact onlyAnswers_of_take h rfl (if_pos hg)
  · exact onlyAnswers_of_take h rfl ((if_neg (not_not.2 hg)).trans (if_pos hf))
  · exact onlyAnswers_of_take h rfl ((if_neg (not_not.2 hg)).trans ((if_neg hf).trans (if_pos hk)))
  · have hsame : (if e.state = .mounted then t.budgetChanged slot else t) = t := by
      rcases hquiet with hstaged | hdark | hnone
      · exact if_neg (by rw [hstaged]; nofun)
      · rw [State.budgetChanged_dark (s := t) (State.lightOwner_dark hdark), ite_self]
      · rw [State.budgetChanged_below ((hfaces hk).trans hnone), ite_self]
    exact answersWith_quiet h rfl ((hpast hg hf hk).trans (by rw [hsame]; rfl)) h.1 rfl
  · obtain ⟨-, hmounted, -⟩ := State.mountedSlot_some.1 hm
    have hchanged := State.budgetChanged_preview (s := t) ho hsafe.preview_bank ((hfaces hk).trans_ne hr)
    rw [hfaces hk, hposted hk] at hchanged
    obtain ⟨hout, hframes⟩ := t.previewEnded_keeps .budget
    have hempty : (t.previewEnded .budget).outbox = [] := hout.trans h.1
    refine answersWith_announces h rfl ((hpast hg (by rw [hmounted]; nofun) hk).trans ?_) hempty hframes
    rw [if_pos hmounted, hchanged, State.onOutbox, hempty]
    rfl
  · obtain ⟨-, hmounted, -⟩ := State.mountedSlot_some.1 hm
    have hchanged := State.budgetChanged_exposure (s := t) ho ((hfaces hk).trans_ne hr)
    rw [hfaces hk, hposted hk] at hchanged
    have ht := (hpast hg (by rw [hmounted]; nofun) hk).trans (by rw [if_pos hmounted, hchanged])
    let p := t.onOutbox fun out => out ++ posted .exposure .cut
    have hactive : s.walker.sweep.state ≠ .idle := (hsafe.exposing ho).1
    have htm : t.mountedSlot = some slot := (State.withBudget_mountedSlot (s := s.heard o) slot).trans hm
    have hspent : p.spent slot :=
      ⟨htm, State.faceAtBudget_of_reached htm ((hfaces hk).trans_ne hr), hactive⟩
    obtain ⟨-, -, -, -, -, hlinks, -⟩ := p.cutExposure_captures
    obtain ⟨u, hu, hreq, hsame, hnotes⟩ := request_outcome h ht rfl hlinks
    obtain ⟨hdark, hrunning, hirradiance, hb, hblocks, hcompleted, hframes, hcut, hleft, hright⟩ :=
      hspent.cut_blocks hsafe.one (ho.trans_ne nofun) hsame
    have hposts : inOrderOfKind (p.cutExposure.outbox ++ s.framesWaiting p.cutExposure) =
        inOrderOfKind (posted .exposure .cut ++ s.captureNotices u) := by
      obtain ⟨-, -, hout⟩ := p.slotCut_keeps
      obtain ⟨-, hends⟩ := hspent.cut
      rw [hends.captureNotices hactive hsame, hout]
      exact congrArg (fun out => inOrderOfKind (out ++ posted .exposure .cut ++ s.captureNotices u)) h.1
    refine ⟨u, hu, hdark, hrunning, hirradiance, hreq, ?_, hblocks, fun i hi hne => ?_, fun v _ => ?_, hcompleted,
      hframes, hcut, hleft, hright, hnotes.congr hposts⟩
    · exact hb.budget.trans (State.budget_withBudget (s := s.heard o) hs hk)
    · exact (hb.others i hi hne).trans ((State.entry_onEntry _ _ _ _ hi).trans (if_neg hne.symm))
    · exact (hb.doseOf v).trans (State.withBudget_dose (s := s.heard o) hs v)

end Sys2Proof.Machine
end

section
/-! PROOFS. The extents of the custody table: what a law of the leaf store rests on. -/

namespace Sys2Proof.Machine

/-! ### Steps that move no extent -/

/-- What the leaf store knows of an entry: whether it is FREE, the base of its extent and the number of its records. -/
def CustodyEntry.extent (e : CustodyEntry) : Bool × Nat × Nat := (e.state == .free, e.extentBase, e.leafCount)

theorem CustodyEntry.extent_eq {a b : CustodyEntry} : a.extent = b.extent ↔
    (a.state = .free ↔ b.state = .free) ∧ a.extentBase = b.extentBase ∧ a.leafCount = b.leafCount := by
  rw [CustodyEntry.extent, CustodyEntry.extent, Prod.mk.injEq, Prod.mk.injEq, Bool.eq_iff_iff, beq_iff_eq, beq_iff_eq]

/-- Every entry keeps its extent, and the records in use are those that were. -/
structure State.sameExtents (s t : State) : Prop where
  extent : ∀ i, i < 8 → (t.entry i).extent = (s.entry i).extent
  used : t.custody.leaves.map (·.1) = s.custody.leaves.map (·.1)

section sameExtents
variable {s t u : State}

theorem State.sameExtents.refl (s : State) : s.sameExtents s := ⟨fun _ _ => rfl, rfl⟩

theorem State.sameExtents.trans (h : s.sameExtents t) (g : t.sameExtents u) : s.sameExtents u :=
  ⟨fun i hi => (g.extent i hi).trans (h.extent i hi), g.used.trans h.used⟩

/-- The bookings of the other blocks move no extent. -/
theorem State.sameExtents.of_skeleton (h : t.custody.skeleton = s.custody.skeleton) : s.sameExtents t where
  extent i _ := by
    have unbooked := congrArg CustodyEntry.extent (Custody.skeleton_entry h i)
    exact unbooked
  used := by
    simpa [Custody.skeleton, Function.comp_def] using
      congrArg (fun c => c.2.1.map fun p : Nat × LeafMark × BandSet × BandSet => p.1) h

theorem State.sameExtents.of_custody (h : t.custody = s.custody) : s.sameExtents t := .of_skeleton (by rw [h])

/-- One entry rewritten, its extent kept. -/
theorem State.sameExtents.onEntry {slot : Nat} {f : CustodyEntry → CustodyEntry}
    (hf : (f (s.entry slot)).extent = (s.entry slot).extent) : s.sameExtents (s.onEntry slot f) where
  extent i hi := by
    rw [State.entry_onEntry _ _ _ _ hi]
    split
    · next h => exact h ▸ hf
    · rfl
  used := rfl

/-- One record rewritten. -/
theorem State.sameExtents.onLeaf (slot leaf : Nat) (f : LeafRecord → LeafRecord) :
    s.sameExtents (s.onLeaf slot leaf f) where
  extent _ _ := rfl
  used := by
    simp only [State.onLeaf, State.onLeaves, State.onCustody, LeafStore.edit, List.map_map]
    refine List.map_congr_left fun p _ => ?_
    simp only [Function.comp]
    split <;> rfl

theorem State.sameExtents.onFace (slot : Nat) (face : Face) (f : FaceRecord → FaceRecord) :
    s.sameExtents (s.onFace slot face f) := by
  cases face with
  | verso leaf => exact .onLeaf ..
  | recto leaf => exact .onLeaf ..
  | board => exact .refl s

/-- An event that is taken only when something changes. -/
theorem State.sameExtents.change {p : Prop} [Decidable p] (h : s.sameExtents t) :
    s.sameExtents (if p then s else t) := by
  split
  · exact .refl s
  · exact h

/-- A check of a request: what is past it decides. -/
theorem State.sameExtents.check {p : Prop} [Decidable p] {result : Result} {body : List Byte} {past : Served}
    (h : ¬ p → s.sameExtents past.state) : s.sameExtents (if p then refuse result body s else past).state := by
  split
  · exact .refl s
  · next hp => exact h hp

/-- The checks of the requests that name a volume (R3): past them it is in custody. -/
theorem State.sameExtents.named {slot generation : Nat} {act : CustodyEntry → Served}
    (h : s.sameExtents (act (s.entry slot)).state) : s.sameExtents (s.named slot generation act).state :=
  .check fun _ => .check fun _ => h

end sameExtents

/-! ### The requests that move no extent -/

section custody
variable (slot generation : Nat) (s : State)

theorem takeSetHandling_sameExtents (handlingClass angleLimit faceBudget : Nat) :
    s.sameExtents (takeSetHandling slot generation handlingClass angleLimit faceBudget s).state :=
  .check fun _ => .check fun _ => .onEntry rfl

theorem takeSetBudget_sameExtents (faceBudget : Nat) :
    s.sameExtents (takeSetBudget slot generation faceBudget s).state := by
  refine .named (.check fun _ => ?_)
  have replaced : s.sameExtents (s.onEntry slot (CustodyEntry.withBudget faceBudget)) := .onEntry rfl
  dsimp only [okay]
  split
  · exact replaced.trans (.of_skeleton (by simp))
  · exact replaced

theorem takeHold_sameExtents : s.sameExtents (takeHold slot generation s).state := .named (.onEntry rfl)

theorem takeUnhold_sameExtents : s.sameExtents (takeUnhold slot generation s).state := .named (.onEntry rfl)

theorem takeWaive_sameExtents (reason : Nat) : s.sameExtents (takeWaive slot generation reason s).state :=
  .named (.onEntry rfl)

theorem takeClearReference_sameExtents : s.sameExtents (takeClearReference slot generation s).state :=
  .named (.onEntry rfl)

theorem takeSetRequirement_sameExtents (bands : BandSet) :
    s.sameExtents (takeSetRequirement slot generation bands s).state := .named (.onEntry rfl)

theorem takeMarkLeaf_sameExtents (leaf : Nat) (mark : LeafMark) :
    s.sameExtents (takeMarkLeaf slot generation leaf mark s).state :=
  .named (.check fun _ => .check fun _ => (State.sameExtents.onLeaf slot leaf _).trans (.onEntry rfl))

theorem takeApproveTurn_sameExtents (leaf : Nat) :
    s.sameExtents (takeApproveTurn slot generation leaf s).state :=
  .named (.check fun _ => .of_custody (by simp [okay]))

/-- MOUNT moves a STAGED entry to MOUNTED: its extent stands. -/
theorem takeMount_sameExtents (opening : Nat) : s.sameExtents (takeMount slot generation opening s).state := by
  refine .check fun _ => .check fun _ => .check fun hstaged => .check fun _ => .check fun _ => .check fun _ =>
    .check fun _ => .check fun _ => .check fun _ => ?_
  rw [Decidable.not_not] at hstaged
  have mounted : s.sameExtents (s.onEntry slot fun e => { e with state := .mounted }) :=
    .onEntry (CustodyEntry.extent_eq.2 ⟨by simp [hstaged], rfl, rfl⟩)
  exact mounted.trans (.of_custody (State.mountAt_custody slot generation opening s))

/-- DISMOUNT moves the MOUNTED entry to STAGED: its extent stands. -/
theorem takeDismount_sameExtents : s.sameExtents (takeDismount slot generation s).state := by
  refine .check fun _ => .check fun _ => .check fun hmounted => .check fun _ => ?_
  rw [Decidable.not_not] at hmounted
  have staged : s.sameExtents (s.onEntry slot fun e => { e with state := .staged }) :=
    .onEntry (CustodyEntry.extent_eq.2 ⟨by simp [hmounted], rfl, rfl⟩)
  exact staged.trans (.of_custody (State.dismount_custody slot s))

end custody

section frames
variable (s : State)

theorem State.bookCoverage_sameExtents (slot : Nat) (face : Face) (band : Nat) :
    s.sameExtents (s.bookCoverage slot face band).2 := by
  unfold State.bookCoverage
  split
  · split
    · exact .refl s
    · exact (State.sameExtents.onFace slot face _).trans (.onEntry rfl)
  · exact .refl s

theorem State.freeByVerdict_sameExtents (index : Nat) : s.sameExtents (s.freeByVerdict index) :=
  .of_skeleton (by simp [State.freeByVerdict])

theorem takeAcceptFrame_sameExtents (index generation : Nat) :
    s.sameExtents (takeAcceptFrame index generation s).state :=
  .check fun _ => .check fun _ => .check fun _ =>
    (s.bookCoverage_sameExtents _ _ _).trans (State.freeByVerdict_sameExtents _ _)

theorem takeRejectFrame_sameExtents (index generation : Nat) :
    s.sameExtents (takeRejectFrame index generation s).state :=
  .check fun _ => .check fun _ => s.freeByVerdict_sameExtents index

theorem takeCaptureOpening_sameExtents (mode : SweepMode) :
    s.sameExtents (takeCaptureOpening mode s).state := by
  refine .check fun _ => ?_
  split
  · exact .refl s
  · refine .check fun _ => .check fun _ => .check fun _ => .check fun _ => .check fun _ => .check fun _ =>
      .check fun _ => .of_skeleton ?_
    simp [accepted, State.openSweep, State.firstBuild_skeleton]

theorem takeCloseOpening_sameExtents : s.sameExtents (takeCloseOpening s).state := by
  refine .check fun _ => ?_
  split
  · exact .refl s
  · refine .of_custody ?_
    simp only [okay, State.closeSweep]
    split <;> simp

theorem takeStopSweep_sameExtents : s.sameExtents (takeStopSweep s).state :=
  .check fun _ => .of_custody (by simp [okay])

theorem takeSetPlanEntry_sameExtents (index : Nat) (cameras : CameraSet) (bank level duration : Nat) :
    s.sameExtents (takeSetPlanEntry index cameras bank level duration s).state := .check fun _ => .of_custody rfl

theorem takeSetPlanLength_sameExtents (length : Nat) : s.sameExtents (takeSetPlanLength length s).state := by
  refine .check fun _ => ?_
  split
  · exact .refl s
  · exact .of_custody rfl

end frames

section cradle
variable (s : State)

theorem takeTurn_sameExtents (direction : Direction) (count requestedClass : Nat) :
    s.sameExtents (takeTurn direction count requestedClass s).state := by
  refine .check fun _ => ?_
  split
  · exact .refl s
  · exact .check fun _ => .check fun _ => .check fun _ => .check fun _ => .check fun _ => .check fun _ =>
      .of_custody (by simp [accepted, State.beginTurn])

theorem takeResume_sameExtents : s.sameExtents (takeResume s).state :=
  .check fun _ => .check fun _ => .check fun _ => .check fun _ => .of_skeleton (by simp [okay])

theorem takeRecoverTurn_sameExtents (opening : Nat) : s.sameExtents (takeRecoverTurn opening s).state := by
  refine .check fun _ => .check fun _ => .check fun _ => .of_skeleton ?_
  simp only [okay, State.recoverTo]
  split <;> simp

theorem takeConfirmPick_sameExtents (slot leaf : Nat) : s.sameExtents (takeConfirmPick slot leaf s).state := by
  refine .check fun _ => .check fun _ => ?_
  have kept : s.sameExtents (s.onEntry slot fun e => { e with reference := s.gauge.delta }) := .onEntry rfl
  exact kept.trans (.of_custody (State.enterCarry_custody _))

theorem takeRejectPick_sameExtents (slot leaf : Nat) : s.sameExtents (takeRejectPick slot leaf s).state :=
  .check fun _ => .check fun _ => .of_skeleton (by simp [okay])

theorem takeAckGuard_sameExtents : s.sameExtents (takeAckGuard s).state := .check fun _ => .of_custody rfl

theorem takePreviewOn_sameExtents (level : Nat) : s.sameExtents (takePreviewOn level s).state := by
  refine .check fun _ => ?_
  split
  · exact .refl s
  · refine .check fun _ => .check fun _ => .check fun _ => .check fun _ => ?_
    split
    · exact .refl s
    · refine .check fun _ => .of_custody ?_
      simp only [okay, State.grantPreview]
      split <;> rfl

theorem takePreviewOff_sameExtents : s.sameExtents (takePreviewOff s).state :=
  .of_custody (by simp [takePreviewOff, okay])

end cradle

section station
variable (s : State)

theorem takeSetSetting_sameExtents (index : Nat) (value : Word) :
    s.sameExtents (takeSetSetting index value s).state := .check fun _ => .of_custody rfl

theorem takeEnterReady_sameExtents : s.sameExtents (takeEnterReady s).state := by
  refine .check fun _ => .check fun _ => ?_
  split
  · exact .refl s
  · exact .of_custody (State.settingsGood_custody _ _ s)

theorem takeEnterMaintenance_sameExtents : s.sameExtents (takeEnterMaintenance s).state :=
  .check fun _ => .check fun _ => .of_custody rfl

theorem takeHalt_sameExtents : s.sameExtents (takeHalt s).state := by
  unfold takeHalt
  split
  · exact .refl s
  · exact .refl s
  · exact .of_custody (State.enterHalted_custody .halt s)

theorem takeClearHalt_sameExtents : s.sameExtents (takeClearHalt s).state :=
  .check fun _ => .check fun _ => .check fun _ => .of_custody rfl

/-- RESTART moves the MOUNTED entry to STAGED and gives up the frames open: every extent stands (R26, R28). -/
theorem takeRestart_sameExtents : s.sameExtents (takeRestart s).state := by
  have blocks : s.sameExtents s.restartBlocks :=
    ⟨fun i hi => by rw [State.entry_restartBlocks _ _ hi]; rfl, by
      rw [State.restartBlocks_custody]; simp [Custody.noFrames, Function.comp_def]⟩
  have parked (s : State) : s.sameExtents s.restartMounted := by
    obtain ⟨-, -, -, -, -, -, -, -, -, -, hleaves, -⟩ := s.restartMounted_keeps
    refine ⟨fun i hi => ?_, by rw [hleaves]⟩
    rw [State.entry_restartMounted _ _ hi]
    split
    · next hm => exact CustodyEntry.extent_eq.2 ⟨by simp [(State.mountedSlot_some.1 hm).2.1], rfl, rfl⟩
    · rfl
  exact .check fun _ => (blocks.trans (parked _)).trans (.of_custody (State.restartStation_custody _ _ _))

end station

end Sys2Proof.Machine
end

section
/-! PROOFS. The laws that rest on the extents alone: what keeps them, packaged once. -/

namespace Sys2Proof.Machine

/-! ### The two moves of an extent -/

/-- The other entries stand as they were. -/
def State.othersStand (slot : Nat) (s t : State) : Prop := ∀ i, i < 8 → i ≠ slot → t.entry i = s.entry i

/-- A FREE slot is filled: its extent of `count` records at `base` is put in use (R7, R28). -/
structure State.fills (slot base count : Nat) (s t : State) : Prop where
  extent : (t.entry slot).extent = (false, base, count)
  others : s.othersStand slot t
  leaves : t.custody.leaves = LeafStore.allocate base count s.custody.leaves

/-- A slot is emptied: the records of its extent return to the store (R23, R28). -/
structure State.empties (slot : Nat) (s t : State) : Prop where
  free : (t.entry slot).state = .free
  others : s.othersStand slot t
  leaves : t.custody.leaves =
    LeafStore.release (s.entry slot).extentBase (s.entry slot).leafCount s.custody.leaves

/-- What CHECK IN does: nothing but an answer, or a FREE slot filled at the base the first-fit search finds (R7). -/
theorem takeCheckIn_fills (shelfMark : List Byte) (designation : Option (List Byte)) (accession leafCount : Nat)
    (s : State) :
    (takeCheckIn shelfMark designation accession leafCount s).state = s ∨
      ∃ slot base, slot < 8 ∧ ¬ s.inUse slot ∧ firstFit leafCount s.custody.leaves = some base ∧
        s.fills slot base leafCount (takeCheckIn shelfMark designation accession leafCount s).state := by
  unfold takeCheckIn
  split
  · exact .inl rfl
  · exact .inl rfl
  · exact .inl rfl
  · next slot base _ hfree hfit =>
    simp only [State.lowestFree, List.find?_range_eq_some, beq_iff_eq, List.mem_range] at hfree
    obtain ⟨hstate, hslot, -⟩ := hfree
    have entry (i : Nat) (hi : i < 8) := Vec.at_edit s.custody.entries slot i
      (fun _ => CustodyEntry.staged (wrapSucc 256 (s.entry slot).generation) s.custody.nextSequence shelfMark
        designation accession leafCount base) (.free 0) hi
    refine .inr ⟨slot, base, hslot, not_not_intro hstate, hfit, ⟨?_, fun i hi hne => ?_, rfl⟩⟩
    · exact congrArg CustodyEntry.extent ((entry slot hslot).trans (if_pos rfl))
    · exact (entry i hi).trans (if_neg hne.symm)

/-- What RELEASE does: nothing but an answer, or a slot in use emptied (R23). -/
theorem takeRelease_empties (slot generation : Nat) (s : State) :
    (takeRelease slot generation s).state = s ∨
      slot < 8 ∧ s.inUse slot ∧ s.empties slot (takeRelease slot generation s).state := by
  have released (hstaged : (s.entry slot).state = .staged) :
      slot < 8 ∧ s.inUse slot ∧ s.empties slot (s.releaseEntry slot) := by
    have hslot : slot < 8 := by
      by_contra hge
      simp [State.entry, Vec.at, hge, CustodyEntry.free] at hstaged
    have entry (i : Nat) (hi : i < 8) := Vec.at_edit s.custody.entries slot i (fun e => .free e.generation) (.free 0) hi
    refine ⟨hslot, by rw [State.inUse, hstaged]; nofun, ⟨?_, fun i hi hne => ?_, rfl⟩⟩
    · exact congrArg CustodyEntry.state ((entry slot hslot).trans (if_pos rfl))
    · exact (entry i hi).trans (if_neg hne.symm)
  unfold takeRelease
  dsimp only
  split
  · exact .inl rfl
  split
  · exact .inl rfl
  next hstaged =>
  split
  · exact .inl rfl
  split
  · exact .inl rfl
  split
  · exact .inl rfl
  · exact .inr (released (Decidable.not_not.1 hstaged))

/-! ### The laws of the extents -/

/-- A law that rests on the extents: kept while they stand, when a FREE slot is filled where the search found room, when
a slot is emptied, and true of the empty store of a device reset. -/
structure ExtentLaw (P : State → Prop) : Prop where
  same : ∀ {s t}, s.sameExtents t → P s → P t
  fills : ∀ {s t slot base count}, slot < 8 → ¬ s.inUse slot → firstFit count s.custody.leaves = some base →
    s.fills slot base count t → P s → P t
  empties : ∀ {s t slot}, slot < 8 → s.inUse slot → s.empties slot t → P s → P t
  reset : P State.reset

namespace ExtentLaw
variable {P : State → Prop}

theorem undisturbed (law : ExtentLaw P) : Undisturbed P where
  links _ _ := law.same (.of_custody rfl)
  outbox _ _ := law.same (.of_custody rfl)
  pending _ _ := law.same (.of_custody rfl)

theorem request {c : Instr} {o : Origin} {take : State → Served} {s t : State} (law : ExtentLaw P) (h : P s)
    (hr : Machine.request c o take s = .next t) (ht : ∀ s : State, s.sameExtents (take s).state) : P t :=
  law.undisturbed.request (fun s => law.same (ht s)) h hr

theorem event {f : State → State} {s t : State} (law : ExtentLaw P) (h : P s)
    (hr : Machine.event f s = .next t) (hf : s.sameExtents (f s)) : P t :=
  law.undisturbed.event (law.same hf) h hr

theorem checkIn (law : ExtentLaw P) (shelfMark : List Byte) (designation : Option (List Byte))
    (accession leafCount : Nat) (s : State) (h : P s) :
    P (takeCheckIn shelfMark designation accession leafCount s).state := by
  obtain hsame | ⟨slot, base, hslot, hfree, hfit, hfills⟩ :=
    takeCheckIn_fills shelfMark designation accession leafCount s
  · rw [hsame]
    exact h
  · exact law.fills hslot hfree hfit hfills h

theorem release (law : ExtentLaw P) (slot generation : Nat) (s : State) (h : P s) :
    P (takeRelease slot generation s).state := by
  obtain hsame | ⟨hslot, huse, hempties⟩ := takeRelease_empties slot generation s
  · rw [hsame]
    exact h
  · exact law.empties hslot huse hempties h

/-- An expiry of a timer of a turn, where what it does books at most. -/
theorem turnExpiry {running : CradleTimers → Option Nat} {act : State → State} {s : State}
    (h : (act s).custody.skeleton = s.custody.skeleton) : s.sameExtents (s.turnExpiry running act) := by
  unfold State.turnExpiry
  split
  · exact .of_skeleton h
  · exact .refl s

/-- Every command keeps a law of the extents: CHECK IN fills a slot, RELEASE empties one, a device reset empties the
store, and no other command moves an extent. -/
theorem exec (law : ExtentLaw P) : ∀ (c : Instr) (s t : State), P s → Machine.exec c s = .next t → P t
  | .deviceReset, s, t, _, hr => by
    obtain rfl : s.cleared.beginParking 1 none = t := Host.Outcome.next.inj hr
    exact law.same (.of_custody (by simp [State.cleared])) law.reset
  | .checkIn .., _, _, h, hr => law.undisturbed.request (law.checkIn _ _ _ _) h hr
  | .release .., _, _, h, hr => law.undisturbed.request (law.release _ _) h hr
  | .requestFrameComplete link frame, s, t, h, hr =>
    law.event h (show execRequestFrameComplete link frame s = .next t from hr)
      (.change (.of_custody (State.takeFrame_custody ..)))
  | .replySent link, s, t, h, hr =>
    law.event h (show execReplySent link s = .next t from hr) (.of_custody rfl)
  | .linkIdleTimeout link, s, t, h, hr =>
    law.event h (show execLinkIdleTimeout link s = .next t from hr) (.of_custody rfl)
  | .startByte link, s, t, h, hr =>
    law.event h (show execStartByte link s = .next t from hr) (by split; exacts [.of_custody rfl, .refl s])
  | .setHandling .., _, _, h, hr => law.request h hr fun s => takeSetHandling_sameExtents _ _ s _ _ _
  | .setBudget .., _, _, h, hr => law.request h hr fun s => takeSetBudget_sameExtents _ _ s _
  | .hold .., _, _, h, hr => law.request h hr fun s => takeHold_sameExtents _ _ s
  | .unhold .., _, _, h, hr => law.request h hr fun s => takeUnhold_sameExtents _ _ s
  | .waive .., _, _, h, hr => law.request h hr fun s => takeWaive_sameExtents _ _ s _
  | .mount .., _, _, h, hr => law.request h hr fun s => takeMount_sameExtents _ _ s _
  | .dismount .., _, _, h, hr => law.request h hr fun s => takeDismount_sameExtents _ _ s
  | .listCustody .., _, _, h, hr => law.request h hr .refl
  | .readCustody .., _, _, h, hr => law.request h hr .refl
  | .markLeaf .., _, _, h, hr => law.request h hr fun s => takeMarkLeaf_sameExtents _ _ s _ _
  | .setRequirement .., _, _, h, hr => law.request h hr fun s => takeSetRequirement_sameExtents _ _ s _
  | .readLeaf _ slot leaf, _, _, h, hr =>
    law.request h hr fun s => (takeReadLeaf_state slot leaf s).symm ▸ .refl s
  | .turn .., _, _, h, hr => law.request h hr fun s => takeTurn_sameExtents s _ _ _
  | .approveTurn .., _, _, h, hr => law.request h hr fun s => takeApproveTurn_sameExtents _ _ s _
  | .resume _, _, _, h, hr => law.request h hr takeResume_sameExtents
  | .recoverTurn .., _, _, h, hr => law.request h hr fun s => takeRecoverTurn_sameExtents s _
  | .clearReference .., _, _, h, hr => law.request h hr fun s => takeClearReference_sameExtents _ _ s
  | .confirmPick .., _, _, h, hr => law.request h hr fun s => takeConfirmPick_sameExtents s _ _
  | .rejectPick .., _, _, h, hr => law.request h hr fun s => takeRejectPick_sameExtents s _ _
  | .ackGuard _, _, _, h, hr => law.request h hr takeAckGuard_sameExtents
  | .previewOn .., _, _, h, hr => law.request h hr fun s => takePreviewOn_sameExtents s _
  | .previewOff _, _, _, h, hr => law.request h hr takePreviewOff_sameExtents
  | .takeFrames .., _, _, h, hr => law.request h hr fun _ => .of_custody rfl
  | .acceptFrame .., _, _, h, hr => law.request h hr fun s => takeAcceptFrame_sameExtents s _ _
  | .rejectFrame .., _, _, h, hr => law.request h hr fun s => takeRejectFrame_sameExtents s _ _
  | .setPlanEntry .., _, _, h, hr => law.request h hr fun s => takeSetPlanEntry_sameExtents s _ _ _ _ _
  | .setPlanLength .., _, _, h, hr => law.request h hr fun s => takeSetPlanLength_sameExtents s _
  | .readPlan .., _, _, h, hr => law.request h hr .refl
  | .captureOpening .., _, _, h, hr => law.request h hr fun s => takeCaptureOpening_sameExtents s _
  | .closeOpening _, _, _, h, hr => law.request h hr takeCloseOpening_sameExtents
  | .stopSweep _, _, _, h, hr => law.request h hr takeStopSweep_sameExtents
  | .setSetting .., _, _, h, hr => law.request h hr fun s => takeSetSetting_sameExtents s _ _
  | .readSetting .., _, _, h, hr => law.request h hr .refl
  | .enterReady _, _, _, h, hr => law.request h hr takeEnterReady_sameExtents
  | .enterMaintenance _, _, _, h, hr => law.request h hr takeEnterMaintenance_sameExtents
  | .halt _, _, _, h, hr => law.request h hr takeHalt_sameExtents
  | .clearHalt _, _, _, h, hr => law.request h hr takeClearHalt_sameExtents
  | .restart _, _, _, h, hr => law.request h hr takeRestart_sameExtents
  | .readStatus _, _, _, h, hr => law.request h hr .refl
  | .takeNotices .., _, _, h, hr => law.request h hr fun _ => .of_custody rfl
  | .curtainBroken, s, t, h, hr =>
    law.event h (show execCurtainBroken s = .next t from hr)
      (.change (.of_custody s.curtainBreaks_custody))
  | .curtainClear, s, t, h, hr =>
    law.event h (show execCurtainClear s = .next t from hr) (.of_custody rfl)
  | .stopKeyPress, s, t, h, hr =>
    law.event h (show execStopKeyPress s = .next t from hr)
      (.change (.of_custody s.stopKeyPressed_custody))
  | .stopKeyRelease, s, t, h, hr =>
    law.event h (show execStopKeyRelease s = .next t from hr) (.of_custody rfl)
  | .angleChange degrees, s, t, h, hr =>
    law.event h (show execAngleChange degrees s = .next t from hr) (.change (.of_skeleton (by simp)))
  | .wandDownChange level, s, t, h, hr =>
    law.event h (show execWandDownChange level s = .next t from hr) (.change (.of_skeleton (by simp)))
  | .vacuumHeldChange level, s, t, h, hr =>
    law.event h (show execVacuumHeldChange level s = .next t from hr)
      (.change (.of_skeleton (by simp)))
  | .armFarChange level, s, t, h, hr =>
    law.event h (show execArmFarChange level s = .next t from hr) (.change (.of_skeleton (by simp)))
  | .armRestChange level, s, t, h, hr =>
    law.event h (show execArmRestChange level s = .next t from hr) (.change (.of_skeleton (by simp)))
  | .cameraReadyChange camera level, s, t, h, hr =>
    law.event h (show execCameraReadyChange camera level s = .next t from hr)
      (.change (.of_skeleton (by simp)))
  | .doneEdge camera, s, t, h, hr =>
    law.event h (show execDoneEdge camera s = .next t from hr) (.of_skeleton (by simp))
  | .storeUpset index value, s, t, h, hr =>
    law.event h (show execStoreUpset index value s = .next t from hr) (.of_custody rfl)
  | .angleTimerExpiry, s, t, h, hr =>
    law.event h (show execAngleTimerExpiry s = .next t from hr) (.of_skeleton (by simp))
  | .liftTimeout, s, t, h, hr =>
    law.event h (show execLiftTimeout s = .next t from hr) (turnExpiry (by simp [State.phaseTimeout]))
  | .carryTimeout, s, t, h, hr =>
    law.event h (show execCarryTimeout s = .next t from hr) (turnExpiry (by simp [State.phaseTimeout]))
  | .layTimeout, s, t, h, hr =>
    law.event h (show execLayTimeout s = .next t from hr) (turnExpiry (by simp [State.phaseTimeout]))
  | .settleTimerExpiry, s, t, h, hr =>
    law.event h (show execSettleTimerExpiry s = .next t from hr) (turnExpiry (by simp))
  | .pickConfirmTimeout, s, t, h, hr =>
    law.event h (show execPickConfirmTimeout s = .next t from hr) (turnExpiry (by simp))
  | .recoveryTimerExpiry, s, t, h, hr =>
    law.event h (show execRecoveryTimerExpiry s = .next t from hr) (.of_skeleton (by simp))
  | .gaugeGateExpiry, s, t, h, hr =>
    law.event h (show execGaugeGateExpiry s = .next t from hr) (.of_skeleton (by simp))
  | .meteringIntervalExpiry raw, s, t, h, hr =>
    law.event h (show execMeteringIntervalExpiry raw s = .next t from hr) (.of_skeleton (by simp))
  | .cameraReadyTimeout camera, s, t, h, hr =>
    law.event h (show execCameraReadyTimeout camera s = .next t from hr) (.of_skeleton (by simp))
  | .cameraConfirmTimeout camera, s, t, h, hr =>
    law.event h (show execCameraConfirmTimeout camera s = .next t from hr) (.of_skeleton (by simp))
  | .verificationTimerExpiry, s, t, h, hr =>
    law.event h (show execVerificationTimerExpiry s = .next t from hr) (.of_custody s.verify_custody)
  | .pendingBuild, s, t, h, hr =>
    law.event h (show execPendingBuild s = .next t from hr) (.of_skeleton (by simp))
  | .oscillatorCycle, s, t, h, hr =>
    law.event h (show execOscillatorCycle s = .next t from hr) (.of_custody rfl)

end ExtentLaw

end Sys2Proof.Machine
end

section
/-! PROOFS. The canonical form of the leaf store and the law of R28. -/

namespace Sys2Proof.Machine

/-! ### The records in use -/

theorem LeafStore.get_ne_none {st : LeafStore} {k : Nat} : LeafStore.get st k ≠ none ↔ k ∈ st.map (·.1) := by
  rw [Ne, LeafStore.get_eq_none, List.mem_map]
  push Not
  rfl

/-- The canonical form is a matter of the indices alone. -/
theorem LeafStore.wf_congr {a b : LeafStore} (h : a.map (·.1) = b.map (·.1)) (hb : LeafStore.wf b) :
    LeafStore.wf a := by
  refine ⟨h ▸ hb.1, fun p hp => ?_⟩
  have hmem : p.1 ∈ b.map (·.1) := h ▸ List.mem_map_of_mem hp
  obtain ⟨q, hq, hqp⟩ := List.mem_map.1 hmem
  exact hqp ▸ hb.2 q hq

/-- The first-fit search answers a free run, of no record where it is asked for none. -/
theorem firstFit_freeRun {st : LeafStore} {b l : Nat} (h : LeafStore.wf st) (hf : firstFit l st = some b) :
    LeafStore.freeRun st b l := by
  rcases Nat.eq_zero_or_pos l with rfl | hl
  · exact ⟨firstFit_bound st 0 b h hf, fun i hi => absurd hi (Nat.not_lt_zero i)⟩
  · obtain ⟨run, hrun, rfl⟩ := Option.map_eq_some_iff.1 hf
    have hlong : l ≤ run.2 := by simpa using List.find?_some hrun
    exact (freeRun_iff st h _ _ hl).2 ⟨run, List.mem_of_find?_eq_some hrun, Nat.le_refl _, by omega⟩

/-- Records that were free become records in use. -/
theorem LeafStore.length_allocate {st : LeafStore} {b l : Nat} (h : LeafStore.freeRun st b l) :
    (LeafStore.allocate b l st).length = st.length + l := by
  have hfree : ∀ p ∈ st, ¬ (b ≤ p.1 ∧ p.1 < b + l) := fun p hp hin =>
    (LeafStore.get_eq_none st (b + (p.1 - b))).1 (h.2 (p.1 - b) (by omega)) p hp (by omega)
  have hcount : st.countP (fun p => decide (b + l ≤ p.1)) = st.countP (fun p => !decide (p.1 < b)) :=
    List.countP_congr fun p hp => by
      have := hfree p hp
      simp only [decide_eq_true_eq, Bool.not_eq_true', decide_eq_false_iff_not]
      omega
  have hsplit := List.length_eq_countP_add_countP (fun p : Nat × LeafRecord => decide (p.1 < b)) (l := st)
  simp only [LeafStore.allocate, List.length_append, List.length_map, List.length_range,
    ← List.countP_eq_length_filter, hcount]
  simp only [Bool.not_eq_true, Bool.decide_eq_false] at hsplit
  omega

/-- Records that were in use become free. -/
theorem LeafStore.length_release {st : LeafStore} {b l : Nat} (h : LeafStore.wf st)
    (hused : ∀ k, b ≤ k → k < b + l → LeafStore.get st k ≠ none) :
    (LeafStore.release b l st).length + l = st.length := by
  let inside : Nat → Bool := fun k => decide (b ≤ k ∧ k < b + l)
  have hnodup : (st.map (·.1)).Nodup := h.1.imp Nat.ne_of_lt
  have hextent : ((st.map (·.1)).filter inside).Perm (List.range' b l) :=
    (List.perm_ext_iff_of_nodup (hnodup.filter _) List.nodup_range').2 fun k => by
      simp only [List.mem_filter, List.mem_range'_1, inside, decide_eq_true_eq, and_iff_right_iff_imp]
      exact fun hk => LeafStore.get_ne_none.1 (hused k hk.1 hk.2)
  have hin : st.countP (fun p => inside p.1) = l := by
    have := hextent.length_eq
    rwa [← List.countP_eq_length_filter, List.countP_map, List.length_range'] at this
  have hout : (LeafStore.release b l st).length = st.countP fun p => ¬ inside p.1 := by
    rw [LeafStore.release, ← List.countP_eq_length_filter]
    refine List.countP_congr fun p _ => ?_
    simp only [inside, Bool.or_eq_true, decide_eq_true_eq]
    omega
  have hsplit := List.length_eq_countP_add_countP (fun p : Nat × LeafRecord => inside p.1) (l := st)
  omega

/-! ### The canonical form -/

theorem leafStore_wf_law : ExtentLaw fun s => LeafStore.wf s.custody.leaves where
  same h := LeafStore.wf_congr h.used
  fills _ _ hfit h hs := h.leaves ▸ LeafStore.allocate_wf _ _ _ hs (firstFit_bound _ _ _ hs hfit)
  empties _ _ h hs := h.leaves ▸ LeafStore.release_wf _ _ _ hs
  reset := LeafStore.reset_wf

/-- Settles O5: the indices in use change by CHECK IN, RELEASE and a device reset alone, and each keeps the form. -/
theorem leafStoreStaysCanonical : Obligations.LeafStoreStaysCanonical := by
  unfold Obligations.LeafStoreStaysCanonical
  exact step_keeps leafStore_wf_law.undisturbed leafStore_wf_law.exec

/-! ### The law of R28 -/

/-- A sum over the slots, one of its terms changed. -/
theorem sum_range_change {f g : Nat → Nat} {n slot : Nat} (hslot : slot < n)
    (hothers : ∀ i, i < n → i ≠ slot → g i = f i) :
    ((List.range n).map g).sum + f slot = ((List.range n).map f).sum + g slot := by
  induction n with
  | zero => exact absurd hslot (Nat.not_lt_zero slot)
  | succ n ih =>
    simp only [List.range_succ, List.map_append, List.sum_append, List.map_cons, List.map_nil, List.sum_cons,
      List.sum_nil]
    rcases Nat.lt_or_eq_of_le (Nat.le_of_lt_succ hslot) with hlt | rfl
    · have hlast := hothers n (by omega) (by omega)
      have hrest := ih hlt fun i hi => hothers i (by omega)
      omega
    · have hsame : (List.range slot).map g = (List.range slot).map f :=
        List.map_congr_left fun i hi => hothers i (by simp at hi; omega) (by simp at hi; omega)
      rw [hsame]
      omega

/-- The law of R28 reads the extents alone. -/
theorem State.extentsShareStore.congr {s t : State} (g : s.sameExtents t) (h : s.extentsShareStore) :
    t.extentsShareStore := by
  have extent (i : Nat) (hi : i < 8) := CustodyEntry.extent_eq.1 (g.extent i hi)
  have use (i : Nat) (hi : i < 8) : t.inUse i ↔ s.inUse i := not_congr (extent i hi).1
  have base (i : Nat) (hi : i < 8) := (extent i hi).2.1
  have count (i : Nat) (hi : i < 8) := (extent i hi).2.2
  refine ⟨LeafStore.wf_congr g.used h.wf, fun i hi hu => ?_, fun i hi j hj hij hui huj => ?_, fun k => ?_, ?_⟩
  · rw [base i hi, count i hi]
    exact h.within i hi ((use i hi).1 hu)
  · rw [base i hi, count i hi, base j hj, count j hj]
    exact h.apart i hi j hj hij ((use i hi).1 hui) ((use j hj).1 huj)
  · rw [LeafStore.get_ne_none, g.used, ← LeafStore.get_ne_none, h.held]
    refine exists_congr fun i => and_congr_right fun hi => ?_
    rw [use i hi, base i hi, count i hi]
  · rw [← List.length_map (·.1), g.used, List.length_map, h.count]
    refine congrArg List.sum (List.map_congr_left fun i hi => ?_)
    rw [List.mem_range] at hi
    rw [count i hi]
    exact (if_congr (extent i hi).1 rfl rfl).symm

/-- A FREE slot filled where the records were free (R7, R29): the new extent meets no other. -/
theorem State.extentsShareStore.fills {s t : State} {slot base count : Nat} (hslot : slot < 8)
    (hfree : ¬ s.inUse slot) (hrun : LeafStore.freeRun s.custody.leaves base count) (g : s.fills slot base count t)
    (h : s.extentsShareStore) : t.extentsShareStore := by
  obtain ⟨hextent, hothers, hleaves⟩ := g
  simp only [CustodyEntry.extent, Prod.mk.injEq, beq_eq_false_iff_ne] at hextent
  obtain ⟨huse, hbase, hcount⟩ := hextent
  have new {j k : Nat} (hj : j < 8) (hu : s.inUse j) (hin : base ≤ k ∧ k < base + count)
      (hin' : (s.entry j).extentBase ≤ k ∧ k < (s.entry j).extentBase + (s.entry j).leafCount) : False := by
    have hheld := (h.held k).2 ⟨j, hj, hu, hin'⟩
    rw [show k = base + (k - base) by omega] at hheld
    exact hheld (hrun.2 _ (by omega))
  have ne {j : Nat} (hu : s.inUse j) : j ≠ slot := fun e => hfree (e ▸ hu)
  refine ⟨hleaves ▸ LeafStore.allocate_wf _ _ _ h.wf hrun.1, fun i hi hu => ?_,
    fun i hi j hj hij hui huj k hk hk' => ?_, fun k => ?_, ?_⟩
  · by_cases his : i = slot
    · rw [his, hbase, hcount]
      exact hrun.1
    · rw [State.inUse, hothers i hi his] at hu
      rw [hothers i hi his]
      exact h.within i hi hu
  · by_cases his : i = slot
    · have hjs : j ≠ slot := fun e => hij (his.trans e.symm)
      rw [State.inUse, hothers j hj hjs] at huj
      rw [his, hbase] at hk
      rw [his, hbase, hcount] at hk'
      rw [hothers j hj hjs]
      exact new hj huj ⟨hk, hk'⟩
    · rw [hothers i hi his] at hk hk'
      rw [State.inUse, hothers i hi his] at hui
      by_cases hjs : j = slot
      · rw [hjs, hbase, hcount]
        exact fun hin => new hi hui hin ⟨hk, hk'⟩
      · rw [State.inUse, hothers j hj hjs] at huj
        rw [hothers j hj hjs]
        exact h.apart i hi j hj hij hui huj k hk hk'
  · rw [hleaves, LeafStore.get_allocate]
    split
    · next hin => exact iff_of_true (by simp) ⟨slot, hslot, huse, by rw [hbase, hcount]; exact hin⟩
    · next hin =>
      rw [h.held]
      constructor
      · rintro ⟨i, hi, hu, hk⟩
        refine ⟨i, hi, ?_⟩
        rw [State.inUse, hothers i hi (ne hu)]
        exact ⟨hu, hk⟩
      · rintro ⟨i, hi, hu, hk⟩
        have his : i ≠ slot := by
          rintro rfl
          rw [hbase, hcount] at hk
          exact hin hk
        rw [State.inUse, hothers i hi his] at hu
        rw [hothers i hi his] at hk
        exact ⟨i, hi, hu, hk⟩
  · rw [hleaves, LeafStore.length_allocate hrun, h.count]
    have hsum := sum_range_change (f := fun i => if (s.entry i).state = .free then 0 else (s.entry i).leafCount)
      (g := fun i => if (t.entry i).state = .free then 0 else (t.entry i).leafCount) hslot
      fun i hi his => by rw [hothers i hi his]
    rw [if_pos (not_not.1 hfree), if_neg huse, hcount] at hsum
    exact hsum.symm

/-- A slot emptied (R23): its records were its own, so the other extents keep theirs. -/
theorem State.extentsShareStore.empties {s t : State} {slot : Nat} (hslot : slot < 8) (huse : s.inUse slot)
    (g : s.empties slot t) (h : s.extentsShareStore) : t.extentsShareStore := by
  obtain ⟨hfree, hothers, hleaves⟩ := g
  have other {i : Nat} (hi : i < 8) (hu : t.inUse i) : i ≠ slot ∧ s.inUse i ∧ t.entry i = s.entry i := by
    have his : i ≠ slot := by
      rintro rfl
      exact hu hfree
    have he := hothers i hi his
    exact ⟨his, by rwa [State.inUse, he] at hu, he⟩
  refine ⟨hleaves ▸ LeafStore.release_wf _ _ _ h.wf, fun i hi hu => ?_, fun i hi j hj hij hui huj => ?_,
    fun k => ?_, ?_⟩
  · obtain ⟨-, hu, he⟩ := other hi hu
    rw [he]
    exact h.within i hi hu
  · obtain ⟨-, hui, hei⟩ := other hi hui
    obtain ⟨-, huj, hej⟩ := other hj huj
    rw [hei, hej]
    exact h.apart i hi j hj hij hui huj
  · rw [hleaves, LeafStore.get_release]
    split
    · next hin =>
      refine iff_of_false (by simp) ?_
      rintro ⟨i, hi, hu, hk⟩
      obtain ⟨his, hu, he⟩ := other hi hu
      rw [he] at hk
      exact h.apart slot hslot i hi his.symm huse hu k hin.1 hin.2 hk
    · next hin =>
      rw [h.held]
      constructor
      · rintro ⟨i, hi, hu, hk⟩
        have his : i ≠ slot := by
          rintro rfl
          exact hin hk
        refine ⟨i, hi, ?_⟩
        rw [State.inUse, hothers i hi his]
        exact ⟨hu, hk⟩
      · rintro ⟨i, hi, hu, hk⟩
        obtain ⟨-, hu, he⟩ := other hi hu
        rw [he] at hk
        exact ⟨i, hi, hu, hk⟩
  · have hlength := LeafStore.length_release (b := (s.entry slot).extentBase) (l := (s.entry slot).leafCount) h.wf
      fun k hk hk' => (h.held k).2 ⟨slot, hslot, huse, hk, hk'⟩
    have hsum := sum_range_change (f := fun i => if (s.entry i).state = .free then 0 else (s.entry i).leafCount)
      (g := fun i => if (t.entry i).state = .free then 0 else (t.entry i).leafCount) hslot
      fun i hi his => by rw [hothers i hi his]
    rw [if_pos hfree, if_neg huse, ← h.count, ← hlength, ← hleaves] at hsum
    omega

theorem extentsShareStore_law : ExtentLaw State.extentsShareStore where
  same := .congr
  fills hslot hfree hfit g h := h.fills hslot hfree (firstFit_freeRun h.wf hfit) g
  empties hslot huse g h := h.empties hslot huse g
  reset := by
    obtain ⟨-, -, hstore, -⟩ := invariantsHoldAtReset
    exact hstore

/-- Settles O6: an extent moves by CHECK IN, into free records, by RELEASE, and by a device reset, which empties the
store. -/
theorem extentsShareTheStore : Obligations.ExtentsShareTheStore := by
  unfold Obligations.ExtentsShareTheStore
  exact step_keeps extentsShareStore_law.undisturbed extentsShareStore_law.exec

end Sys2Proof.Machine
end

section
/-! PROOFS. The first-fit search and the longest free run. -/

namespace Sys2Proof.Machine

/-- Where a free run is long enough the search finds one, at its base or below (R29). -/
theorem firstFit_of_freeRun {st : LeafStore} {b l : Nat} (h : LeafStore.wf st) (hl : 1 ≤ l)
    (hb : LeafStore.freeRun st b l) : ∃ low, low ≤ b ∧ firstFit l st = some low := by
  classical
  have hex : ∃ b, LeafStore.freeRun st b l := ⟨b, hb⟩
  exact ⟨Nat.find hex, Nat.find_min' hex hb, firstFit_eq_some h hl (Nat.find_spec hex) fun _ => Nat.find_min hex⟩

theorem firstFit_eq_some_iff {st : LeafStore} {l : Nat} (h : LeafStore.wf st) (hl : 1 ≤ l) (b : Nat) :
    firstFit l st = some b ↔ (LeafStore.freeRun st b l ∧ ∀ b', b' < b → ¬ LeafStore.freeRun st b' l) := by
  refine ⟨fun hf => ⟨firstFit_freeRun h hf, fun b' hlt hb' => ?_⟩,
    fun ⟨hb, hlow⟩ => firstFit_eq_some h hl hb hlow⟩
  obtain ⟨low, hle, hlow⟩ := firstFit_of_freeRun h hl hb'
  have : b = low := Option.some.inj (hf.symm.trans hlow)
  omega

theorem firstFit_eq_none_iff {st : LeafStore} {l : Nat} (h : LeafStore.wf st) (hl : 1 ≤ l) :
    firstFit l st = none ↔ ∀ b, ¬ LeafStore.freeRun st b l := by
  refine ⟨fun hf b hb => ?_, firstFit_eq_none h hl⟩
  obtain ⟨low, -, hlow⟩ := firstFit_of_freeRun h hl hb
  exact nomatch hf.symm.trans hlow

/-- Some listed run holds `l` records exactly when the longest does (R31). -/
theorem longestRun_covers (st : LeafStore) {l : Nat} (hl : 1 ≤ l) :
    (∃ run ∈ freeRuns st, l ≤ run.2) ↔ l ≤ ((longestRun st).map (·.2)).getD 0 := by
  have hspec := longestRun_spec st
  cases hr : longestRun st with
  | none =>
    rw [hr] at hspec
    dsimp only at hspec
    simp only [hspec, List.not_mem_nil, false_and, exists_false, Option.map_none, Option.getD_none, false_iff]
    omega
  | some run =>
    rw [hr] at hspec
    obtain ⟨before, after, hsplit, hbefore, hafter⟩ := hspec
    refine ⟨fun ⟨r, hmem, hlong⟩ => ?_, fun hlong => ⟨run, by simp [hsplit], hlong⟩⟩
    rw [hsplit, List.mem_append, List.mem_cons] at hmem
    rcases hmem with hmem | rfl | hmem
    · exact Nat.le_trans hlong (Nat.le_of_lt (hbefore r hmem))
    · exact hlong
    · exact Nat.le_trans hlong (hafter r hmem)

/-- The longest run is free, and no lower base has as many free records together: the runs before it are shorter, and
those after it begin above it. -/
theorem longestRun_lowest {st : LeafStore} {run : Nat × Nat} (h : LeafStore.wf st) (hr : longestRun st = some run) :
    LeafStore.freeRun st run.1 run.2 ∧ ∀ b, b < run.1 → ¬ LeafStore.freeRun st b run.2 := by
  have hspec := longestRun_spec st
  rw [hr] at hspec
  obtain ⟨before, after, hsplit, hbefore, -⟩ := hspec
  have hkeys : ∀ p ∈ st, 0 ≤ p.1 ∧ p.1 < Config.leafRecords := fun p hp => ⟨Nat.zero_le _, h.2 p hp⟩
  have hmem : run ∈ freeRuns st := by simp [hsplit]
  obtain ⟨-, hlong, -⟩ := freeRunsFrom_bound st 0 h.1 hkeys run hmem
  have hsorted : (freeRuns st).Pairwise fun x y => x.1 + x.2 < y.1 := freeRunsFrom_sorted st 0 h.1 hkeys
  rw [hsplit] at hsorted
  have hlater := (List.pairwise_cons.1 (List.pairwise_append.1 hsorted).2.1).1
  refine ⟨(freeRun_iff st h _ _ hlong).2 ⟨run, hmem, Nat.le_refl _, Nat.le_refl _⟩, fun b hlt hb => ?_⟩
  obtain ⟨r, hr, hbase, hend⟩ := (freeRun_iff st h _ _ hlong).1 hb
  rw [hsplit, List.mem_append, List.mem_cons] at hr
  rcases hr with hr | rfl | hr
  · have := hbefore r hr
    omega
  · omega
  · have := hlater r hr
    omega

/-- Settles O20: the search by its lowest free run, the longest run by its place among the runs listed. -/
theorem firstFitFindsTheLowestRun : Obligations.FirstFitFindsTheLowestRun := by
  unfold Obligations.FirstFitFindsTheLowestRun
  intro st l h hl
  refine ⟨firstFit_eq_some_iff h hl, firstFit_eq_none_iff h hl, ?_, fun run => longestRun_lowest h⟩
  rw [← longestRun_covers st hl]
  constructor
  · rintro ⟨b, hb⟩
    obtain ⟨run, hrun, hbase, hend⟩ := (freeRun_iff st h _ _ hl).1 hb
    exact ⟨run, hrun, by omega⟩
  · rintro ⟨run, hrun, hlong⟩
    exact ⟨run.1, (freeRun_iff st h _ _ hl).2 ⟨run, hrun, Nat.le_refl _, by omega⟩⟩

end Sys2Proof.Machine
end

section
/-! PROOFS. MARK LEAF, SET REQUIREMENT and READ LEAF. -/

namespace Sys2Proof.Machine

/-! ### Leaf records in their extent -/

/-- Every leaf of a volume in custody has its record in the store (R28). -/
theorem State.extentsShareStore.record {s : State} {slot leaf : Nat} (h : s.extentsShareStore) (hs : slot < 8)
    (hu : s.inUse slot) (hl : leaf < (s.entry slot).leafCount) :
    LeafStore.get s.custody.leaves ((s.entry slot).extentBase + leaf) ≠ none :=
  (h.held _).2 ⟨slot, hs, hu, by omega, by omega⟩

/-- The leaves of a volume after one of its records is rewritten. -/
theorem State.leaf_onLeaf {s : State} {slot leaf : Nat} (f : LeafRecord → LeafRecord)
    (h : LeafStore.get s.custody.leaves ((s.entry slot).extentBase + leaf) ≠ none) (other : Nat) :
    (s.onLeaf slot leaf f).leaf slot other = if other = leaf then f (s.leaf slot leaf) else s.leaf slot other := by
  have hget : (s.onLeaf slot leaf f).leaf slot other =
      ((LeafStore.get (LeafStore.edit ((s.entry slot).extentBase + leaf) f s.custody.leaves)
        ((s.entry slot).extentBase + other)).getD .fresh) := rfl
  rw [hget, LeafStore.get_edit]
  by_cases ho : other = leaf
  · subst ho
    obtain ⟨r, hr⟩ := Option.ne_none_iff_exists'.1 h
    rw [if_pos rfl, if_pos rfl, State.leaf, Custody.leafOf, hr]
    rfl
  · rw [if_neg (by omega), if_neg ho]
    rfl

/-- Rewriting an entry by functions that agree on it. -/
theorem State.onEntry_congr {s : State} {slot : Nat} {f g : CustodyEntry → CustodyEntry}
    (h : f (s.entry slot) = g (s.entry slot)) : s.onEntry slot f = s.onEntry slot g := by
  have hedit : Vec.edit s.custody.entries slot f = Vec.edit s.custody.entries slot g := by
    unfold Vec.edit
    split
    · next hs =>
      have he : s.custody.entries[slot] = s.entry slot := by simp [State.entry, Vec.at, hs]
      rw [he, h]
    · rfl
  simp only [State.onEntry, State.onCustody, hedit]

/-- A count over the leaves of a volume, one leaf's standing changed. -/
theorem countP_range_change {p q : Nat → Bool} {n k : Nat} (hk : k < n) (hothers : ∀ i, i ≠ k → q i = p i) :
    (List.range n).countP q + (p k).toNat = (List.range n).countP p + (q k).toNat := by
  have hsum (p : Nat → Bool) : (List.range n).countP p = ((List.range n).map fun i => (p i).toNat).sum := by
    induction List.range n with
    | nil => rfl
    | cons i rest ih =>
      rw [List.countP_cons, List.map_cons, List.sum_cons, ih]
      cases p i <;> simp [Nat.add_comm]
  rw [hsum p, hsum q]
  exact sum_range_change (f := fun i => (p i).toNat) (g := fun i => (q i).toNat) hk fun i _ hi => by
    rw [hothers i hi]

/-! ### MARK LEAF -/

/-- A count of leaves, moved with the standing of one of them (R40). -/
def movedCount (was now : Bool) (count : Nat) : Nat :=
  if now = true ∧ was = false then count + 1 else if now = false ∧ was = true then count - 1 else count

theorem movedCount_eq_countP {p q : Nat → Bool} {n k count : Nat} (hk : k < n) (hothers : ∀ i, i ≠ k → q i = p i)
    (hcount : count = (List.range n).countP p) : movedCount (p k) (q k) count = (List.range n).countP q := by
  have hchange := countP_range_change hk hothers
  unfold movedCount
  cases hp : p k <;> cases hq : q k <;> simp [hp, hq] at hchange ⊢ <;> omega

/-- MARK LEAF past its checks: the mark replaced, and the two counts as they are to stand (R40). -/
def State.marked (slot leaf : Nat) (mark : LeafMark) (damage complete : Nat) (s : State) : State :=
  (s.onLeaf slot leaf fun r => { r with mark := mark }).onEntry slot fun e =>
    { e with damageMarks := damage, leavesComplete := complete }

section marked
variable {slot leaf : Nat} {mark : LeafMark} {damage complete : Nat} {s : State}

theorem State.entry_marked (hs : slot < 8) : (s.marked slot leaf mark damage complete).entry slot =
    { s.entry slot with damageMarks := damage, leavesComplete := complete } :=
  (State.entry_onEntry _ _ _ _ hs).trans (if_pos rfl)

theorem State.leaf_marked (hs : slot < 8)
    (h : LeafStore.get s.custody.leaves ((s.entry slot).extentBase + leaf) ≠ none) (other : Nat) :
    (s.marked slot leaf mark damage complete).leaf slot other =
      if other = leaf then { s.leaf slot leaf with mark := mark } else s.leaf slot other := by
  have hleaf : (s.marked slot leaf mark damage complete).leaf slot other =
      (s.onLeaf slot leaf fun r => { r with mark := mark }).leaf slot other := by
    rw [State.leaf, State.entry_marked hs]
    rfl
  rw [hleaf, State.leaf_onLeaf _ h]

/-- The counts agree after where each follows its standing (R18, R43). -/
theorem State.countsAgree.marked (hs : slot < 8) (hl : leaf < (s.entry slot).leafCount)
    (h : LeafStore.get s.custody.leaves ((s.entry slot).extentBase + leaf) ≠ none) (hagree : s.countsAgree slot)
    (hdamage : damage =
      movedCount ((s.leaf slot leaf).mark == .damaged) (mark == .damaged) (s.entry slot).damageMarks)
    (hcomplete : complete =
      movedCount (leafComplete (s.entry slot).required (s.leaf slot leaf))
        (leafComplete (s.entry slot).required { s.leaf slot leaf with mark := mark }) (s.entry slot).leavesComplete) :
    (s.marked slot leaf mark damage complete).countsAgree slot := by
  have hleaf (i : Nat) := State.leaf_marked (mark := mark) (damage := damage) (complete := complete) hs h i
  have hself := (hleaf leaf).trans (if_pos rfl)
  have hothers (i : Nat) (hi : i ≠ leaf) := (hleaf i).trans (if_neg hi)
  have hentry := State.entry_marked (s := s) (leaf := leaf) (mark := mark) (damage := damage) (complete := complete) hs
  generalize s.marked slot leaf mark damage complete = t at *
  obtain ⟨hwas, hmarks⟩ := hagree
  constructor
  · have hmoved := movedCount_eq_countP (p := fun i => leafComplete (s.entry slot).required (s.leaf slot i))
      (q := fun i => leafComplete (s.entry slot).required (t.leaf slot i)) hl (fun i hi => by rw [hothers i hi]) hwas
    rw [hself, ← hcomplete] at hmoved
    rw [hentry]
    simpa only [Custody.countComplete, State.leaf, hentry] using hmoved
  · have hmoved := movedCount_eq_countP (p := fun i => (s.leaf slot i).mark == .damaged)
      (q := fun i => (t.leaf slot i).mark == .damaged) hl (fun i hi => by rw [hothers i hi]) hmarks
    rw [hself, ← hdamage] at hmoved
    rw [hentry]
    exact hmoved

end marked

/-- Settles O28: the checks in turn, then the mark replaced; the record marked is in the store by the law of R28. -/
theorem markLeafKeepsTheCounts : Obligations.MarkLeafKeepsTheCounts := by
  unfold Obligations.MarkLeafKeepsTheCounts
  intro o slot generation leaf mark s c e old was now damage complete h hstore
  have hs : slot < 8 := by
    obtain ⟨-, -, -, hr⟩ := h
    simp only [c, linkRangeOk, slotGenOk, within, Bool.and_eq_true, decide_eq_true_eq] at hr
    omega
  refine check_answers h rfl rfl fun _ ht => check_answers h rfl ht fun hu ht => check_answers h rfl ht fun hl ht => ?_
  have hcurrent : s.isCurrentLeaf slot leaf = true ↔ (e.state = .mounted ∧ s.cradle.currentLeaf = some leaf) := by
    simp [State.isCurrentLeaf, e]
  rw [if_congr hcurrent.symm rfl rfl]
  refine check_answers h rfl ht fun _ ht => ?_
  have hlt : leaf < e.leafCount := by omega
  have hrecord := hstore.record hs hu hlt
  have hset : (s.heard o).setMark slot leaf mark = (s.heard o).marked slot leaf mark damage complete := by
    refine State.onEntry_congr ?_
    congr 1
    · exact if_congr (by simp [now, was, old, e]) rfl (if_congr (by simp [now, was, old, e, and_comm]) rfl rfl)
    · exact if_congr Iff.rfl rfl (if_congr and_comm rfl rfl)
  have hanswer : s.answersWith c o .ok
      (be 2 leaf ++ be 1 (markCode old.mark) ++ be 1 (markCode mark) ++ be 1 (if now then 1 else 0) ++
        be 2 complete ++ be 2 damage) (State.marked slot leaf mark damage complete) [] := by
    refine answersWith_quiet h rfl (ht.trans ?_) h.1 rfl
    dsimp only
    rw [hset]
    have hleaf := State.leaf_marked (s := s.heard o) (mark := mark) (damage := damage) (complete := complete) hs
      hrecord leaf
    rw [if_pos rfl] at hleaf
    simp only [okay, markReply, State.entry_marked hs, hleaf, flag]
    rfl
  refine ⟨hanswer, fun hagree t hnext => ?_⟩
  rw [hanswer, State.announced_nil] at hnext
  obtain rfl := Host.Outcome.next.inj hnext
  have hdamage : damage = movedCount (old.mark == .damaged) (mark == .damaged) e.damageMarks :=
    if_congr (by simp) rfl (if_congr (by simp) rfl rfl)
  exact State.countsAgree.marked (s := s) hs hlt hrecord hagree hdamage rfl

/-! ### SET REQUIREMENT -/

/-- Settles O29: the ranges and the checks in turn, then the set replaced and the complete leaves counted under it. -/
theorem setRequirementRecounts : Obligations.SetRequirementRecounts := by
  unfold Obligations.SetRequirementRecounts
  intro o slot generation bands s c e complete h hs hg
  have hrange : linkRangeOk c = true ↔ bands ≠ 0#8 := by simp [c, linkRangeOk, slotGenOk, within, hs, hg]
  split
  · next hb => exact request_out_of_range _ h (Bool.eq_false_iff.2 fun hr => hrange.1 hr hb)
  · next hb =>
    have ha := h.accepts (hrange.2 hb)
    exact named_answers ha rfl rfl fun ht => answersWith_quiet ha rfl ht ha.1 rfl

/-! ### READ LEAF -/

theorem mem_visibleAt_left {l n leaf : Nat} : (⟨leaf, .left⟩ : VisibleFace) ∈ visibleAt l n ↔ n = leaf + 1 := by
  simp only [visibleAt, List.mem_append]
  split <;> split <;> simp <;> omega

theorem mem_visibleAt_right {l n leaf : Nat} (hl : leaf < l) :
    (⟨leaf, .right⟩ : VisibleFace) ∈ visibleAt l n ↔ n = leaf := by
  simp only [visibleAt, List.mem_append]
  split <;> split <;> simp <;> omega

/-- Which faces of a leaf are visible, at most one entry MOUNTED (R35, R47). -/
theorem State.isVisible_iff {s : State} {slot leaf : Nat} (h : s.oneMounted) (hs : slot < 8)
    (hl : leaf < (s.entry slot).leafCount) :
    (s.isVisible slot leaf .left = true ↔ ((s.entry slot).state = .mounted ∧ s.cradle.opening = leaf + 1)) ∧
      (s.isVisible slot leaf .right = true ↔ ((s.entry slot).state = .mounted ∧ s.cradle.opening = leaf)) := by
  simp only [State.isVisible, Bool.and_eq_true, beq_iff_eq, decide_eq_true_eq, and_congr_right_iff]
  have hvisible (hm : (s.entry slot).state = .mounted) :
      s.visible = visibleAt (s.entry slot).leafCount s.cradle.opening := by
    rw [State.visible, State.mountedSlot_of_one h hs hm]
  exact ⟨fun hm => by rw [hvisible hm, mem_visibleAt_left], fun hm => by rw [hvisible hm, mem_visibleAt_right hl]⟩

/-- Settles O30: the link's ranges, the two refusals, then the record as it stands. -/
theorem readLeafReportsTheRecord : Obligations.ReadLeafReportsTheRecord := by
  unfold Obligations.ReadLeafReportsTheRecord
  intro o slot leaf s c e r n complete hq hi hone
  have hoffered : s.offered c o := ⟨hq, hi, rfl⟩
  have hrange : linkRangeOk c = true ↔ ¬ (7 < slot ∨ 1023 < leaf) := by simp [c, linkRangeOk, within]
  split
  · next hb => exact request_out_of_range _ hoffered (Bool.eq_false_iff.2 fun hr => hrange.1 hr hb)
  · next hb =>
    have ha := hoffered.accepts (hrange.2 hb)
    refine check_answers ha rfl rfl fun _ ht => check_answers ha rfl ht fun hl ht =>
      onlyAnswers_of_take ha rfl (ht.trans ?_)
    obtain ⟨hleft, hright⟩ := State.isVisible_iff (s := s.heard o) hone (by omega) (Nat.lt_of_not_le hl)
    have hcurrent : (s.heard o).isCurrentLeaf slot leaf = true ↔
        (e.state = .mounted ∧ s.cradle.currentLeaf = some leaf) := by simp [State.isCurrentLeaf, e]
    have hcomplete : leafComplete e.required r = true ↔ complete := by simp [leafComplete, covers, complete]
    show okay (leafRecordBytes slot e leaf r (leafComplete e.required r) _ _ _) _ = _
    rw [okay, leafRecordBytes, if_congr hcomplete rfl rfl, if_congr hleft rfl rfl, if_congr hright rfl rfl,
      if_congr hcurrent rfl rfl]
    rfl

end Sys2Proof.Machine
end

section
/-! PROOFS. The walker goes on with the sweep it is given: mode, volume and opening stand. -/

namespace Sys2Proof.Machine

/-- What a sweep is of: its mode, its volume and its opening (R143). -/
def Sweep.subject (w : Sweep) : SweepMode × Option VolumeName × Option Nat := (w.mode, w.volume, w.opening)

/-- The sweep of `t` is of what that of `s` is. -/
def State.sameSubject (s t : State) : Prop := t.walker.sweep.subject = s.walker.sweep.subject

section subject
variable {s t u : State} {start next : State → State}

theorem State.sameSubject.refl (s : State) : s.sameSubject s := rfl

theorem State.sameSubject.trans (h : s.sameSubject t) (g : t.sameSubject u) : s.sameSubject u := Eq.trans g h

theorem State.sameSubject.of_walker (h : t.walker = s.walker) : s.sameSubject t :=
  congrArg (fun w : Walker => w.sweep.subject) h

theorem State.sameSubject.onSweep {f : Sweep → Sweep} (h : ∀ w, (f w).subject = w.subject) :
    s.sameSubject (s.onSweep f) := h _

theorem State.divert_subject (s : State) : s.sameSubject s.divert := by
  obtain ⟨heq, -⟩ := s.divert_eq
  have hsubject := congrArg (fun t : State => t.walker.sweep.subject) heq
  exact hsubject

theorem State.endSweep_subject (reason : SweepEnd) (s : State) : s.sameSubject (s.endSweep reason) := by
  have torn : s.sameSubject (if reason.tears then s.tearSlot else s) := by
    split
    · obtain ⟨-, hwalker, -⟩ := s.tearSlot_eq
      have hsubject := congrArg (fun w : Walker => w.sweep.subject) hwalker
      exact hsubject
    · exact .refl s
  exact torn.trans (State.divert_subject _)

theorem State.takeFromFree_subject (volume : VolumeName) (opening : Nat) (camera : Camera) (face : Face) (entry : Nat)
    (e : PlanEntry) (s : State) : s.sameSubject (s.takeFromFree volume opening camera face entry e) := by
  cases hfree : s.frames.free with
  | nil => rw [State.takeFromFree, hfree]; exact .refl s
  | cons index rest =>
    obtain ⟨g, ht⟩ := State.takeFromFree_cons hfree volume opening camera face entry e
    rw [ht]
    exact State.sameSubject.trans (.of_walker (by simp)) (.onSweep fun _ => rfl)

theorem State.foldTake_subject (v : VolumeName) (n l entry : Nat) (e : PlanEntry) (cameras : List Camera) (s : State) :
    s.sameSubject
      (cameras.foldl (fun s camera => s.takeFromFree v n camera (faceSeen l n camera) entry e) s) := by
  induction cameras generalizing s with
  | nil => exact .refl s
  | cons camera rest ih => exact (State.takeFromFree_subject v n camera _ entry e s).trans (ih _)

theorem State.buildEntry_subject (index : Nat) (s : State) : s.sameSubject (s.buildEntry index) := by
  unfold State.buildEntry
  split
  · exact State.foldTake_subject ..
  · exact .refl s

theorem State.nextBuild_subject (hstart : ∀ s : State, s.sameSubject (start s)) (s : State) :
    s.sameSubject (s.nextBuild start) := by
  unfold State.nextBuild
  dsimp only
  split
  · exact ((State.buildEntry_subject _ s).trans (.onSweep fun _ => rfl)).trans (hstart _)
  · exact .onSweep fun _ => rfl

theorem State.countStart_subject (lit : Bool) (s : State) : s.sameSubject (s.countStart lit) := by
  unfold State.countStart
  split
  · exact .refl s
  · exact .onSweep fun _ => rfl

theorem State.buildOrEnd_subject (hstart : ∀ s : State, s.sameSubject (start s)) (s : State) :
    s.sameSubject (s.buildOrEnd start) := by
  unfold State.buildOrEnd
  split
  · exact State.endSweep_subject _ s
  · exact State.nextBuild_subject hstart s

theorem State.goOn_subject (hstart : ∀ s : State, s.sameSubject (start s)) (lit : Bool) (s : State) :
    s.sameSubject (s.goOn start lit) := by
  unfold State.goOn
  split
  · exact State.endSweep_subject _ s
  · refine State.sameSubject.trans (t := s.onSweep fun w => { w with state := .walking, stage := none }) rfl ?_
    unfold State.goOnByMode
    split
    · split
      · exact State.endSweep_subject _ _
      · exact hstart _
    · split
      · exact (State.countStart_subject lit _).trans (State.endSweep_subject _ _)
      · exact (State.countStart_subject lit _).trans (State.buildOrEnd_subject hstart _)
    · exact (State.countStart_subject lit _).trans (State.buildOrEnd_subject hstart _)

theorem State.refuseSlot_subject (s : State) : s.sameSubject s.refuseSlot :=
  State.sameSubject.trans (t := s.completeSlot .refused) (.of_walker (by simp)) (.onSweep fun _ => rfl)

theorem State.grantLight_subject (d : Descriptor) (s : State) : s.sameSubject (s.grantLight d) := by
  have lit (t : State) (cameras : List Camera) (f : CameraPort → CameraPort) :
      t.sameSubject (t.onEachCamera cameras f) := congrArg Sweep.subject (State.onEachCamera_sweep cameras f t)
  refine State.sameSubject.trans ((State.sameSubject.of_walker ?_).trans (lit _ _ _)) rfl
  simp

theorem State.requestLight_subject (hnext : ∀ s : State, s.sameSubject (next s)) (s : State) :
    s.sameSubject (s.requestLight next) := by
  refine State.sameSubject.trans (t := s.onCameras fun p => { p with readyTimer := none }) rfl ?_
  unfold State.requestLight
  dsimp only
  split
  · exact .refl _
  · split
    · exact State.grantLight_subject _ _
    · exact (State.refuseSlot_subject _).trans (hnext _)

theorem State.awaitCameras_subject (hnext : ∀ s : State, s.sameSubject (next s)) (s : State) :
    s.sameSubject (s.awaitCameras next) := by
  refine State.sameSubject.trans (t := s.toStage .waitCamera .waitCamera) rfl ?_
  unfold State.awaitCameras
  dsimp only
  split
  · exact State.requestLight_subject hnext _
  · exact congrArg Sweep.subject (State.onEachCamera_sweep _ _ _)

theorem State.startExposure_subject (bound : Nat) (s : State) : s.sameSubject (s.startExposure bound) := by
  induction bound generalizing s with
  | zero => exact .refl s
  | succ bound ih =>
    have hnext := State.goOn_subject ih false
    refine State.sameSubject.trans (t := s.fillSlot) (.of_walker (by simp)) ?_
    unfold State.startExposure
    dsimp only
    split
    · exact .refl _
    · split
      · exact State.awaitCameras_subject hnext _
      · exact (State.refuseSlot_subject _).trans (hnext _)

end subject

end Sys2Proof.Machine
end

section
/-! PROOFS. The descriptors of a build, taken from FREE in build order (R130, R33). -/

namespace Sys2Proof.Machine

/-! ### A build as a list of takes -/

/-- A descriptor to build: the index of its plan entry, that entry and its camera. -/
abbrev BuildJob := Nat × PlanEntry × Camera

/-- The descriptors of a plan entry in build order, none while it is unset (R130). -/
def Walker.jobs (w : Walker) (index : Nat) : List BuildJob :=
  match w.planAt index with
  | none => []
  | some e => (cameraSetList e.cameras).map fun camera => (index, e, camera)

theorem Walker.jobs_length (w : Walker) (index : Nat) : (w.jobs index).length = w.cameraCount index := by
  unfold Walker.jobs Walker.cameraCount
  cases w.planAt index with
  | none => rfl
  | some e => cases h : e.cameras <;> simp [cameraSetList, cameraSetCount, h]

/-- The build order is a matter of the plan alone. -/
theorem Walker.jobs_congr {w w' : Walker} (h : w.plan = w'.plan) : w.jobs = w'.jobs := by
  funext index
  simp only [Walker.jobs, Walker.planAt, h]

/-- A descriptor of FREE as a take at opening `n` of a volume of `l` leaves writes it (R130). -/
def BuildJob.write (v : VolumeName) (n l : Nat) (job : BuildJob) (d : Descriptor) : Descriptor where
  generation := wrapSucc 16 d.generation
  volume := v
  opening := n
  camera := job.2.2
  face := faceSeen l n job.2.2
  bank := job.2.1.bank
  level := job.2.1.level
  duration := job.2.1.duration
  planEntry := job.1
  status := .planned
  frameNumber := none
  measured := none

/-- The takes from FREE of a list of descriptors, at opening `n` of a volume of `l` leaves. -/
def State.takeAll (v : VolumeName) (n l : Nat) (jobs : List BuildJob) (s : State) : State :=
  jobs.foldl (fun s job => s.takeFromFree v n job.2.2 (faceSeen l n job.2.2) job.1 job.2.1) s

section takeAll
variable {v : VolumeName} {n l : Nat} {s : State}

theorem State.takeAll_walks (hs : v.slot < 8) (jobs : List BuildJob) (s : State) :
    s.walks v.slot (s.takeAll v n l jobs) := by
  unfold State.takeAll
  induction jobs generalizing s with
  | nil => exact .refl s
  | cons job rest ih => exact (State.takeFromFree_walks hs n job.2.2 _ job.1 job.2.1 s).trans (ih _)

theorem State.takeAll_captures (jobs : List BuildJob) (s : State) :
    s.captureFrame (s.takeAll v n l jobs) ∧ (s.takeAll v n l jobs).outbox = s.outbox := by
  unfold State.takeAll
  induction jobs generalizing s with
  | nil => exact ⟨.refl s, rfl⟩
  | cons job rest ih =>
    obtain ⟨hcaptures, houtbox⟩ := ih (s.takeFromFree v n job.2.2 (faceSeen l n job.2.2) job.1 job.2.1)
    exact ⟨(State.takeFromFree_captures ..).trans hcaptures, houtbox.trans (State.takeFromFree_only ..).2.2⟩

/-- Of the walker a take moves the count of descriptors built alone. -/
theorem State.takeFromFree_walker (v : VolumeName) (n : Nat) (camera : Camera) (face : Face) (entry : Nat)
    (e : PlanEntry) (s : State) : ∃ counts, (s.takeFromFree v n camera face entry e).walker =
      { s.walker with sweep := { s.walker.sweep with counts := counts } } := by
  cases hfree : s.frames.free with
  | nil => exact ⟨s.walker.sweep.counts, by rw [State.takeFromFree, hfree]⟩
  | cons index rest =>
    obtain ⟨g, ht⟩ := State.takeFromFree_cons hfree v n camera face entry e
    exact ⟨_, by rw [ht]; simp [State.onCounts, State.onSweep]; rfl⟩

theorem State.takeAll_walker (jobs : List BuildJob) (s : State) : ∃ counts,
    (s.takeAll v n l jobs).walker = { s.walker with sweep := { s.walker.sweep with counts := counts } } := by
  unfold State.takeAll
  induction jobs generalizing s with
  | nil => exact ⟨s.walker.sweep.counts, rfl⟩
  | cons job rest ih =>
    obtain ⟨counts, hfirst⟩ := s.takeFromFree_walker v n job.2.2 (faceSeen l n job.2.2) job.1 job.2.1
    obtain ⟨counts', hrest⟩ := ih (s.takeFromFree v n job.2.2 (faceSeen l n job.2.2) job.1 job.2.1)
    rw [hfirst] at hrest
    exact ⟨counts', hrest⟩

/-- What a build reads of the state to take its descriptors: the MOUNTED entry, its generation and leaves, the opening
and the plan. -/
structure State.builder (v : VolumeName) (n l : Nat) (plan : Vector (Option PlanEntry) 32) (s : State) : Prop where
  mounted : s.mountedSlot = some v.slot
  generation : (s.entry v.slot).generation = v.generation
  leaves : (s.entry v.slot).leafCount = l
  opening : s.cradle.opening = n
  plan : s.walker.plan = plan

theorem State.builder.takeAll {plan : Vector (Option PlanEntry) 32} (h : s.builder v n l plan) (jobs : List BuildJob) :
    (s.takeAll v n l jobs).builder v n l plan := by
  have hw := State.takeAll_walks (n := n) (l := l) (State.mountedSlot_some.1 h.mounted).1 jobs s
  obtain ⟨counts, hwalker⟩ := State.takeAll_walker (v := v) (n := n) (l := l) jobs s
  constructor
  · exact hw.booked.mountedSlot.trans h.mounted
  · exact (congrArg CustodyEntry.generation hw.booked.entry :).trans h.generation
  · exact (congrArg CustodyEntry.leafCount hw.booked.entry :).trans h.leaves
  · rw [hw.cradle]; exact h.opening
  · rw [hwalker]; exact h.plan

/-- The build of one plan entry. -/
theorem State.builder.buildEntry {plan : Vector (Option PlanEntry) 32} (h : s.builder v n l plan) (index : Nat) :
    s.buildEntry index = s.takeAll v n l (s.walker.jobs index) := by
  have hv : s.mountedVolume = some v := by
    rw [State.mountedVolume, h.mounted, Option.map_some, h.generation]
  unfold State.buildEntry Walker.jobs State.takeAll
  rw [hv]
  cases s.walker.planAt index with
  | none => rfl
  | some e =>
    dsimp only
    rw [List.foldl_map, h.opening, h.leaves]

/-- The builds of plan entries one after the other. -/
theorem State.builder.buildEntries {plan : Vector (Option PlanEntry) 32} (h : s.builder v n l plan)
    (indices : List Nat) :
    indices.foldl (fun s i => s.buildEntry i) s = s.takeAll v n l (indices.flatMap s.walker.jobs) := by
  induction indices generalizing s with
  | nil => rfl
  | cons index rest ih =>
    have hnext := h.takeAll (s.walker.jobs index)
    have hjobs := Walker.jobs_congr (hnext.plan.trans h.plan.symm)
    rw [List.foldl_cons, h.buildEntry, ih hnext, hjobs, List.flatMap_cons, State.takeAll, State.takeAll, State.takeAll,
      List.foldl_append]

end takeAll

/-! ### What a list of takes leaves -/

/-- The record of the store that a camera's frame at opening `n` is booked on, none for the BOARD (R36). -/
def faceRecordAt (base l n : Nat) : Camera → Option Nat
  | .left => if 1 ≤ n then some (base + (n - 1)) else none
  | .right => if n < l then some (base + n) else none

/-- How many of the takes are booked on the record `k`, on the side a camera sees. -/
def bookedAt (base l n k : Nat) (jobs : List BuildJob) (camera : Camera) : Nat :=
  if faceRecordAt base l n camera = some k then jobs.countP fun job => job.2.2 == camera else 0

theorem bookedAt_cons (base l n k : Nat) (job : BuildJob) (jobs : List BuildJob) (camera : Camera) :
    bookedAt base l n k (job :: jobs) camera = bookedAt base l n k [job] camera + bookedAt base l n k jobs camera := by
  unfold bookedAt
  split
  · rw [← List.singleton_append, List.countP_append]
  · rfl

/-- A leaf record with frames open booked on its two faces. -/
def LeafRecord.opened (left right : Nat) (r : LeafRecord) : LeafRecord :=
  { r with
    verso := { r.verso with framesOpen := r.verso.framesOpen + left }
    recto := { r.recto with framesOpen := r.recto.framesOpen + right } }

/-- The state after a list of takes, FREE holding enough descriptors (R130, R33). -/
structure State.taken (v : VolumeName) (n l : Nat) (jobs : List BuildJob) (s t : State) : Prop where
  free : t.frames.free = s.frames.free.drop jobs.length
  planned : t.frames.planned = s.frames.planned ++ s.frames.free.take jobs.length
  slot : t.frames.slot = s.frames.slot
  completed : t.frames.completed = s.frames.completed
  verdict : t.frames.verdict = s.frames.verdict
  written : s.frames.whole → ∀ p ∈ (s.frames.free.take jobs.length).zip jobs,
    t.frame p.1 = p.2.write v n l (s.frame p.1)
  kept : s.frames.whole → ∀ i, i < 256 → i ∉ s.frames.free.take jobs.length → t.frame i = s.frame i
  entry : t.entry v.slot = { s.entry v.slot with framesOpen := (s.entry v.slot).framesOpen + jobs.length }
  leaves : ∀ k, LeafStore.get t.custody.leaves k = (LeafStore.get s.custody.leaves k).map
    (LeafRecord.opened (bookedAt (s.entry v.slot).extentBase l n k jobs .left)
      (bookedAt (s.entry v.slot).extentBase l n k jobs .right))

section taken
variable {v : VolumeName} {n l : Nat} {s t : State}

theorem State.taken.refl (s : State) : s.taken v n l [] s where
  free := rfl
  planned := (List.append_nil _).symm
  slot := rfl
  completed := rfl
  verdict := rfl
  written := fun _ p hp => by simp at hp
  kept := fun _ _ _ _ => rfl
  entry := rfl
  leaves := fun k => by
    have none (camera : Camera) : bookedAt (s.entry v.slot).extentBase l n k [] camera = 0 := ite_self 0
    rw [none, none]
    exact Option.map_id'.symm

/-- The frame booked on the face a camera sees. -/
theorem State.leaves_bookFrame (hs : v.slot < 8) (job : BuildJob) (s : State) (k : Nat) :
    LeafStore.get (s.bookFrame v.slot (faceSeen l n job.2.2)).custody.leaves k =
      (LeafStore.get s.custody.leaves k).map
        (LeafRecord.opened (bookedAt (s.entry v.slot).extentBase l n k [job] .left)
          (bookedAt (s.entry v.slot).extentBase l n k [job] .right)) := by
  have same : (LeafStore.get s.custody.leaves k).map (LeafRecord.opened 0 0) = LeafStore.get s.custody.leaves k :=
    Option.map_id'
  have base : ((s.onEntry v.slot fun e => { e with framesOpen := e.framesOpen + 1 }).entry v.slot).extentBase =
      (s.entry v.slot).extentBase := by
    rw [State.entry_onEntry _ _ _ _ hs, if_pos rfl]
  have booked (leaf : Nat) (side : Side) (f : FaceRecord → FaceRecord) :
      LeafStore.get ((s.onEntry v.slot fun e => { e with framesOpen := e.framesOpen + 1 }).onLeaf v.slot leaf
        (LeafRecord.onSide side f)).custody.leaves k =
        if (s.entry v.slot).extentBase + leaf = k then
          (LeafStore.get s.custody.leaves k).map (LeafRecord.onSide side f)
        else LeafStore.get s.custody.leaves k := by
    rw [State.onLeaf, State.onLeaves, State.onCustody_custody, LeafStore.get_edit, base]
    rfl
  obtain ⟨index, e, camera⟩ := job
  cases camera with
  | left =>
    have right : bookedAt (s.entry v.slot).extentBase l n k [(index, e, .left)] .right = 0 := by simp [bookedAt]
    rw [right]
    by_cases hn : 1 ≤ n
    · simp only [State.bookFrame, faceSeen, bookedAt, faceRecordAt, hn, if_true, State.onFace, booked,
        Option.some.injEq]
      split
      · rfl
      · exact same.symm
    · simp only [State.bookFrame, faceSeen, bookedAt, faceRecordAt, hn, if_false, State.onFace]
      exact same.symm
  | right =>
    have left : bookedAt (s.entry v.slot).extentBase l n k [(index, e, .right)] .left = 0 := by simp [bookedAt]
    rw [left]
    by_cases hn : n < l
    · simp only [State.bookFrame, faceSeen, bookedAt, faceRecordAt, hn, if_true, State.onFace, booked,
        Option.some.injEq]
      split
      · rfl
      · exact same.symm
    · simp only [State.bookFrame, faceSeen, bookedAt, faceRecordAt, hn, if_false, State.onFace]
      exact same.symm

/-- A take from FREE, written out (R130). -/
theorem State.takeFromFree_taken (hs : v.slot < 8) (job : BuildJob) {index : Nat} {rest : List Nat}
    (hfree : s.frames.free = index :: rest) :
    s.taken v n l [job] (s.takeFromFree v n job.2.2 (faceSeen l n job.2.2) job.1 job.2.1) := by
  have ht : s.takeFromFree v n job.2.2 (faceSeen l n job.2.2) job.1 job.2.1 =
      (((s.onFrame index (job.write v n l)).onFrames fun q =>
        { q with free := rest, planned := q.planned ++ [index] }).bookFrame v.slot (faceSeen l n job.2.2)).onCounts
        fun c => { c with built := count32 c.built 1 } := by
    rw [State.takeFromFree, hfree]
    rfl
  have hframe (i : Nat) : (s.takeFromFree v n job.2.2 (faceSeen l n job.2.2) job.1 job.2.1).frame i =
      (s.onEach [index] (job.write v n l)).frame i := by
    rw [ht]
    simp [State.frame, State.onEach]
  have hone : s.frames.free.take [job].length = [index] := by rw [hfree]; rfl
  rw [ht] at hframe ⊢
  refine ⟨?_, ?_, ?_, ?_, ?_, fun hw p hp => ?_, fun hw i hi hni => ?_, ?_, fun k => ?_⟩
  · simp [hfree]
  · rw [hone]; simp [State.onFrame_holders]
  · simp [State.onFrame_holders]
  · simp [State.onFrame_holders]
  · simp [State.onFrame_holders]
  · rw [hone, List.zip_cons_cons, List.zip_nil_left, List.mem_singleton] at hp
    subst hp
    have hlt : index < 256 := Frames.whole_lt hw (.inl (by simp [hfree]))
    rw [hframe, State.frame_onEach _ _ _ _ hlt (List.nodup_singleton _), if_pos (List.mem_singleton_self _)]
  · rw [hone] at hni
    rw [hframe, State.frame_onEach _ _ _ _ hi (List.nodup_singleton _), if_neg hni]
  · show (State.bookFrame v.slot _ _).entry v.slot = _
    rw [State.bookFrame, State.entry_onFace, State.entry_onEntry _ _ _ _ hs, if_pos rfl]
    rfl
  · exact State.leaves_bookFrame hs job _ k

/-- One take before the others. -/
theorem State.taken.cons {u : State} {job : BuildJob} {jobs : List BuildJob} (hfree : s.frames.free ≠ [])
    (hwhole : s.frames.whole → t.frames.whole) (h : s.taken v n l [job] t) (g : t.taken v n l jobs u) :
    s.taken v n l (job :: jobs) u := by
  obtain ⟨index, rest, hcons⟩ := List.exists_cons_of_ne_nil hfree
  have hone : s.frames.free.take [job].length = [index] := by rw [hcons]; rfl
  have hrest : t.frames.free = rest := by rw [h.free, hcons]; rfl
  have hall : s.frames.free.take (job :: jobs).length = index :: t.frames.free.take jobs.length := by
    rw [hrest, hcons]; rfl
  have hbase : (t.entry v.slot).extentBase = (s.entry v.slot).extentBase := by rw [h.entry]
  have apart (hw : s.frames.whole) : index < 256 ∧ index ∉ t.frames.free.take jobs.length := by
    have hn := Frames.whole_nodup hw
    simp only [List.nodup_append, hcons, List.nodup_cons] at hn
    refine ⟨Frames.whole_lt hw (.inl (by simp [hcons])), fun hm => ?_⟩
    rw [hrest] at hm
    exact hn.1.1.1.1.1 (List.mem_of_mem_take hm)
  refine ⟨?_, ?_, g.slot.trans h.slot, g.completed.trans h.completed, g.verdict.trans h.verdict, fun hw p hp => ?_,
    fun hw i hi hni => ?_, ?_, fun k => ?_⟩
  · rw [g.free, hrest, hcons]; rfl
  · rw [g.planned, h.planned, hone, hall, List.append_assoc]; rfl
  · obtain ⟨hlt, hapart⟩ := apart hw
    rw [hall, List.zip_cons_cons, List.mem_cons] at hp
    rcases hp with rfl | hp
    · rw [g.kept (hwhole hw) _ hlt hapart]
      exact h.written hw (index, job) (by rw [hone]; simp)
    · have hm := (List.of_mem_zip hp).1
      have hne : p.1 ≠ index := fun e => hapart (e ▸ hm)
      rw [g.written (hwhole hw) p hp, h.kept hw p.1 ?_ (by rw [hone]; simpa using hne)]
      exact Frames.whole_lt (hwhole hw) (.inl (List.mem_of_mem_take hm))
  · rw [hall, List.mem_cons, not_or] at hni
    rw [g.kept (hwhole hw) i hi hni.2, h.kept hw i hi (by rw [hone]; simpa using hni.1)]
  · rw [g.entry, h.entry]
    simp [Nat.add_assoc, Nat.add_comm]
  · rw [g.leaves, h.leaves, hbase, Option.map_map, bookedAt_cons _ _ _ _ _ jobs, bookedAt_cons _ _ _ _ _ jobs]
    refine congrArg (Option.map · _) (funext fun r => ?_)
    simp [LeafRecord.opened, Nat.add_assoc]

theorem State.takeAll_taken (hs : v.slot < 8) (jobs : List BuildJob) (s : State)
    (hlen : jobs.length ≤ s.frames.free.length) : s.taken v n l jobs (s.takeAll v n l jobs) := by
  induction jobs generalizing s with
  | nil => exact .refl s
  | cons job rest ih =>
    rw [List.length_cons] at hlen
    obtain ⟨index, free, hfree⟩ := List.exists_cons_of_length_pos (show 0 < s.frames.free.length by omega)
    have hfirst := State.takeFromFree_taken (n := n) (l := l) hs job hfree
    refine .cons (by simp [hfree]) (State.takeFromFree_whole _ _ _ _ _ _ s) hfirst (ih _ ?_)
    rw [hfirst.free, List.length_drop, List.length_singleton]
    omega

/-- What a list of takes leaves is a matter of the frame queue and of custody. -/
theorem State.taken.congr {s' t' : State} {jobs : List BuildJob} (h : s.taken v n l jobs t)
    (hs : s.frames = s'.frames ∧ s.custody = s'.custody) (ht : t.frames = t'.frames ∧ t.custody = t'.custody) :
    s'.taken v n l jobs t' := by
  obtain ⟨hsf, hsc⟩ := hs
  obtain ⟨htf, htc⟩ := ht
  obtain ⟨free, planned, slot, completed, verdict, written, kept, entry, leaves⟩ := h
  simp only [State.frame, State.entry, hsf, hsc, htf, htc] at *
  exact ⟨free, planned, slot, completed, verdict, written, kept, entry, leaves⟩

/-- A list of takes leaves the walker as it was but for the count of descriptors built. -/
theorem State.takeAll_counts (jobs : List BuildJob) (s : State) (hlen : jobs.length ≤ s.frames.free.length)
    (hmax : s.walker.sweep.counts.built ≤ 4294967295) : (s.takeAll v n l jobs).walker =
      { s.walker with
        sweep := { s.walker.sweep with
          counts := { s.walker.sweep.counts with
            built := min 4294967295 (s.walker.sweep.counts.built + jobs.length) } } } := by
  induction jobs generalizing s with
  | nil => rw [List.length_nil, Nat.add_zero, Nat.min_eq_right hmax]; rfl
  | cons job rest ih =>
    rw [List.length_cons] at hlen
    obtain ⟨index, free, hfree⟩ := List.exists_cons_of_length_pos (show 0 < s.frames.free.length by omega)
    let t := s.takeFromFree v n job.2.2 (faceSeen l n job.2.2) job.1 job.2.1
    have hfirst : t.walker =
        { s.walker with
          sweep := { s.walker.sweep with
            counts := { s.walker.sweep.counts with built := count32 s.walker.sweep.counts.built 1 } } } := by
      obtain ⟨g, ht⟩ := State.takeFromFree_cons hfree v n job.2.2 (faceSeen l n job.2.2) job.1 job.2.1
      simp [t, ht, State.onCounts, State.onSweep]
    have hfree' : t.frames.free.length = s.frames.free.length - 1 := by
      obtain ⟨g, ht⟩ := State.takeFromFree_cons hfree v n job.2.2 (faceSeen l n job.2.2) job.1 job.2.1
      simp [t, ht, hfree]
    have hcount : t.walker.sweep.counts.built = min 4294967295 (s.walker.sweep.counts.built + 1) := by rw [hfirst]; rfl
    have hrest := ih t (by omega) (by omega)
    have hsum : min 4294967295 (min 4294967295 (s.walker.sweep.counts.built + 1) + rest.length) =
        min 4294967295 (s.walker.sweep.counts.built + (rest.length + 1)) := by omega
    rw [hcount, hsum, hfirst] at hrest
    exact hrest

end taken

end Sys2Proof.Machine
end

section
/-! PROOFS. The exposure at the head of PLANNED starts: the wait for the cameras, or the light granted (R148-R150). -/

namespace Sys2Proof.Machine

/-- A sweep stands in WALKING with the slot empty, and the descriptors of one plan entry, those of `group`, stand at the
head of PLANNED with their projection passing. -/
structure State.poised (e : PlanEntry) (entry : Nat) (group rest : List Nat) (s : State) : Prop where
  walking : s.walker.sweep.state = .walking
  slot : s.frames.slot = []
  planned : s.frames.planned = group ++ rest
  cameras : group.map (fun i => (s.frame i).camera) = cameraSetList e.cameras
  fields : ∀ i ∈ group, (s.frame i).planEntry = entry ∧ (s.frame i).bank = e.bank ∧ (s.frame i).level = e.level ∧
    (s.frame i).duration = e.duration
  others : ∀ i ∈ rest, (s.frame i).planEntry ≠ entry
  passes : (s.projection e.bank e.level e.duration).passes = true

/-- The exposure of `group` has started: it waits for its cameras (R149), or with `lit` its light is granted (R150). -/
structure State.hasStarted (e : PlanEntry) (lit : Bool) (group rest : List Nat) (s t : State) : Prop where
  lights : t.lights =
    if lit then { s.lights with banks := Vec.put s.lights.banks e.bank (.lit e.level .exposure) } else s.lights
  meter : t.meter =
    if lit then
      { s.meter with
        running := some { bank := e.bank, owner := .exposure }
        exposure := some { planned := e.duration / 10, charged := 0, dose := 0, irradianceSum := 0 } }
    else s.meter
  custody : t.custody = s.custody
  outbox : t.outbox = s.outbox
  free : t.frames.free = s.frames.free
  slot : t.frames.slot = group
  planned : t.frames.planned = rest
  completed : t.frames.completed = s.frames.completed
  verdict : t.frames.verdict = s.frames.verdict
  frame : group.Nodup → ∀ i, i < 256 →
    t.frame i = if lit = true ∧ i ∈ group then { s.frame i with status := .exposing } else s.frame i
  sweep : t.walker.sweep =
    if lit then
      { s.walker.sweep with state := .exposing, stage := some .exposing, started := true, runWithoutStart := 0 }
    else { s.walker.sweep with state := .waitCamera, stage := some .waitCamera }
  port : ∀ camera, t.walker.port camera =
    if lit then
      { s.walker.port camera with
        readyTimer := none
        trigger := (cameraSetList e.cameras).contains camera || (s.walker.port camera).trigger }
    else if camera ∈ cameraSetList e.cameras then
      { s.walker.port camera with readyTimer := some s.cameraReadyTime }
    else s.walker.port camera

/-- What a rewrite of the ports of an entry's cameras leaves. -/
theorem State.port_onEachCamera (cameras : CameraSet) (f : CameraPort → CameraPort) (s : State) (camera : Camera) :
    (s.onEachCamera (cameraSetList cameras) f).walker.port camera =
      if camera ∈ cameraSetList cameras then f (s.walker.port camera) else s.walker.port camera := by
  cases cameras <;> cases camera <;> rfl

/-- A rewrite of descriptors that keeps their cameras keeps the camera of each. -/
theorem State.camera_onEach {f : Descriptor → Descriptor} (hf : ∀ d, (f d).camera = d.camera) (indices : List Nat)
    (s : State) (i : Nat) : ((s.onEach indices f).frame i).camera = (s.frame i).camera := by
  unfold State.onEach
  induction indices generalizing s with
  | nil => rfl
  | cons j rest ih =>
    refine (ih (s.onFrame j f)).trans ?_
    by_cases hi : i < 256
    · have hone := s.frame_onEach [j] f i hi (List.nodup_singleton j)
      rw [State.onEach, List.foldl_cons, List.foldl_nil] at hone
      rw [hone]
      split
      · exact hf _
      · rfl
    · have none (t : State) : t.frame i = .initial := by simp [State.frame, Vec.at, hi]
      rw [none, none]

/-- A rewrite of descriptors reads the frame queue alone. -/
theorem State.onEach_frames_congr {s t : State} (h : t.frames = s.frames) (indices : List Nat)
    (f : Descriptor → Descriptor) : (t.onEach indices f).frames = (s.onEach indices f).frames := by
  unfold State.onEach
  induction indices generalizing s t with
  | nil => exact h
  | cons i rest ih => exact ih (congrArg (fun q : Frames => { q with pool := Vec.edit q.pool i f }) h)

/-! ### The granted light request, block by block (R150) -/

section grantLight
variable (d : Descriptor) (s : State)

/-- The light and the metering of a granted request, before its descriptors are EXPOSING. -/
def State.lit : State :=
  (s.lightUp d.bank d.level .exposure).onMeter fun m =>
    { m with exposure := some { planned := d.duration / 10, charged := 0, dose := 0, irradianceSum := 0 } }

/-- A granted request with the cameras of the slot as they were. -/
theorem State.grantLight_eq : s.grantLight d =
    (((((s.lit d).onEach s.frames.slot fun d => { d with status := .exposing }).onEachCamera s.slotCameras
      fun p => { p with trigger := true }).toStage .exposing .exposing).onSweep
        fun w => { w with started := true, runWithoutStart := 0 }) := by
  have hcameras : ((s.lit d).onEach s.frames.slot fun d => { d with status := .exposing }).slotCameras =
      s.slotCameras := by
    rw [State.slotCameras, (State.onEach_holders _ _ _).2.2.1]
    refine List.map_congr_left fun i _ => ?_
    exact State.camera_onEach (f := fun d => { d with status := .exposing }) (fun _ => rfl) s.frames.slot (s.lit d) i
  rw [← hcameras]
  rfl

theorem State.grantLight_lights :
    (s.grantLight d).lights = { s.lights with banks := Vec.put s.lights.banks d.bank (.lit d.level .exposure) } := by
  rw [State.grantLight_eq]
  simp [State.lit, State.lightUp]

theorem State.grantLight_meter :
    (s.grantLight d).meter =
      { s.meter with
        running := some { bank := d.bank, owner := .exposure }
        exposure := some { planned := d.duration / 10, charged := 0, dose := 0, irradianceSum := 0 } } := by
  rw [State.grantLight_eq]
  simp [State.lit, State.lightUp]

theorem State.grantLight_frames :
    (s.grantLight d).frames = (s.onEach s.frames.slot fun d => { d with status := .exposing }).frames := by
  rw [State.grantLight_eq]
  simp only [State.onSweep_only, State.toStage_only, State.onEachCamera_only]
  exact State.onEach_frames_congr (s := s) (t := s.lit d) rfl _ _

theorem State.grantLight_sweep (h : s.walker.sweep.state ≠ .draining) :
    (s.grantLight d).walker.sweep =
      { s.walker.sweep with state := .exposing, stage := some .exposing, started := true, runWithoutStart := 0 } := by
  rw [State.grantLight_eq]
  simp [State.lit, State.toStage, State.onSweep, State.onEachCamera_sweep, h]

theorem State.grantLight_port (cameras : CameraSet) (h : s.slotCameras = cameraSetList cameras) (camera : Camera) :
    (s.grantLight d).walker.port camera =
      { s.walker.port camera with
        trigger := (cameraSetList cameras).contains camera || (s.walker.port camera).trigger } := by
  rw [State.grantLight_eq, h]
  have hport := State.port_onEachCamera cameras (fun p => { p with trigger := true })
    ((s.lit d).onEach s.frames.slot fun d => { d with status := .exposing }) camera
  have hsame : ((s.lit d).onEach s.frames.slot fun d => { d with status := .exposing }).walker = s.walker := by
    simp [State.lit]
  rw [hsame] at hport
  refine Eq.trans ?_ (hport.trans ?_)
  · cases camera <;> rfl
  · cases hc : (cameraSetList cameras).contains camera <;> simp_all

end grantLight

namespace State.poised
variable {e : PlanEntry} {entry : Nat} {group rest : List Nat} {s : State}

/-- The head of PLANNED goes into the slot, with the next where the entry has both cameras (R132). -/
theorem fillSlot (h : s.poised e entry group rest) :
    s.fillSlot = s.onFrames fun q => { q with planned := rest, slot := group } := by
  have alone (a : Nat) (hg : group = [a]) :
      s.fillSlot = s.onFrames fun q => { q with planned := rest, slot := group } := by
    have hp := h.planned
    subst hg
    unfold State.fillSlot
    cases rest with
    | nil => simp only [h.slot, hp, List.append_nil]
    | cons b rest =>
      have ha := (h.fields a (List.mem_singleton_self a)).1
      have hb := h.others b (List.mem_cons_self ..)
      simp only [h.slot, hp, List.cons_append, List.nil_append]
      rw [if_neg fun hc => hb (hc.1.symm.trans ha)]
  have hc := h.cameras
  cases hset : e.cameras with
  | left =>
    obtain ⟨a, hg, -⟩ := List.map_eq_singleton_iff.1 (hset ▸ hc)
    exact alone a hg
  | right =>
    obtain ⟨a, hg, -⟩ := List.map_eq_singleton_iff.1 (hset ▸ hc)
    exact alone a hg
  | both =>
    rw [hset] at hc
    obtain ⟨a, more, rfl, ha, hmore⟩ := List.map_eq_cons_iff.1 hc
    obtain ⟨b, rfl, hb⟩ := List.map_eq_singleton_iff.1 hmore
    obtain ⟨hea, -⟩ := h.fields a (by simp)
    obtain ⟨heb, -⟩ := h.fields b (by simp)
    unfold State.fillSlot
    simp only [h.slot, h.planned, List.cons_append, List.nil_append]
    rw [if_pos ⟨hea.trans heb.symm, by rw [ha, hb]; nofun⟩]

theorem group_ne_nil (h : s.poised e entry group rest) : group ≠ [] := by
  rintro rfl
  have hc := h.cameras
  cases hset : e.cameras <;> simp [hset, cameraSetList] at hc

/-- The start of the exposure goes as far as the wait for the cameras. -/
theorem start_eq (h : s.poised e entry group rest) : ∃ next : State → State,
    s.start = (s.onFrames fun q => { q with planned := rest, slot := group }).awaitCameras next := by
  refine ⟨State.goOn (State.startExposure (s.frames.planned.length + s.walker.planLength + 1)) false, ?_⟩
  show State.startExposure (s.frames.planned.length + s.walker.planLength + 1 + 1) s = _
  unfold State.startExposure
  dsimp only
  rw [h.fillSlot]
  obtain ⟨a, more, rfl⟩ := List.exists_cons_of_ne_nil h.group_ne_nil
  obtain ⟨-, hbank, hlevel, hduration⟩ := h.fields a (List.mem_cons_self ..)
  have hpass : ((s.onFrames fun q => { q with planned := rest, slot := a :: more }).projection (s.frame a).bank
      (s.frame a).level (s.frame a).duration).passes = true := by
    rw [hbank, hlevel, hduration]
    exact h.passes
  split
  · next hslot => exact absurd hslot (List.cons_ne_nil a more)
  · next hslot =>
    obtain ⟨rfl, rfl⟩ := List.cons.inj hslot
    split
    · rfl
    · next heq =>
      have hfail := heq ▸ hpass
      exact nomatch hfail

/-- With a camera concerned not READY the ready timers of those concerned start (R149). -/
theorem start_waits (h : s.poised e entry group rest)
    (hr : ((cameraSetList e.cameras).all fun camera => (s.walker.port camera).ready) = false) :
    s.hasStarted e false group rest s.start := by
  obtain ⟨next, hstart⟩ := h.start_eq
  let f := s.onFrames fun q => { q with planned := rest, slot := group }
  have hcameras : (f.toStage .waitCamera .waitCamera).slotCameras = cameraSetList e.cameras := h.cameras
  have hready : (f.toStage .waitCamera .waitCamera).camerasReady = false := by
    rw [State.camerasReady, hcameras]
    exact hr
  have hwait : s.start = (f.toStage .waitCamera .waitCamera).onEachCamera (cameraSetList e.cameras)
      fun p => { p with readyTimer := some s.cameraReadyTime } := by
    rw [hstart, State.awaitCameras, hready, hcameras]
    rfl
  rw [hwait]
  constructor
  case frame => intro _ i _; simp [State.frame, f]
  case sweep =>
    rw [State.onEachCamera_sweep]
    simp [State.toStage, State.onSweep, f, h.walking]
  case port =>
    intro camera
    rw [State.port_onEachCamera]
    rfl
  all_goals simp [f]

/-- With every camera concerned READY and the conditions of the light met, the light is granted (R150). -/
theorem start_lights (h : s.poised e entry group rest)
    (hr : ((cameraSetList e.cameras).all fun camera => (s.walker.port camera).ready) = true)
    (hl : s.lightRefusal = none) : s.hasStarted e true group rest s.start := by
  obtain ⟨next, hstart⟩ := h.start_eq
  let f := s.onFrames fun q => { q with planned := rest, slot := group }
  let g := (f.toStage .waitCamera .waitCamera).onCameras fun p => { p with readyTimer := none }
  have hcameras : (f.toStage .waitCamera .waitCamera).slotCameras = cameraSetList e.cameras := h.cameras
  have hready : (f.toStage .waitCamera .waitCamera).camerasReady = true := by
    rw [State.camerasReady, hcameras]
    exact hr
  obtain ⟨a, more, hgroup⟩ := List.exists_cons_of_ne_nil h.group_ne_nil
  obtain ⟨-, hbank, hlevel, hduration⟩ := h.fields a (by simp [hgroup])
  have hgrant : s.start = g.grantLight (s.frame a) := by
    have hslot : g.frames.slot = a :: more := hgroup
    have hlight : g.lightRefusal = none := hl
    rw [hstart, State.awaitCameras, hready, if_pos rfl, State.requestLight]
    split
    · next hnil => exact absurd (hnil.symm.trans hslot) (List.cons_ne_nil a more).symm
    · next hcons =>
      obtain ⟨rfl, rfl⟩ := List.cons.inj (hcons.symm.trans hslot)
      rw [if_pos hlight]
      rfl
  have hslot : g.slotCameras = cameraSetList e.cameras := h.cameras
  have hstate : g.walker.sweep.state ≠ .draining := by
    simp [g, f, State.onCameras, State.toStage, State.onSweep, h.walking]
  rw [hgrant]
  constructor
  case lights => rw [State.grantLight_lights, hbank, hlevel]; rfl
  case meter => rw [State.grantLight_meter, hbank, hduration]; rfl
  case frame =>
    intro hn i hi
    have hframe := g.frame_onEach group (fun d => { d with status := .exposing }) i hi hn
    rw [State.frame, State.grantLight_frames]
    simp only [true_and]
    exact hframe
  case sweep =>
    rw [State.grantLight_sweep _ _ hstate]
    rfl
  case port =>
    intro camera
    rw [State.grantLight_port _ _ _ hslot]
    cases camera <;> rfl
  case custody => exact (State.grantLight_only _ g).2.2.1
  case outbox => simp [g, f]
  all_goals rw [State.grantLight_frames]; simp [g, f]

end State.poised

end Sys2Proof.Machine
end

section
/-! PROOFS. CAPTURE OPENING: the checks, the sweep record and the first build (R145, R146). -/

namespace Sys2Proof.Machine

/-! ### The first build -/

/-- The descriptors of the first build of a mode in build order: for PASS those of every plan entry, else those of
entry 0 (R146). -/
def Walker.firstJobs (mode : SweepMode) (w : Walker) : List BuildJob :=
  (if mode = .pass then List.range w.planLength else [0]).flatMap w.jobs

/-- What CAPTURE OPENING asks of FREE is what the first build takes. -/
theorem Walker.firstJobs_length (mode : SweepMode) (w : Walker) : (w.firstJobs mode).length = w.firstNeed mode := by
  have one : ([0].flatMap w.jobs).length = w.cameraCount 0 := by simp [w.jobs_length]
  cases mode with
  | pass =>
    rw [Walker.firstJobs, if_pos rfl, List.length_flatMap]
    exact congrArg List.sum (List.map_congr_left fun i _ => w.jobs_length i)
  | count target => exact one
  | opened => exact one

theorem Walker.jobs_index {w : Walker} {index : Nat} {job : BuildJob} (h : job ∈ w.jobs index) : job.1 = index := by
  unfold Walker.jobs at h
  split at h
  · exact nomatch h
  · obtain ⟨camera, -, rfl⟩ := List.mem_map.1 h
    rfl

/-- The first build begins with entry 0, and what follows is of other entries. -/
theorem Walker.firstJobs_eq (mode : SweepMode) {w : Walker} (h : w.planLength ≠ 0) :
    ∃ others, w.firstJobs mode = w.jobs 0 ++ others ∧ ∀ job ∈ others, job.1 ≠ 0 := by
  have one : [0].flatMap w.jobs = w.jobs 0 ++ [] := by simp
  cases mode with
  | pass =>
    obtain ⟨n, hn⟩ := Nat.exists_eq_succ_of_ne_zero h
    refine ⟨((List.range n).map Nat.succ).flatMap w.jobs, ?_, fun job hjob => ?_⟩
    · rw [Walker.firstJobs, if_pos rfl, hn, List.range_succ_eq_map, List.flatMap_cons]
    · obtain ⟨index, hindex, hjob⟩ := List.mem_flatMap.1 hjob
      obtain ⟨i, -, rfl⟩ := List.mem_map.1 hindex
      rw [Walker.jobs_index hjob]
      exact Nat.succ_ne_zero i
  | count target => exact ⟨[], one, nofun⟩
  | opened => exact ⟨[], one, nofun⟩

/-- The state in which the first build is made: the preview ended, the sweep record set up (R146). -/
def State.sweepSet (mode : SweepMode) (v : VolumeName) (s : State) : State :=
  (s.endPreview .capture).onSweep fun _ => .opened mode v s.cradle.opening

/-- The sweep record past the first build (R143, R146). -/
def Sweep.firstBuilt (mode : SweepMode) (v : VolumeName) (opening planLength built : Nat) : Sweep :=
  { Sweep.opened mode v opening with
    nextEntry := if mode = .pass ∨ planLength = 1 then 0 else 1
    counts := { SweepCounts.zero with built := min 4294967295 built } }

/-- The state that CAPTURE OPENING starts the first exposure in: the preview ended, the sweep record set up and the
first build made, all else as it was (R146). -/
structure State.opens (mode : SweepMode) (v : VolumeName) (s b : State) : Prop where
  taken : s.taken v s.cradle.opening (s.entry v.slot).leafCount (s.walker.firstJobs mode) b
  booked : s.framesBooked v.slot b
  captures : s.captureFrame b
  outbox : b.outbox = s.outbox
  lights : b.lights = (s.endPreview .capture).lights
  meter : b.meter = (s.endPreview .capture).meter
  walker : b.walker =
    { s.walker with
      sweep := .firstBuilt mode v s.cradle.opening s.walker.planLength (s.walker.firstJobs mode).length }

section opens
variable {mode : SweepMode} {v : VolumeName} {s b : State}

theorem State.sweepSet_walker :
    (s.sweepSet mode v).walker = { s.walker with sweep := .opened mode v s.cradle.opening } := by
  simp [State.sweepSet, State.onSweep]

theorem State.onSweep_same {f : Sweep → Sweep} (h : f s.walker.sweep = s.walker.sweep) : s.onSweep f = s :=
  congrArg (fun w => { s with walker := { s.walker with sweep := w } }) h

theorem State.sweepSet_builder (mode : SweepMode) (hm : s.mountedSlot = some v.slot)
    (hg : (s.entry v.slot).generation = v.generation) :
    (s.sweepSet mode v).builder v s.cradle.opening (s.entry v.slot).leafCount s.walker.plan := by
  have hcustody : (s.sweepSet mode v).custody = s.custody := by simp [State.sweepSet]
  have hentry (i : Nat) : (s.sweepSet mode v).entry i = s.entry i := by rw [State.entry, hcustody]; rfl
  constructor
  · exact (State.mountedSlot_congr fun i _ => by rw [hentry]).trans hm
  · rw [hentry]; exact hg
  · rw [hentry]
  · simp [State.sweepSet]
  · simp [State.sweepSet, State.onSweep]

/-- The sweep opens with the takes of its first build. -/
theorem State.openSweep_eq (mode : SweepMode) (hm : s.mountedSlot = some v.slot)
    (hg : (s.entry v.slot).generation = v.generation) :
    s.openSweep mode v =
      ((s.sweepSet mode v).takeAll v s.cradle.opening (s.entry v.slot).leafCount (s.walker.firstJobs mode)).onSweep
        fun w => { w with nextEntry := if mode = .pass ∨ s.walker.planLength = 1 then 0 else 1 } := by
  have hbuilder := State.sweepSet_builder mode hm hg
  have hplan : (s.sweepSet mode v).walker.planLength = s.walker.planLength := by rw [State.sweepSet_walker]
  have hjobs : (s.sweepSet mode v).walker.jobs = s.walker.jobs := Walker.jobs_congr hbuilder.plan
  have one : (s.sweepSet mode v).buildEntry 0 =
      (s.sweepSet mode v).takeAll v s.cradle.opening (s.entry v.slot).leafCount ([0].flatMap s.walker.jobs) := by
    rw [hbuilder.buildEntry, hjobs, List.flatMap_singleton]
  show (s.sweepSet mode v).firstBuild mode = _
  unfold State.firstBuild Walker.firstJobs
  cases mode with
  | pass =>
    obtain ⟨counts, hwalker⟩ := State.takeAll_walker (v := v) (n := s.cradle.opening) (l := (s.entry v.slot).leafCount)
      ((List.range s.walker.planLength).flatMap s.walker.jobs) (s.sweepSet .pass v)
    dsimp only
    rw [if_pos rfl, hbuilder.buildEntries, hplan, hjobs]
    refine (State.onSweep_same ?_).symm
    rw [hwalker, State.sweepSet_walker]
    rfl
  | count target =>
    dsimp only
    rw [one, hplan]
    simp
  | opened =>
    dsimp only
    rw [one, hplan]
    simp

theorem State.openSweep_opens (mode : SweepMode) (hm : s.mountedSlot = some v.slot)
    (hg : (s.entry v.slot).generation = v.generation) (hfree : s.walker.firstNeed mode ≤ s.frames.free.length) :
    s.opens mode v (s.openSweep mode v) := by
  obtain ⟨hs, -, -⟩ := State.mountedSlot_some.1 hm
  let jobs := s.walker.firstJobs mode
  let x := s.sweepSet mode v
  let t := x.takeAll v s.cradle.opening (s.entry v.slot).leafCount jobs
  have hframes : x.frames = s.frames := by simp [x, State.sweepSet]
  have hcustody : x.custody = s.custody := by simp [x, State.sweepSet]
  have hlen : jobs.length ≤ x.frames.free.length := by
    rw [Walker.firstJobs_length, hframes]
    exact hfree
  have hwalks : x.walks v.slot t := State.takeAll_walks hs jobs x
  obtain ⟨hcaptures, hout⟩ : x.captureFrame t ∧ t.outbox = x.outbox := State.takeAll_captures jobs x
  have htaken := State.takeAll_taken (n := s.cradle.opening) (l := (s.entry v.slot).leafCount) hs jobs x hlen
  rw [State.openSweep_eq mode hm hg]
  constructor
  case taken => exact htaken.congr ⟨hframes, hcustody⟩ ⟨rfl, rfl⟩
  case booked => exact (State.framesBooked.of_custody hcustody).trans (hwalks.booked.trans (.of_custody rfl))
  case captures =>
    have hset : s.captureFrame x := by simp [State.captureFrame, x, State.sweepSet]
    exact (hset.trans hcaptures).trans (State.onSweep_captures _ _)
  case outbox => exact hout.trans (by simp [x, State.sweepSet])
  case lights => exact hwalks.lights
  case meter => exact hwalks.meter
  case walker =>
    have hcounts := State.takeAll_counts (v := v) (n := s.cradle.opening) (l := (s.entry v.slot).leafCount) jobs x hlen
      (by rw [State.sweepSet_walker]; exact Nat.zero_le _)
    rw [State.sweepSet_walker] at hcounts
    have hzero : (Sweep.opened mode v s.cradle.opening).counts = SweepCounts.zero := rfl
    rw [State.onSweep, State.onWalker_walker, hcounts]
    simp only [hzero, Sweep.firstBuilt, SweepCounts.zero, Nat.zero_add]
    rfl

end opens

end Sys2Proof.Machine
end

section
/-! PROOFS. CAPTURE OPENING: the first exposure is started on the first build (R148 to R150). -/

namespace Sys2Proof.Machine

/-! ### The blocks that the start of an exposure reads -/

section booked
variable {slot : Nat} {s t : State}

/-- With the settings and the cradle as they were a projection is what it was. -/
theorem State.framesBooked.projection (h : s.framesBooked slot t) (hc : t.cradle = s.cradle)
    (hset : t.settings = s.settings) (hm : s.mountedSlot = some slot) (bank level duration : Nat) :
    t.projection bank level duration = s.projection bank level duration := by
  obtain ⟨hvisible, -⟩ := h.faceAtBudget hc hm
  have hcal (k : Nat) : t.calibration bank k = s.calibration bank k := by
    simp only [State.calibration, State.setting, State.word, hset]
  simp only [State.projection, h.mountedSlot, hm, hvisible, hcal, h.budget, h.doseOf]

/-- Frames booked and blocks moved that no condition of the light reads leave them as they were (R92). -/
theorem State.framesBooked.lightRefusal (h : s.framesBooked slot t) (hcaptures : s.captureFrame t)
    (hm : s.mountedSlot = some slot) : t.lightRefusal = s.lightRefusal := by
  obtain ⟨hstation, hsettings, hcradle, -, hguards, -⟩ := hcaptures
  obtain ⟨-, hface⟩ := h.faceAtBudget hcradle hm
  simp only [State.lightRefusal, hstation, hsettings, hcradle, hguards, h.mountedSlot, hface]

/-- The conditions of a light request are met (R92). -/
theorem State.lightRefusal_none (hmode : s.station.mode = .ready) (hm : s.mountedSlot = some slot)
    (hsettings : s.settings.state = .good) (hcradle : s.cradle.state = .openReady) (hclear : s.guards.clear = true)
    (hdose : ∀ v ∈ s.visible, s.custody.doseOf (s.entry slot) v < (s.entry slot).budget) : s.lightRefusal = none := by
  have hface : s.faceAtBudget = none := by
    simp only [State.faceAtBudget, hm, List.find?_eq_none, decide_eq_true_eq, not_le]
    exact hdose
  simp [State.lightRefusal, hmode, hm, hsettings, hcradle, hclear, hface]

end booked

/-! ### The descriptors of the first build -/

/-- Every element of a list has a partner in a zip with one as long. -/
theorem exists_mem_zip {α β : Type} {l : List α} {m : List β} (h : l.length ≤ m.length) {a : α} (ha : a ∈ l) :
    ∃ b, (a, b) ∈ l.zip m := by
  rw [← List.map_fst_zip h] at ha
  obtain ⟨⟨a', b⟩, hp, rfl⟩ := List.mem_map.1 ha
  exact ⟨b, hp⟩

theorem Frames.whole_free_length {f : Frames} (h : f.whole) : f.free.length ≤ 256 := by
  have hlen := h.length_eq
  simp only [List.length_append, List.length_range] at hlen
  omega

/-- The descriptors of a part of FREE are distinct (R128). -/
theorem Frames.whole_take_nodup {f : Frames} (h : f.whole) (m k : Nat) : ((f.free.take m).take k).Nodup := by
  have hn := Frames.whole_nodup h
  simp only [List.append_assoc] at hn
  exact hn.of_append_left.sublist ((List.take_sublist _ _).trans (List.take_sublist _ _))

section opens
variable {mode : SweepMode} {v : VolumeName} {s b : State} {first : PlanEntry}

/-- The first exposure of the sweep stands ready to start (R148). -/
theorem State.opens.poised (h : s.opens mode v b) (hm : s.mountedSlot = some v.slot)
    (hfree : (s.walker.firstJobs mode).length ≤ s.frames.free.length) (hplan : s.walker.planLength ≠ 0)
    (hfirst : s.walker.planAt 0 = some first) (hsafe : s.LightSafe) (hidle : s.walker.sweep.state = .idle)
    (hwhole : s.frames.whole) (hpass : (s.projection first.bank first.level first.duration).passes = true) :
    b.poised first 0 ((s.frames.free.take (s.walker.firstJobs mode).length).take (cameraSetList first.cameras).length)
      ((s.frames.free.take (s.walker.firstJobs mode).length).drop (cameraSetList first.cameras).length) := by
  obtain ⟨-, -, hslot, hplanned⟩ := hsafe.idle hidle
  obtain ⟨-, hsettings, hcradle, -⟩ := h.captures
  obtain ⟨others, hjobs, hothers⟩ := Walker.firstJobs_eq mode hplan
  have hzero : s.walker.jobs 0 = (cameraSetList first.cameras).map fun camera => (0, first, camera) := by
    rw [Walker.jobs, hfirst]
  have hwritten := h.taken.written hwhole
  have htaken := h.taken.planned
  rw [hplanned, List.nil_append] at htaken
  have hentire : (s.frames.free.take (s.walker.firstJobs mode).length).length =
      (s.walker.jobs 0).length + others.length := by
    rw [List.length_take, Nat.min_eq_left hfree, hjobs, List.length_append]
  generalize s.frames.free.take (s.walker.firstJobs mode).length = taken at *
  have hk : (cameraSetList first.cameras).length = (s.walker.jobs 0).length := by rw [hzero, List.length_map]
  rw [hk]
  have hgroup : (taken.take (s.walker.jobs 0).length).length = (s.walker.jobs 0).length := by
    rw [List.length_take]; omega
  have hrest : (taken.drop (s.walker.jobs 0).length).length = others.length := by
    rw [List.length_drop]; omega
  have hzip : taken.zip (s.walker.firstJobs mode) =
      (taken.take (s.walker.jobs 0).length).zip (s.walker.jobs 0) ++
        (taken.drop (s.walker.jobs 0).length).zip others := by
    rw [← List.zip_append hgroup, List.take_append_drop, hjobs]
  rw [hzip] at hwritten
  constructor
  case walking => rw [h.walker]; rfl
  case slot => exact h.taken.slot.trans hslot
  case planned => rw [htaken, List.take_append_drop]
  case cameras =>
    calc (taken.take (s.walker.jobs 0).length).map (fun i => (b.frame i).camera)
        = (((taken.take (s.walker.jobs 0).length).zip (s.walker.jobs 0)).map Prod.fst).map
            fun i => (b.frame i).camera := by rw [List.map_fst_zip hgroup.le]
      _ = (((taken.take (s.walker.jobs 0).length).zip (s.walker.jobs 0)).map Prod.snd).map fun job => job.2.2 := by
        rw [List.map_map, List.map_map]
        refine List.map_congr_left fun p hp => ?_
        exact (congrArg Descriptor.camera (hwritten p (List.mem_append_left _ hp)) :)
      _ = cameraSetList first.cameras := by
        rw [List.map_snd_zip hgroup.ge, hzero, List.map_map]
        exact List.map_id' _
  case fields =>
    intro i hi
    obtain ⟨job, hp⟩ := exists_mem_zip hgroup.le hi
    have hjob := (List.of_mem_zip hp).2
    rw [hzero] at hjob
    obtain ⟨camera, -, rfl⟩ := List.mem_map.1 hjob
    rw [hwritten _ (List.mem_append_left _ hp)]
    exact ⟨rfl, rfl, rfl, rfl⟩
  case others =>
    intro i hi
    obtain ⟨job, hp⟩ := exists_mem_zip hrest.le hi
    rw [hwritten _ (List.mem_append_right _ hp)]
    exact hothers job (List.of_mem_zip hp).2
  case passes =>
    rw [h.booked.projection hcradle hsettings hm]
    exact hpass

/-- The first exposure is started: lit where every camera concerned is READY and no visible face is at its budget, else
waiting for its cameras (R148 to R150). -/
theorem State.opens.started (h : s.opens mode v b) {group rest : List Nat} (hb : b.poised first 0 group rest)
    (hready : ((cameraSetList first.cameras).all fun camera => (s.walker.port camera).ready) = true →
      s.lightRefusal = none) (hm : s.mountedSlot = some v.slot) :
    b.hasStarted first ((cameraSetList first.cameras).all fun camera => (s.walker.port camera).ready) group rest
      b.start := by
  have hport (camera : Camera) : b.walker.port camera = s.walker.port camera := by
    rw [h.walker]
    cases camera <;> rfl
  have hready' : ((cameraSetList first.cameras).all fun camera => (b.walker.port camera).ready) =
      (cameraSetList first.cameras).all fun camera => (s.walker.port camera).ready := by simp only [hport]
  rw [← hready'] at hready ⊢
  cases hr : (cameraSetList first.cameras).all fun camera => (b.walker.port camera).ready with
  | false => exact hb.start_waits hr
  | true => exact hb.start_lights hr ((h.booked.lightRefusal h.captures hm).trans (hready hr))

/-- The sweep stays of its mode, volume and opening through the start, whatever exposures are refused in it. -/
theorem State.opens.start_subject (h : s.opens mode v b) :
    b.start.walker.sweep.subject = (mode, some v, some s.cradle.opening) := by
  have hstart : b.sameSubject b.start := State.startExposure_subject _ b
  refine Eq.trans hstart ?_
  rw [h.walker]
  rfl

/-- The exposure record of the Dose Meter outlives the end of a preview. -/
theorem State.endPreview_exposure (cause : PreviewEnd) (s : State) :
    (s.endPreview cause).meter.exposure = s.meter.exposure := by
  unfold State.endPreview
  split
  · rfl
  · exact s.putOut_preview.2.2.1

end opens

/-! ### The state after the start, part by part -/

section begun
variable {mode : SweepMode} {v : VolumeName} {s b t : State} {first : PlanEntry} {ready : Bool} {group rest : List Nat}

/-- The preview is over and the light that of the first exposure, or none (R150). -/
theorem State.opens.begun_lights (h : s.opens mode v b) (g : b.hasStarted first ready group rest t)
    (hsafe : s.LightSafe) (hidle : s.walker.sweep.state = .idle) :
    t.lights.preview = none ∧
      t.lights.lastEnd = (if s.lights.preview = none then s.lights.lastEnd else some .capture) ∧
      (∀ k, k < 8 → Vec.at t.lights.banks k .off =
        if ready = true ∧ k = first.bank then .lit first.level .exposure else .off) := by
  have hdark : b.lights.dark := by
    have hd := State.stopped_dark s hsafe .stopped rfl .capture
    rw [State.sweepTrip, if_pos hidle] at hd
    rw [h.lights]
    exact hd
  obtain ⟨hpreview, hlast⟩ := State.endPreview_preview .capture s
  rw [← h.lights] at hpreview hlast
  rw [g.lights]
  cases ready with
  | false => exact ⟨hpreview, hlast, fun k hk => (hdark k hk).trans (if_neg (by simp)).symm⟩
  | true =>
    refine ⟨hpreview, hlast, fun k hk => ?_⟩
    show Vec.at (Vec.put b.lights.banks first.bank _) k .off = _
    rw [Vec.at_put _ _ _ _ _ hk, hdark k hk]
    simp [eq_comm]

/-- Metering runs for the first exposure, or is IDLE (R110, R114). -/
theorem State.opens.begun_meter (h : s.opens mode v b) (g : b.hasStarted first ready group rest t)
    (hsafe : s.LightSafe) (hidle : s.walker.sweep.state = .idle) :
    t.meter.running = (if ready then some { bank := first.bank, owner := .exposure } else none) ∧
      t.meter.exposure =
        (if ready then some { planned := first.duration / 10, charged := 0, dose := 0, irradianceSum := 0 }
        else s.meter.exposure) := by
  have hrunning := State.stopped_running s hsafe .stopped rfl .capture
  rw [State.sweepTrip, if_pos hidle, ← h.meter] at hrunning
  have hexposure := State.endPreview_exposure .capture s
  rw [← h.meter] at hexposure
  rw [g.meter]
  cases ready with
  | false => exact ⟨hrunning, hexposure⟩
  | true => exact ⟨rfl, rfl⟩

/-- The sweep record, with the descriptors of the first build counted (R143). -/
theorem State.opens.begun_sweep (h : s.opens mode v b) (g : b.hasStarted first ready group rest t)
    (hmax : (s.walker.firstJobs mode).length ≤ 256) :
    t.walker.sweep =
      { state := if ready then SweepState.exposing else .waitCamera
        stage := if ready then some .exposing else some .waitCamera
        mode := mode, volume := some v, opening := some s.cradle.opening
        nextEntry := if mode = .pass ∨ s.walker.planLength = 1 then 0 else 1
        runWithoutStart := 0, started := ready, buildPending := false
        counts := { SweepCounts.zero with built := (s.walker.firstJobs mode).length }, lastEnd := none } := by
  have hbuilt : min 4294967295 (s.walker.firstJobs mode).length = (s.walker.firstJobs mode).length := by omega
  rw [g.sweep, h.walker]
  cases ready <;> simp [Sweep.firstBuilt, Sweep.opened, Sweep.initial, hbuilt]

/-- The camera ports: the triggers of the first exposure raised, or its ready timers running (R149, R150). -/
theorem State.opens.begun_port (h : s.opens mode v b) (g : b.hasStarted first ready group rest t) (camera : Camera) :
    t.walker.port camera =
      if ready then
        { s.walker.port camera with
          readyTimer := none
          trigger := (cameraSetList first.cameras).contains camera || (s.walker.port camera).trigger }
      else if camera ∈ cameraSetList first.cameras then
        { s.walker.port camera with readyTimer := some s.cameraReadyTime }
      else s.walker.port camera := by
  obtain ⟨-, hsettings, -⟩ := h.captures
  have hport : b.walker.port camera = s.walker.port camera := by
    rw [h.walker]
    cases camera <;> rfl
  have htime : b.cameraReadyTime = s.cameraReadyTime := by
    simp only [State.cameraReadyTime, State.setting, State.word, hsettings]
  rw [g.port, hport, htime]

/-- A descriptor taken for the first build, EXPOSING where its exposure is lit (R130, R150). -/
theorem State.opens.begun_frame (h : s.opens mode v b) (g : b.hasStarted first ready group rest t)
    (hwhole : s.frames.whole) (hgroup : group.Nodup) {i : Nat} {job : BuildJob}
    (hp : (i, job) ∈ (s.frames.free.take (s.walker.firstJobs mode).length).zip (s.walker.firstJobs mode)) :
    t.frame i =
      { job.write v s.cradle.opening (s.entry v.slot).leafCount (s.frame i) with
        status := if ready && group.contains i then .exposing else .planned } := by
  have hi : i < 256 := Frames.whole_lt hwhole (.inl (List.mem_of_mem_take (List.of_mem_zip hp).1))
  rw [g.frame hgroup i hi, h.taken.written hwhole _ hp]
  by_cases hlit : ready = true ∧ i ∈ group
  · rw [if_pos hlit, if_pos (by simpa using hlit)]
  · rw [if_neg hlit, if_neg (by simpa using hlit)]
    rfl

end begun

/-! ### The leaf records -/

/-- The opening at which a camera sees a leaf (R36). -/
def openingSeen (leaf : Nat) : Camera → Nat
  | .left => leaf + 1
  | .right => leaf

/-- The record a camera's frame is booked on is that of a leaf of the volume exactly when the leaf is in its view. -/
theorem faceRecordAt_eq_iff (base l n leaf : Nat) (hleaf : leaf < l) (camera : Camera) :
    faceRecordAt base l n camera = some (base + leaf) ↔
      n = openingSeen leaf camera := by
  cases camera <;> simp only [faceRecordAt, openingSeen] <;> split <;> simp <;> omega

/-- A camera's frame is booked within the extent of the volume (R36). -/
theorem faceRecordAt_mem {base l n k : Nat} {camera : Camera} (hn : n ≤ l)
    (h : faceRecordAt base l n camera = some k) : base ≤ k ∧ k < base + l := by
  cases camera <;> simp only [faceRecordAt] at h <;> split at h <;> simp at h <;> omega

/-- The leaves of the volumes in custody after the takes at an opening of one of them: the frames open of the two faces
in view have risen (R33, R36). -/
theorem State.taken.leaf {v : VolumeName} {n : Nat} {jobs : List BuildJob} {s t : State}
    (h : s.taken v n (s.entry v.slot).leafCount jobs t) (hb : s.framesBooked v.slot t) (hx : s.extentsShareStore)
    (hn : n ≤ (s.entry v.slot).leafCount) (hv : v.slot < 8) (hin : s.inUse v.slot) {i leaf : Nat} (hi : i < 8)
    (hiu : s.inUse i) (hleaf : leaf < (s.entry i).leafCount) :
    let opened := fun (camera : Camera) (leaf : Nat) =>
      if i = v.slot ∧ n = leaf then jobs.countP fun job => job.2.2 == camera else 0
    t.leaf i leaf = (s.leaf i leaf).opened (opened .left (leaf + 1)) (opened .right leaf) := by
  intro opened
  have hbase : (t.entry i).extentBase = (s.entry i).extentBase := by
    by_cases hs : i = v.slot
    · subst hs
      exact (congrArg CustodyEntry.extentBase hb.entry :)
    · rw [hb.others i hi hs]
  have hbooked (camera : Camera) :
      bookedAt (s.entry v.slot).extentBase (s.entry v.slot).leafCount n ((s.entry i).extentBase + leaf) jobs camera =
        opened camera (openingSeen leaf camera) := by
    refine if_congr ?_ rfl rfl
    by_cases hs : i = v.slot
    · subst hs
      rw [faceRecordAt_eq_iff _ _ _ _ hleaf]
      simp
    · refine iff_of_false (fun hr => ?_) fun hc => hs hc.1
      exact hx.apart i hi v.slot hv hs hiu hin _ (by omega) (by omega) (faceRecordAt_mem hn hr)
  obtain ⟨r, hr⟩ := Option.ne_none_iff_exists'.1 (hx.record hi hiu hleaf)
  rw [State.leaf, State.leaf, Custody.leafOf, Custody.leafOf, hbase, h.leaves, hr, hbooked .left, hbooked .right]
  rfl

end Sys2Proof.Machine
end

section
/-! PROOFS. CAPTURE OPENING builds the first frames (R145, R146). -/

namespace Sys2Proof.Machine

/-- The reply body of a CAPTURE OPENING accepted (R145). -/
def captureReply (mode : SweepMode) (slot generation opening need left : Nat) : List Byte :=
  be 1 (sweepModeCode mode) ++ sweepTarget mode ++ be 1 slot ++ be 1 generation ++ be 2 opening ++ be 1 need ++
    be 2 left

section accepted
variable {o : Origin} {mode : SweepMode} {s : State} {slot : Nat}

/-- A CAPTURE OPENING that passes its checks: the sweep opened and its first exposure started (R145, R146). -/
theorem captureOpening_accepted (h : s.accepts (.captureOpening o mode) o) (hm : s.mountedSlot = some slot)
    (hneed : s.walker.firstNeed mode ≤ s.frames.free.length)
    (ht : takeCaptureOpening mode (s.heard o) =
      accepted (captureReply mode slot (s.entry slot).generation s.cradle.opening (s.walker.firstNeed mode)
        ((s.heard o).openSweep mode ⟨slot, (s.entry slot).generation⟩).frames.free.length)
        ((s.heard o).openSweep mode ⟨slot, (s.entry slot).generation⟩).start) :
    ∃ b u, (s.heard o).opens mode ⟨slot, (s.entry slot).generation⟩ b ∧ exec (.captureOpening o mode) s = .next u ∧
      (u.port o.link).request =
        some (.answered
          { tag := o.tag, code := 31#8, result := .accepted,
            body := captureReply mode slot (s.entry slot).generation s.cradle.opening (s.walker.firstNeed mode)
              (s.frames.free.length - s.walker.firstNeed mode) }) ∧
      b.start.sameBlocks u ∧ s.notified u (b.start.outbox ++ s.framesWaiting b.start) := by
  have hopens : (s.heard o).opens mode ⟨slot, (s.entry slot).generation⟩
      ((s.heard o).openSweep mode ⟨slot, (s.entry slot).generation⟩) :=
    State.openSweep_opens mode hm rfl hneed
  generalize (s.heard o).openSweep mode ⟨slot, (s.entry slot).generation⟩ = b at *
  have hleft : b.frames.free.length = s.frames.free.length - s.walker.firstNeed mode := by
    rw [hopens.taken.free, List.length_drop]
    exact congrArg (s.frames.free.length - ·) (Walker.firstJobs_length mode s.walker)
  rw [hleft] at ht
  obtain ⟨-, -, -, -, -, hlinks, -⟩ := hopens.captures.trans b.start_captures
  obtain ⟨u, hu⟩ := request_outcome h ht rfl hlinks
  exact ⟨b, u, hopens, hu⟩

end accepted

/-- Settles O52: the checks in turn, and past them the takes of the first build and the start of the first exposure. -/
theorem captureOpeningBuildsTheFirstFrames : Obligations.CaptureOpeningBuildsTheFirstFrames := by
  unfold Obligations.CaptureOpeningBuildsTheFirstFrames
  intro o mode s c w cameras builds build need h
  have hcameras : cameras = fun e => cameraSetList e.cameras := by
    funext e
    obtain ⟨set, bank, level, duration⟩ := e
    cases set <;> rfl
  have hbuild : build = w.firstJobs mode := by
    refine congrArg (List.flatMap · _) (funext fun i => ?_)
    cases hw : w.planAt i <;> simp [builds, Walker.jobs, hw, hcameras]
  have hneed : need = w.firstNeed mode := (congrArg List.length hbuild).trans (Walker.firstJobs_length mode w)
  refine check_answers h rfl rfl fun hmode ht => ?_
  cases hm : s.mountedSlot with
  | none =>
    rw [State.heard_mountedSlot, hm] at ht
    exact onlyAnswers_of_take h rfl ht
  | some slot =>
    rw [State.heard_mountedSlot, hm] at ht
    have hguard : (s.guards.curtainBroken = true ∨ s.guards.curtainLatch = true) ↔ s.guards.clear = false := by
      cases hb : s.guards.curtainBroken <;> cases hl : s.guards.curtainLatch <;> simp [Guards.clear, hb, hl]
    dsimp only
    rw [if_congr hguard rfl rfl, hneed]
    refine check_answers h rfl ht fun _ ht => check_answers h rfl ht fun hsettings ht =>
      check_answers h rfl ht fun hcradle ht => check_answers h rfl ht fun hidle ht =>
      check_answers h rfl ht fun hclear ht => check_answers h rfl ht fun hplan ht =>
      check_answers h rfl ht fun hfree ht => ?_
    obtain ⟨b, u, hopens, hu, hreq, hsame, hnotes⟩ := captureOpening_accepted h hm (not_lt.1 hfree) ht
    refine ⟨⟨u, hu, ?_, ?_⟩, ?_⟩
    · cases mode <;> exact hreq
    · have hsubject := hopens.start_subject
      rw [← hsame.walker] at hsubject
      simpa [Sweep.subject] using hsubject
    · rw [hbuild, hcameras, ← Walker.firstJobs_length mode w]
      dsimp only
      intro first hfirst hsafe hwhole hpass hdose
      rw [not_not] at hmode hsettings hcradle hidle
      have hlen : (w.firstJobs mode).length ≤ s.frames.free.length := by
        rw [Walker.firstJobs_length]
        exact not_lt.1 hfree
      have hmax : (w.firstJobs mode).length ≤ 256 := hlen.trans (Frames.whole_free_length hwhole)
      have hb := hopens.poised hm hlen hplan hfirst (hsafe.heard o) hidle hwhole hpass
      have hg := hopens.started hb (fun hr => State.lightRefusal_none hmode hm hsettings hcradle
        (by simpa using hclear) (hdose hr)) hm
      have hgroup := Frames.whole_take_nodup hwhole (w.firstJobs mode).length (cameraSetList first.cameras).length
      obtain ⟨hpreview, hlast, hbanks⟩ := hopens.begun_lights hg (hsafe.heard o) hidle
      obtain ⟨hrunning, hexposure⟩ := hopens.begun_meter hg (hsafe.heard o) hidle
      obtain ⟨hstation, hset, hcra, hgauge, hguards, -, hpending, -⟩ := hopens.captures.trans b.start_captures
      have hcompleted : b.start.frames.completed = s.frames.completed := hg.completed.trans hopens.taken.completed
      have hcustody : u.custody = b.custody := hsame.custody.trans hg.custody
      have hentry (i : Nat) : u.entry i = b.entry i := by rw [State.entry, hcustody]; rfl
      have hframe (i : Nat) : u.frame i = b.start.frame i := by rw [State.frame, hsame.frames]; rfl
      refine ⟨u, hu, ?_, ?_, ?_, ?_, ?_, ?_, fun camera => ?_, ?_, ?_, ?_, ?_, ?_, fun i index entry camera hp => ?_,
        ?_, fun i hi hne => ?_, fun hn hx i l hi hiu hl => ?_, ?_, ?_⟩
      · rw [hsame.lights]; exact hpreview
      · rw [hsame.lights]; exact hlast
      · rw [hsame.lights]; exact hbanks
      · rw [hsame.meter]; exact hrunning
      · rw [hsame.meter]; exact hexposure
      · rw [hsame.walker]; exact hopens.begun_sweep hg hmax
      · rw [hsame.walker]; exact hopens.begun_port hg camera
      · rw [hsame.frames, hg.free]; exact hopens.taken.free
      · rw [hsame.frames]; exact hg.slot
      · rw [hsame.frames]; exact hg.planned
      · rw [hsame.frames]; exact hcompleted
      · rw [hsame.frames, hg.verdict]; exact hopens.taken.verdict
      · rw [hframe, hopens.begun_frame hg hwhole hgroup hp]
        cases camera <;> rfl
      · rw [hentry]; exact hopens.taken.entry
      · rw [hentry]; exact hopens.booked.others i hi hne
      · obtain ⟨hs, hmounted, -⟩ := State.mountedSlot_some.1 hm
        have hextents : (s.heard o).extentsShareStore := State.extentsShareStore.congr (.of_custody (s := s) rfl) hx
        have hin : s.inUse slot := by rw [State.inUse, hmounted]; nofun
        have hleaf := hopens.taken.leaf hopens.booked hextents hn hs hin hi hiu hl
        have hsameLeaf : u.leaf i l = b.leaf i l := by
          rw [State.leaf, hentry, hcustody]
          rfl
        exact hsameLeaf.trans hleaf
      · exact ⟨(hsame.station.trans hstation).symm, (hsame.settings.trans hset).symm, (hsame.cradle.trans hcra).symm,
          (hsame.gauge.trans hgauge).symm, (hsame.guards.trans hguards).symm, (hsame.pending.trans hpending).symm⟩
      · have hout : b.start.outbox = [] := (hg.outbox.trans hopens.outbox).trans h.1
        have hwait : s.framesWaiting b.start = [] := by
          rw [State.framesWaiting, hcompleted]
          exact if_neg fun hc => hc.2 hc.1
        rw [hout, hwait] at hnotes
        exact hnotes

end Sys2Proof.Machine
end

section
/-! PROOFS. TURN, APPROVE TURN and CLEAR REFERENCE. -/

namespace Sys2Proof.Machine

/-! ### TURN: the checks -/

theorem Guards.clear_eq_false (g : Guards) :
    g.clear = false ↔ (g.curtainBroken = true ∨ g.curtainLatch = true) := by
  cases hb : g.curtainBroken <;> cases hl : g.curtainLatch <;> simp [Guards.clear, hb, hl]

theorem directionCode_eq (direction : Direction) :
    directionCode direction = if direction = .forward then 0 else 1 := by
  cases direction <;> rfl

/-- A turn that would leave the volume (R54, check 8). -/
theorem turnInBounds_eq_false (direction : Direction) (count opening leafCount : Nat) :
    turnInBounds direction count opening leafCount = false ↔
      ((direction = .forward ∧ leafCount < opening + count) ∨ (direction = .back ∧ opening < count)) := by
  cases direction <;> simp [turnInBounds]

/-- Settles O31: the eight checks in turn, and past them the reply of R55, whatever the turn then does. -/
theorem turnChecksInOrder : Obligations.TurnChecksInOrder := by
  unfold Obligations.TurnChecksInOrder
  intro o direction count requestedClass s c n h
  refine check_answers h rfl rfl fun _ ht => ?_
  cases hm : s.mountedSlot with
  | none =>
    rw [State.heard_mountedSlot, hm] at ht
    exact onlyAnswers_of_take h rfl ht
  | some slot =>
    rw [State.heard_mountedSlot, hm] at ht
    dsimp only
    rw [if_congr (Guards.clear_eq_false s.guards).symm rfl rfl, if_congr (turnInBounds_eq_false ..).symm rfl rfl]
    refine check_answers h rfl ht fun _ ht => check_answers h rfl ht fun _ ht => check_answers h rfl ht fun _ ht =>
      check_answers h rfl ht fun _ ht => check_answers h rfl ht fun _ ht => check_answers h rfl ht fun _ ht => ?_
    rw [← directionCode_eq]
    exact ⟨_, request_next h ht rfl, by rw [State.finish_request, State.reply_request]; rfl⟩

/-! ### TURN: the first leaf -/

/-- The cradle at the start of a turn, the record of R55 built. -/
def Cradle.turnBegun (direction : Direction) (count effectiveClass : Nat) (k : Cradle) : Cradle :=
  { k with state := .turning, turn := some (.start direction count effectiveClass) }

section turn
variable {o : Origin} {direction : Direction} {count requestedClass slot : Nat} {s : State}

/-- TURN past its checks (R54, R55). -/
theorem takeTurn_accepted (hmode : s.station.mode = .ready) (hm : s.mountedSlot = some slot)
    (hh : (s.entry slot).hold = none) (hg : s.settings.state = .good) (hc : s.cradle.state = .openReady)
    (hw : s.walker.sweep.state = .idle) (hguard : s.guards.clear = true)
    (hb : turnInBounds direction count s.cradle.opening (s.entry slot).leafCount = true) :
    takeTurn direction count requestedClass s =
      accepted
        (be 1 (directionCode direction) ++ be 1 count ++ be 1 (min requestedClass (s.entry slot).handlingClass) ++
          be 2 s.cradle.opening)
        (s.beginTurn direction count (min requestedClass (s.entry slot).handlingClass)) := by
  simp only [takeTurn, hmode, hm, hh, hg, hc, hw, hguard, hb, ne_eq, not_true_eq_false, if_false, Bool.true_eq_false]

/-- The leaf a turn lifts first, as the statements write it (R34, R56). -/
theorem liftedLeaf_eq (direction : Direction) (n : Nat) :
    liftedLeaf direction n = if direction = .forward then n else n - 1 := by
  cases direction <;> rfl

/-- What the first leaf reads stands when a lit preview ends. -/
theorem State.previewEnded_cradle (cause : PreviewEnd) (s : State) :
    (s.previewEnded cause).cradle = s.cradle ∧ (s.previewEnded cause).custody = s.custody ∧
      (s.previewEnded cause).settings = s.settings ∧ (s.previewEnded cause).gauge = s.gauge := by
  unfold State.previewEnded
  split <;> exact ⟨rfl, rfl, rfl, rfl⟩

/-- A turn begun in a station with its preview ended. -/
def State.turnBegun (direction : Direction) (count effectiveClass : Nat) (s : State) : State :=
  (s.previewEnded .turn).onCradle (Cradle.turnBegun direction count effectiveClass)

theorem State.beginTurn_eq (h : s.LightSafe) (effectiveClass : Nat) :
    s.beginTurn direction count effectiveClass = (s.turnBegun direction count effectiveClass).startLeaf := by
  rw [State.beginTurn, State.endPreview_eq _ h.preview_bank]
  rfl

/-- The leaf and the mark that the first leaf begins by are those before the turn. -/
theorem State.turnBegun_first (effectiveClass : Nat) (hm : s.mountedSlot = some slot) :
    let t := s.turnBegun direction count effectiveClass
    t.mountedSlot = some slot ∧ t.cradle.currentLeaf = some (liftedLeaf direction s.cradle.opening) ∧
      t.entry slot = s.entry slot ∧ (∀ leaf, t.leaf slot leaf = s.leaf slot leaf) ∧
      t.cradle.approval = s.cradle.approval ∧ t.cradle.sensors = s.cradle.sensors ∧ t.settings = s.settings := by
  obtain ⟨hcradle, hcustody, hsettings, -⟩ := s.previewEnded_cradle .turn
  have hentry (i : Nat) : (s.turnBegun direction count effectiveClass).entry i = s.entry i := by
    show Vec.at (s.previewEnded .turn).custody.entries i _ = _
    rw [hcustody]; rfl
  refine ⟨?_, ?_, hentry slot, fun leaf => ?_, ?_, ?_, hsettings⟩
  · exact (State.mountedSlot_congr fun i _ => by rw [hentry]).trans hm
  · show some (liftedLeaf direction (s.previewEnded .turn).cradle.opening) = _
    rw [hcradle]
  · show (s.previewEnded .turn).custody.leafOf _ leaf = _
    rw [hentry, hcustody]; rfl
  · show (s.previewEnded .turn).cradle.approval = _
    rw [hcradle]
  · show (s.previewEnded .turn).cradle.sensors = _
    rw [hcradle]

/-- A turn that ends before its first leaf leaves the cradle as it found it (R56). -/
theorem State.endTurn_turnBegun {p : State} (hs : p.cradle.state = .openReady) (ht : p.cradle.turn = none)
    (effectiveClass : Nat) (result : TurnResult) (leaf : Option Nat) :
    (p.onCradle (Cradle.turnBegun direction count effectiveClass)).endTurn result leaf =
      p.post (.turnEnded result 0 p.cradle.opening leaf p.gauge.values) := by
  have hsame : { p.cradle with turn := none, state := .openReady } = p.cradle := by
    rw [← hs, ← ht]
  show State.post _ { p with cradle := { p.cradle with turn := none, state := .openReady } } = _
  rw [hsame]
  rfl

end turn

/-- Settles O32: with the preview ended the first leaf starts by its mark or its approval, or ends the turn. -/
theorem turnStartsTheFirstLeaf : Obligations.TurnStartsTheFirstLeaf := by
  unfold Obligations.TurnStartsTheFirstLeaf
  intro o direction count requestedClass slot s c e n leaf mark plain approved class_ m record accepts h hsafe hmode hm
    hh hg hc hturn hw hbroken hlatch hforward hback
  have hbounds : turnInBounds direction count n e.leafCount = true := by
    cases direction
    · simpa [turnInBounds] using hforward
    · simpa [turnInBounds] using hback
  let p := (s.heard o).previewEnded .turn
  let t := (s.heard o).turnBegun direction count class_
  have hp : p.outbox = [] ∧ p.frames = s.frames := by
    obtain ⟨hout, hframes⟩ := (s.heard o).previewEnded_keeps .turn
    exact ⟨hout.trans h.1, hframes⟩
  have ht : takeTurn direction count requestedClass (s.heard o) =
      accepted (be 1 (if direction = .forward then 0 else 1) ++ be 1 count ++ be 1 class_ ++ be 2 n) t.startLeaf := by
    rw [← directionCode_eq, ← State.beginTurn_eq (hsafe.heard o)]
    exact takeTurn_accepted hmode hm hh hg hc hw ((Guards.clear_iff _).2 ⟨hbroken, hlatch⟩) hbounds
  obtain ⟨htm, htl, hte, htleaf, htapproval, htsensors, htsettings⟩ :=
    State.turnBegun_first (s := s.heard o) (direction := direction) (count := count) class_ hm
  rw [liftedLeaf_eq] at htl
  have htime : t.liftTime class_ = s.liftTime class_ := by
    simp only [State.liftTime, State.profile, State.setting, State.word, t, htsettings]; rfl
  have hgate : t.gateTime = s.gateTime := by
    simp only [State.gateTime, State.setting, State.word, t, htsettings]; rfl
  have hbegins (hb : plain ∨ approved) := State.startLeaf_begins (s := t) htm rfl htl (by
    rw [htleaf, htapproval, hte]; exact hb)
  rw [htleaf] at hbegins
  refine ⟨fun hb hrest => ?_, fun hb harm hwand => ?_, fun hpl ha => ?_⟩
  · have hrest : ¬ t.cradle.sensors.atRest = true := by rw [htsensors]; exact (not_congr m.atRest_iff).2 hrest
    have hbegun := (hbegins hb).trans ((State.enterBaseline_eq rfl).trans (if_neg hrest))
    refine answersWith_quiet h rfl (ht.trans (congrArg (accepted _) (hbegun.trans ?_))) hp.1 hp.2
    rw [← htime]
    rfl
  · have hrest : t.cradle.sensors.atRest = true := by rw [htsensors]; exact m.atRest_iff.2 ⟨harm, hwand⟩
    have hbegun := (hbegins hb).trans ((State.enterBaseline_eq rfl).trans (if_pos hrest))
    refine answersWith_quiet h rfl (ht.trans (congrArg (accepted _) (hbegun.trans ?_))) hp.1 hp.2
    rw [← hgate]
    rfl
  · have hended := State.startLeaf_refused (s := t) htm htl (by rw [htleaf]; exact hpl)
      (by rw [htapproval, hte]; exact ha)
    obtain ⟨hcradle, -, -, hgauge⟩ := (s.heard o).previewEnded_cradle .turn
    refine answersWith_posts h rfl (ht.trans (congrArg (accepted _) (hended.trans ?_))) hp.1 hp.2
    replace hcradle : p.cradle = s.cradle := hcradle
    replace hgauge : p.gauge = s.gauge := hgauge
    refine (State.endTurn_turnBegun (p := p) (by rw [hcradle]; exact hc) (by rw [hcradle]; exact hturn) _ _ _).trans ?_
    rw [hcradle, hgauge]
    rfl

/-! ### APPROVE TURN and CLEAR REFERENCE -/

/-- The ranges of APPROVE TURN at its link (R57). -/
theorem approveTurn_linkRangeOk (o : Origin) (slot generation leaf : Nat) :
    linkRangeOk (.approveTurn o slot generation leaf) = true ↔ ¬ (7 < slot ∨ 255 < generation ∨ 1023 < leaf) := by
  simp only [linkRangeOk, slotGenOk, within, Bool.and_eq_true, decide_eq_true_eq]
  omega

/-- Settles O33: past its checks each request rewrites its one field; the reply carries what stood there. -/
theorem approvalAndReferenceAreReplaced : Obligations.ApprovalAndReferenceAreReplaced := by
  unfold Obligations.ApprovalAndReferenceAreReplaced
  constructor
  · intro o slot generation leaf s c e h
    split
    · next hr =>
      exact request_out_of_range _ h (by simpa using (not_congr (approveTurn_linkRangeOk ..)).2 (not_not.2 hr))
    next hr =>
    have h := h.accepts ((approveTurn_linkRangeOk ..).2 hr)
    refine named_answers h rfl rfl fun ht => check_answers h rfl ht fun _ ht => ?_
    cases ha : s.cradle.approval
    all_goals
      replace ht : takeApproveTurn slot generation leaf (s.heard o) =
          okay (approvalBytes (some ⟨slot, generation, leaf⟩) ++ approvalBytes s.cradle.approval) _ := ht
      rw [ha] at ht
      exact answersWith_quiet h rfl ht h.1 rfl
  · intro o slot generation s c e h
    exact named_answers h rfl rfl fun ht => answersWith_quiet h rfl ht h.1 rfl

end Sys2Proof.Machine
end

section
/-! PROOFS. Turn faults: the loss of vacuum and the timeouts. -/

namespace Sys2Proof.Machine

/-! ### A turn fault, written out (R66) -/

/-- The cradle of a turn fault: the drives stopped, the valve open or closed as given, the phase timers stopped. -/
def Cradle.faulted (cause : FaultCause) (phase : Phase) (vacuumOpen : Bool) (k : Cradle) : Cradle :=
  { k with
    state := .fault, hold := none, fault := some { cause := cause, phase := some phase }
    timers := { CradleTimers.stopped with angle := k.timers.angle }
    outputs :=
      { k.outputs with armDrive := .stopped, wandDrive := .stopped, vacuumOpen := vacuumOpen, airKnife := none } }

/-- A turn fault with the volume held, before TURN FAULT is posted. -/
def State.faultedAt (cause : FaultCause) (phase : Phase) (vacuumOpen : Bool) (slot : Nat) (s : State) : State :=
  ((s.onCradle (Cradle.faulted cause phase vacuumOpen)).onGauge Gauge.idle).onEntry slot fun e =>
    { e with hold := some .turnFault }

/-- Two rewrites of the cradle that agree on it. -/
theorem State.onCradle_congr {s : State} {f g : Cradle → Cradle} (h : f s.cradle = g s.cradle) :
    s.onCradle f = s.onCradle g := by
  rw [State.onCradle, h]; rfl

section faults
variable {s : State} {r : TurnRecord} {slot : Nat} {cause : FaultCause} {phase : Phase}

theorem State.claimHold_eq (hm : s.mountedSlot = some slot) (cause : HoldCause) :
    s.claimHold cause = s.onEntry slot fun e => { e with hold := some cause } := by
  rw [State.claimHold, hm]

/-- A fault that leaves the leaf where it is leaves the valve open over it (R66). -/
theorem State.turnFault_eq (ht : s.cradle.turn = some r) (hm : s.mountedSlot = some slot) (hc : cause ≠ .vacuumLost) :
    s.turnFault cause phase =
      (s.faultedAt cause phase r.leafOnWand slot).post
        (.turnFault cause (.phase phase) r.done s.cradle.currentLeaf s.gauge.values) := by
  have hw : s.cradle.leafOnWand = r.leafOnWand := by rw [Cradle.leafOnWand, ht]; rfl
  have hd : s.doneCount = r.done := by rw [State.doneCount, ht]; rfl
  rw [State.turnFault, if_neg hc, ← hw, ← hd]
  exact congrArg (State.post _) (State.claimHold_eq (slot := slot) (by exact hm) _)

/-- After a loss of vacuum the leaf is no longer on the wand, and the valve is closed (R66). -/
theorem State.turnFault_vacuumLost (ht : s.cradle.turn = some r) (hm : s.mountedSlot = some slot) :
    s.turnFault .vacuumLost phase =
      ((s.onCradle fun k => { k with turn := some { r with leafOnWand := false } }).faultedAt .vacuumLost phase
        false slot).post
        (.turnFault .vacuumLost (.phase phase) r.done s.cradle.currentLeaf s.gauge.values) := by
  have hl : (s.onCradle fun k => { k with turn := some { r with leafOnWand := false } }).cradle.currentLeaf =
      s.cradle.currentLeaf := by rw [Cradle.currentLeaf, Cradle.currentLeaf, ht]; rfl
  rw [State.turnFault, if_pos rfl, State.onTurn_eq ht, ← hl]
  exact congrArg (State.post _) (State.claimHold_eq (slot := slot) (by exact hm) _)

/-- A loss of vacuum in FAULT replaces the cause alone (R67). -/
theorem State.vacuumLostInFault_eq {f : FaultRecord} (ht : s.cradle.turn = some r) (hm : s.mountedSlot = some slot)
    (hf : s.cradle.fault = some f) (hp : f.phase = some phase) :
    s.vacuumLostInFault =
      ((s.onCradle fun k =>
        { k with
          fault := some { cause := .vacuumLost, phase := some phase }, turn := some { r with leafOnWand := false }
          outputs := { k.outputs with vacuumOpen := false } }).onEntry slot fun e =>
        { e with hold := some .turnFault }).post
        (.turnFault .vacuumLost (.phase phase) r.done s.cradle.currentLeaf s.gauge.values) := by
  have hl : (s.onCradle fun k => { k with turn := some { r with leafOnWand := false } }).cradle.currentLeaf =
      s.cradle.currentLeaf := by rw [Cradle.currentLeaf, Cradle.currentLeaf, ht]; rfl
  have hphase : s.cradle.fault.bind (·.phase) = some phase := by rw [hf]; exact hp
  rw [State.vacuumLostInFault, hphase, State.onTurn_eq ht, ← hl]
  exact congrArg (State.post _) (State.claimHold_eq (slot := slot) (by exact hm) _)

/-- With the leaf on the wand a fall of VACUUM HELD is a loss (R66). -/
theorem State.vacuumHeldTaken_lost (ht : s.cradle.turn = some r) (hw : r.leafOnWand = true)
    (hs : s.cradle.state = .turning ∨ s.cradle.state = .holding) :
    s.vacuumHeldTaken false = s.turnFault .vacuumLost r.phase := by
  have hl : s.cradle.leafOnWand = true := by rw [Cradle.leafOnWand, ht]; exact hw
  rw [State.vacuumHeldTaken, if_pos ⟨rfl, hl, hs⟩, ht]
  rfl

theorem State.vacuumHeldTaken_fault (ht : s.cradle.turn = some r) (hw : r.leafOnWand = true)
    (hs : s.cradle.state = .fault) : s.vacuumHeldTaken false = s.vacuumLostInFault := by
  have hl : s.cradle.leafOnWand = true := by rw [Cradle.leafOnWand, ht]; exact hw
  rw [State.vacuumHeldTaken, if_neg (by rw [hs]; simp), if_pos ⟨rfl, hl, hs⟩]

/-- An expiry of a timer that does not run in a turn (R59, log 3). -/
theorem State.turnExpiry_idle {running : CradleTimers → Option Nat} (hr : running s.cradle.timers = none)
    (act : State → State) : s.turnExpiry running act = s :=
  if_neg fun h => h.2 hr

/-- The recovery timer expires in RECOVERING (R72). -/
theorem State.recoveryTimeout_runs (hs : s.cradle.state = .recovering) (hr : s.cradle.timers.recovery ≠ none) :
    s.recoveryTimeout = (s.onCradle fun k => { k with target := none }).turnFault .timeout .returning :=
  if_pos ⟨hs, hr⟩

theorem State.phaseTimeout_eq (ht : s.cradle.turn = some r) : s.phaseTimeout = s.turnFault .timeout r.phase := by
  rw [State.phaseTimeout, ht]; rfl

end faults

/-- An event that changes nothing. -/
theorem event_idle {f : State → State} {s : State} (hf : f s = s) (hq : s.quiet) : event f s = .next s :=
  event_eq f s s hf hq rfl

/-- Settles O38: each loss or expiry faults the turn as written out, and an expiry of a stopped timer is none. -/
theorem faultsStopTheTurn : Obligations.FaultsStopTheTurn := by
  unfold Obligations.FaultsStopTheTurn
  constructor
  · intro s r slot k hq ht hw hv hm
    let t := s.onSensors fun m => { m with vacuumHeld := false }
    obtain ⟨f, he, hf⟩ := exec_vacuumHeldChange (s := s) (level := false) (by rw [hv]; nofun)
    refine ⟨fun hs => ?_, fun fr phase hs hfr hp => ?_⟩
    · replace hf := hf.trans ((State.vacuumHeldTaken_lost (s := t) ht hw hs).trans (State.turnFault_vacuumLost ht hm))
      exact he.trans (event_posts _ _ _ _ (hf.trans rfl) hq id)
    · replace hf := hf.trans ((State.vacuumHeldTaken_fault (s := t) ht hw hs).trans
        (State.vacuumLostInFault_eq ht hm hfr hp))
      exact he.trans (event_posts _ _ _ _ (hf.trans rfl) hq id)
  · intro s r slot k faulted hq ht hm
    refine ⟨fun hs htarget => ?_, fun hs hr => ?_, fun hr => ?_, fun hr => ?_, fun hr => ?_, fun hr => ?_⟩
    · have expires (running : CradleTimers → Option Nat) (hr : running k.timers ≠ none) :
          event (State.turnExpiry running State.phaseTimeout) s = .next (faulted r.phase) := by
        refine event_posts _ _ _ _ ((State.turnExpiry_runs hs hr _).trans
          ((State.phaseTimeout_eq ht).trans ((State.turnFault_eq ht hm (by nofun)).trans ?_))) hq id
        have hsame : s.onCradle (Cradle.faulted .timeout r.phase r.leafOnWand) =
            s.onCradle fun k => { Cradle.faulted .timeout r.phase r.leafOnWand k with target := none } :=
          State.onCradle_congr (by rw [← htarget]; rfl)
        rw [State.faultedAt, hsame]
        rfl
      exact ⟨expires (·.lift), expires (·.carry), expires (·.lay)⟩
    · have hf := (State.recoveryTimeout_runs hs hr).trans
        (State.turnFault_eq (s := s.onCradle fun k => { k with target := none }) ht hm (by nofun))
      exact event_posts _ _ _ _ (hf.trans rfl) hq id
    · exact event_idle (State.turnExpiry_idle hr _) hq
    · exact event_idle (State.turnExpiry_idle hr _) hq
    · exact event_idle (State.turnExpiry_idle hr _) hq
    · exact event_idle (if_neg fun h => h.2 hr) hq

end Sys2Proof.Machine
end

section
/-! PROOFS. The end of a DROP. -/

namespace Sys2Proof.Machine

/-! ### The end of a DROP, written out (R63) -/

section drop
variable {s : State} {r : TurnRecord} {slot : Nat} {kind : DropKind}

/-- The turn `r` in a DROP that has just begun, with its lift timer (R63). -/
def State.droppingAt (r : TurnRecord) (kind : DropKind) (s : State) : State :=
  s.onCradle fun k =>
    { k with
      turn := some { r with phase := .drop, step := 1, leafOnWand := false, drop := kind }
      timers := { k.timers with pickConfirm := none, lift := some (s.liftTime r.effectiveClass) }
      outputs := { k.outputs with vacuumOpen := false, airKnife := none, wandDrive := .up } }

theorem State.enterDrop_eq (ht : s.cradle.turn = some r) (kind : DropKind) :
    s.enterDrop kind = (s.droppingAt r kind).dropTest := by
  have hb : ∀ t : State, t = s.droppingAt r kind → t.dropTest = (s.droppingAt r kind).dropTest := by
    rintro _ rfl; rfl
  refine hb _ ?_
  simp only [State.onTurn, State.toPhase, State.onTimers, State.onOutputs, State.onCradle, State.effectiveClass,
    State.droppingAt, ht, Option.map_some, Option.getD_some]
  rfl

/-- The leaf is free of the wand, so that a DROP ends (R63). -/
def Sensors.released (m : Sensors) : Prop := m.vacuumHeld = false ∧ m.wandDown = false

theorem State.dropTest_waits (h : ¬ s.cradle.sensors.released) : s.dropTest = s := if_neg h

/-- The record at the end of a DROP: a counted one costs a retry (R63). -/
def TurnRecord.dropEnded (r : TurnRecord) : TurnRecord :=
  { r with retriesUsed := if r.drop = .counted then r.retriesUsed + 1 else r.retriesUsed }

/-- The DROP ends in BASELINE of the same leaf: rejected, or counted within the profile's retries (R63). -/
def State.dropBegins (r : TurnRecord) (s : State) : Prop :=
  r.drop = .rejected ∨ (r.drop = .counted ∧ r.retriesUsed + 1 ≤ s.retries r.effectiveClass)

/-- The DROP faults the turn: unconfirmed, or counted past the profile's retries (R63). -/
def State.dropFaults (r : TurnRecord) (s : State) : Prop :=
  r.drop = .unconfirmed ∨ (r.drop = .counted ∧ s.retries r.effectiveClass < r.retriesUsed + 1)

/-- The cause of the fault in which a DROP ends (R63). -/
def TurnRecord.dropCause (r : TurnRecord) : FaultCause :=
  if r.drop = .unconfirmed then .noConfirm
  else if r.lastClass = some .nothing then .pickNone
  else .pickDouble

theorem TurnRecord.dropCause_ne (r : TurnRecord) : r.dropCause ≠ .vacuumLost := by
  unfold TurnRecord.dropCause
  split
  · nofun
  · split <;> nofun

theorem TurnRecord.dropEnded_counted (h : r.drop = .counted) :
    r.dropEnded = { r with retriesUsed := r.retriesUsed + 1 } := by
  rw [TurnRecord.dropEnded, if_pos h]

theorem TurnRecord.dropEnded_uncounted (h : r.drop ≠ .counted) : r.dropEnded = r := by
  rw [TurnRecord.dropEnded, if_neg h]

/-- The turn `r` with its DROP ended, before what follows it. -/
def State.dropEnded (r : TurnRecord) (s : State) : State := s.onCradle fun k => { k with turn := some r.dropEnded }

theorem State.dropEnded_uncounted (ht : s.cradle.turn = some r) (h : r.drop ≠ .counted) : s.dropEnded r = s := by
  rw [State.dropEnded, TurnRecord.dropEnded_uncounted h]
  exact State.onCradle_congr (g := id) (by rw [← ht]; rfl)

/-- A counted DROP costs a retry, and goes on while the profile grants it (R63). -/
theorem State.resolveDrop_counted (ht : s.cradle.turn = some r) (hd : r.drop = .counted) :
    s.resolveDrop =
      if r.retriesUsed + 1 ≤ s.retries r.effectiveClass then (s.dropEnded r).enterBaseline
      else (s.dropEnded r).turnFault r.dropCause .drop := by
  have hended : s.onTurn (fun t => { t with retriesUsed := t.retriesUsed + 1 }) = s.dropEnded r := by
    rw [State.onTurn_eq ht, State.dropEnded, TurnRecord.dropEnded_counted hd]
  have hcause : r.dropCause = if r.lastClass = some .nothing then .pickNone else .pickDouble := by
    rw [TurnRecord.dropCause, hd]; rfl
  rw [State.resolveDrop, ht, hcause]
  simp only [hd, hended]
  by_cases hr : r.retriesUsed + 1 ≤ s.retries r.effectiveClass
  · rw [if_pos hr]; exact if_pos hr
  · rw [if_neg hr]
    refine (if_neg hr).trans ?_
    split <;> rfl

theorem State.resolveDrop_begins (ht : s.cradle.turn = some r) (h : s.dropBegins r) :
    s.resolveDrop = (s.dropEnded r).enterBaseline := by
  rcases h with hd | ⟨hd, hr⟩
  · rw [State.resolveDrop_rejected ht hd, State.dropEnded_uncounted ht (by rw [hd]; nofun)]
  · rw [State.resolveDrop_counted ht hd, if_pos hr]

theorem State.resolveDrop_faults (ht : s.cradle.turn = some r) (h : s.dropFaults r) :
    s.resolveDrop = (s.dropEnded r).turnFault r.dropCause .drop := by
  rcases h with hd | ⟨hd, hr⟩
  · rw [State.dropEnded_uncounted ht (by rw [hd]; nofun), State.resolveDrop, ht, TurnRecord.dropCause, if_pos hd]
    simp only [hd]
  · rw [State.resolveDrop_counted ht hd, if_neg (not_le.2 hr)]

/-- A DROP whose leaf is free ends in BASELINE of the same leaf, at its step 1 or at its gate (R60, R63). -/
theorem State.dropTest_begins (ht : s.cradle.turn = some r) (hl : s.cradle.sensors.released) (h : s.dropBegins r) :
    s.dropTest =
      if s.cradle.sensors.armRest then (s.baselineAt r.dropEnded 2 none).startGate .baseline
      else s.baselineAt r.dropEnded 1 (some (s.liftTime r.effectiveClass)) := by
  let t := s.onTimers fun t => { t with lift := none }
  have hended : s.dropTest = (t.dropEnded r).enterBaseline :=
    (if_pos hl).trans (State.resolveDrop_begins (s := t) ht h)
  rw [hended, State.enterBaseline_eq rfl]
  exact if_congr ((Sensors.atRest_iff _).trans (and_iff_left hl.2)) rfl rfl

/-- A DROP whose leaf is free faults the turn (R63, R66). -/
theorem State.dropTest_faults (ht : s.cradle.turn = some r) (hl : s.cradle.sensors.released) (h : s.dropFaults r)
    (hm : s.mountedSlot = some slot) :
    s.dropTest =
      ((s.dropEnded r).faultedAt r.dropCause .drop r.leafOnWand slot).post
        (.turnFault r.dropCause (.phase .drop) r.done s.cradle.currentLeaf s.gauge.values) := by
  let t := s.onTimers fun t => { t with lift := none }
  have hleaf : (t.dropEnded r).cradle.currentLeaf = s.cradle.currentLeaf := by
    rw [Cradle.currentLeaf, Cradle.currentLeaf, ht]; rfl
  have hended : s.dropTest = (t.dropEnded r).turnFault r.dropCause .drop :=
    (if_pos hl).trans (State.resolveDrop_faults (s := t) ht h)
  rw [hended, State.turnFault_eq (s := t.dropEnded r) (r := r.dropEnded) rfl hm r.dropCause_ne, hleaf]
  rfl

end drop

/-! ### What an event delivers when it leaves the links alone -/

theorem State.notified_announced {s t : State} (h : t.links = s.links) (notices : List Notice) :
    s.notified (t.announced notices) notices := by
  intro link
  rw [State.port_announced, State.port, State.port, h]
  exact ⟨rfl, rfl⟩

theorem State.notified_nil {s t : State} (h : t.links = s.links) : s.notified t [] := by
  have := State.notified_announced h []
  rwa [State.announced_nil] at this

theorem State.motionFrame.sameButTurning {s t : State} (h : s.motionFrame t) : t.sameButTurning s := by
  obtain ⟨hstation, hsettings, hguards, hlights, hmeter, hframes, hwalker, -, hpending, -⟩ := h
  exact ⟨hstation.symm, hsettings.symm, hguards.symm, hlights.symm, hmeter.symm, hframes.symm, hwalker.symm,
    hpending.symm⟩

theorem State.sameButTurning.announced {s t : State} {n : Notice} (h : (t.post n).sameButTurning s)
    (notices : List Notice) : (t.announced notices).sameButTurning s := h

/-- Only one of the two ends of a DROP is its own. -/
theorem State.dropBegins.not_faults {s : State} {r : TurnRecord} (h : s.dropBegins r) : ¬ s.dropFaults r := by
  rintro (hf | ⟨hf, hlt⟩)
  · rcases h with hd | ⟨hd, -⟩ <;> rw [hd] at hf <;> cases hf
  · rcases h with hd | ⟨-, hr⟩
    · rw [hd] at hf; cases hf
    · omega

theorem State.dropBegins_or_faults (s : State) (r : TurnRecord) : s.dropBegins r ∨ s.dropFaults r := by
  cases hd : r.drop with
  | rejected => exact .inl (.inl hd)
  | unconfirmed => exact .inr (.inl hd)
  | counted => exact (Nat.lt_or_ge _ _).symm.imp (fun h => .inr ⟨hd, h⟩) fun h => .inr ⟨hd, h⟩

/-- Settles O41: the change that frees the leaf ends the DROP, in BASELINE of the same leaf or in a fault. -/
theorem dropsAreCounted : Obligations.DropsAreCounted := by
  unfold Obligations.DropsAreCounted
  intro byWand s r slot k c used hq hs ht hp hw hv hd hm
  have hat : s.cradle.turningAt r .drop r.step := ⟨hs, ht, hp, rfl⟩
  obtain ⟨m, hfree⟩ : ∃ m, s.cradle.comesFree c m := by
    cases byWand
    · exact ⟨_, .inl ⟨rfl, hv, hd, rfl⟩⟩
    · exact ⟨_, .inr ⟨rfl, hd, hv, rfl⟩⟩
  obtain ⟨f, he, hf⟩ := hfree.drop hat hw
  obtain ⟨hl, harm⟩ := hfree.levels
  let t := s.onSensors fun _ => m
  have hkeeps : s.motionFrame t.dropTest := (State.onSensors_keeps _ s).trans (State.dropTest_keeps t)
  have counted (hdrop : r.drop = .counted) : used = r.retriesUsed + 1 := if_pos hdrop
  rcases s.dropBegins_or_faults r with hgo | hgo
  · have hu : t.dropTest = _ := State.dropTest_begins ht hl hgo
    have hexec := he.trans (event_eq f s _ (hf.trans hu) (by split <;> exact hq) (by split <;> rfl))
    rw [hu] at hkeeps
    refine ⟨_, hexec, by split <;> rfl, hkeeps.sameButTurning, by split <;> rfl, by split <;> rfl,
      fun i _ _ => by split <;> rfl, ?_⟩
    intro begins faults
    have hb : begins := by
      refine ⟨by split <;> exact hs, by split <;> rfl, State.notified_nil (by split <;> rfl), ?_⟩
      change if s.cradle.sensors.armRest = true then _ else _
      rw [← harm]
      by_cases hr : m.armRest = true
      · rw [if_pos hr, if_pos (show t.cradle.sensors.armRest = true from hr)]
        exact ⟨rfl, rfl, rfl, rfl, rfl⟩
      · rw [if_neg hr, if_neg (show ¬ t.cradle.sensors.armRest = true from hr)]
        exact ⟨rfl, rfl, rfl⟩
    have hnot := hgo.not_faults
    exact ⟨fun _ _ => hb, fun hdrop hlt => absurd (.inr ⟨hdrop, counted hdrop ▸ hlt⟩) hnot, fun _ => hb,
      fun hdrop => absurd (.inl hdrop) hnot⟩
  · let u := (t.dropEnded r).faultedAt r.dropCause .drop r.leafOnWand slot
    let n : Notice := .turnFault r.dropCause (.phase .drop) r.done k.currentLeaf s.gauge.values
    have hu : t.dropTest = u.post n := State.dropTest_faults (s := t) ht hl hgo hm
    have hexec : exec c s = .next (u.announced [n]) := he.trans (event_posts f s u n (hf.trans hu) hq id)
    obtain ⟨hs8, -⟩ := State.mountedSlot_some.1 hm
    have hentry (i : Nat) (hi : i < 8) : u.entry i =
        if slot = i then { s.entry i with hold := some .turnFault } else s.entry i :=
      State.entry_onEntry s slot i _ hi
    have hothers (i : Nat) (hi : i < 8) (hne : i ≠ slot) : u.entry i = s.entry i := by
      rw [hentry i hi, if_neg hne.symm]
    rw [hu] at hkeeps
    refine ⟨_, hexec, rfl, hkeeps.sameButTurning.announced [n], rfl, rfl, hothers, ?_⟩
    intro begins faults
    have hheld : u.entry slot = { s.entry slot with hold := some .turnFault } := by rw [hentry slot hs8, if_pos rfl]
    have hb : faults r.dropCause := ⟨rfl, rfl, rfl, hheld, State.notified_announced (t := u) rfl [n]⟩
    have hnot := fun h => State.dropBegins.not_faults h hgo
    refine ⟨fun hdrop hle => ?_, fun hdrop _ => ?_, fun hdrop => absurd (.inl hdrop) hnot, fun hdrop => ?_⟩
    · exact absurd (.inr ⟨hdrop, counted hdrop ▸ hle⟩) hnot
    · rwa [TurnRecord.dropCause, if_neg (by rw [hdrop]; nofun)] at hb
    · rwa [TurnRecord.dropCause, if_pos hdrop] at hb

end Sys2Proof.Machine
end

section
/-! PROOFS. The pick: its confirmation, its classification by the gauge gate. -/

namespace Sys2Proof.Machine

/-! ### CONFIRM PICK and REJECT PICK -/

theorem Cradle.inPickConfirm_iff (k : Cradle) :
    k.inPickConfirm = true ↔ (k.state = .turning ∧ k.turn.map (·.phase) = some .pickConfirm) := by
  simp [Cradle.inPickConfirm]

section picked
variable {s : State} {r : TurnRecord} {slot leaf : Nat} {act : Served}

theorem State.picked_state (h : ¬ s.cradle.inPickConfirm = true) : s.picked slot leaf act = refuse .state [] s :=
  if_pos (Bool.not_eq_true _ ▸ h)

theorem State.picked_stale (h : s.cradle.inPickConfirm = true)
    (hn : ¬ (s.mountedSlot = some slot ∧ s.cradle.currentLeaf = some leaf)) :
    s.picked slot leaf act = refuse .stale [] s :=
  (if_neg (by rw [h]; nofun)).trans (if_pos (not_and_or.1 hn))

theorem State.picked_named (h : s.cradle.inPickConfirm = true)
    (hn : s.mountedSlot = some slot ∧ s.cradle.currentLeaf = some leaf) : s.picked slot leaf act = act :=
  (if_neg (by rw [h]; nofun)).trans (if_neg fun hc => not_and_or.2 hc hn)

/-- CARRY begins (R64). -/
theorem State.enterCarry_eq (h : s.cradle.turn = some r) :
    s.enterCarry =
      s.onCradle fun k =>
        { k with
          turn := some { r with phase := .carry, step := 1 }
          timers := { k.timers with pickConfirm := none, carry := some (s.carryTime r.effectiveClass) }
          outputs :=
            { k.outputs with armDrive := .toFar (s.carrySpeed r.effectiveClass), wandDrive := .up,
                             vacuumOpen := true } } := by
  simp only [State.enterCarry, State.onTurn, State.toPhase, State.onTimers, State.onOutputs, State.onCradle,
    State.effectiveClass_eq h, h, Option.map_some]

end picked

/-- Settles O40: the two checks, then CARRY, or a DROP that waits or ends in the same event. -/
theorem pickConfirmationCarriesOrDrops : Obligations.PickConfirmationCarriesOrDrops := by
  unfold Obligations.PickConfirmationCarriesOrDrops
  intro o slot leaf s k waiting named released dropped
  have hwait : k.inPickConfirm = true ↔ waiting := k.inPickConfirm_iff
  refine ⟨fun c hc h => ?_, fun r h hw hn ht => ?_, fun r h hw hn ht => ?_, fun r hq hs ht hrun => ?_⟩
  · rcases hc with rfl | rfl
    · exact ⟨fun hw => onlyAnswers_of_take h rfl (State.picked_state (s := s.heard o) (mt hwait.1 hw)),
        fun hw hn => onlyAnswers_of_take h rfl (State.picked_stale (s := s.heard o) (hwait.2 hw) hn)⟩
    · exact ⟨fun hw => onlyAnswers_of_take h rfl (State.picked_state (s := s.heard o) (mt hwait.1 hw)),
        fun hw hn => onlyAnswers_of_take h rfl (State.picked_stale (s := s.heard o) (hwait.2 hw) hn)⟩
  · refine answersWith_quiet h rfl ((State.picked_named (s := s.heard o) (hwait.2 hw) hn).trans ?_) h.1 rfl
    let t := (s.heard o).onEntry slot fun e => { e with reference := s.gauge.delta }
    exact congrArg (okay _) (State.enterCarry_eq (s := t) ht)
  · let t := (s.heard o).droppingAt r .rejected
    have hp : takeRejectPick slot leaf (s.heard o) = okay [] t.dropTest :=
      (State.picked_named (s := s.heard o) (hwait.2 hw) hn).trans
        (congrArg (okay []) (State.enterDrop_eq (s := s.heard o) ht _))
    refine ⟨fun hl => ?_, fun hl harm => ?_, fun hl harm => ?_⟩
    · exact answersWith_quiet h rfl (hp.trans (congrArg (okay []) (State.dropTest_waits (s := t) hl))) h.1 rfl
    · have hd := (State.dropTest_begins (s := t) rfl hl (.inl rfl)).trans (if_neg (ne_true_of_eq_false harm))
      exact answersWith_quiet h rfl (hp.trans (congrArg (okay []) hd)) h.1 rfl
    · have hd := (State.dropTest_begins (s := t) rfl hl (.inl rfl)).trans (if_pos harm)
      exact answersWith_quiet h rfl (hp.trans (congrArg (okay []) hd)) h.1 rfl
  · let t := s.droppingAt r .unconfirmed
    have hp : s.turnExpiry (·.pickConfirm) (State.enterDrop .unconfirmed) = t.dropTest :=
      (State.turnExpiry_runs (running := (·.pickConfirm)) hs hrun _).trans (State.enterDrop_eq ht _)
    refine ⟨fun hl => ?_, fun hl hm => ?_⟩
    · exact event_eq _ s _ (hp.trans (State.dropTest_waits hl)) hq rfl
    · let r' : TurnRecord := { r with phase := .drop, step := 1, leafOnWand := false, drop := .unconfirmed }
      have hleaf : t.cradle.currentLeaf = k.currentLeaf := by rw [Cradle.currentLeaf, Cradle.currentLeaf, ht]; rfl
      have hd := State.dropTest_faults (s := t) (r := r') rfl hl (.inl rfl) hm
      rw [hleaf] at hd
      exact event_posts _ s _ _ (hp.trans hd) hq id

/-! ### The gauge gate -/

/-- A cycle counts in a gate alone (R77). -/
theorem Gauge.cycle_eq (g : Gauge) :
    g.cycle =
      if g.gate = none then g
      else { g with count := min 65535 (g.count + 1),
                    countSaturated := g.countSaturated || decide (65535 ≤ g.count + 1) } := by
  simp only [Gauge.cycle, satAdd]

section gate
variable {s : State} {r : TurnRecord} {slot : Nat}

/-- LIFT begins (R61). -/
theorem State.enterLift_eq (h : s.cradle.turn = some r) :
    s.enterLift =
      s.onCradle fun k =>
        { k with
          turn := some { r with phase := .lift, step := 1 }
          timers := { k.timers with lift := some (s.liftTime r.effectiveClass) }
          outputs := { k.outputs with airKnife := some (s.airLevel r.effectiveClass), wandDrive := .down } } := by
  simp only [State.enterLift, State.onTurn, State.toPhase, State.onTimers, State.onOutputs, State.onCradle,
    State.effectiveClass_eq h, h, Option.map_some]

theorem State.gateEnd_baseline (hs : s.cradle.state = .turning) (hg : s.gauge.gate = some .baseline) :
    s.gateEnd = (s.onGauge Gauge.takeBaseline).enterLift := by
  rw [State.gateEnd, if_neg (not_not.2 hs), hg]

theorem State.gateEnd_lift (hs : s.cradle.state = .turning) (hg : s.gauge.gate = some .lift)
    (hm : s.mountedSlot = some slot) : s.gateEnd = s.liftGateEnd slot := by
  rw [State.gateEnd, if_neg (not_not.2 hs), hg, hm]

/-- The class of the reading that ends a LIFT gate (R79). -/
def State.pickRead (slot : Nat) (s : State) : PickClass :=
  classify s.gauge.countSaturated (s.entry slot).reference (gaugeDelta s.gauge.baseline s.gauge.count)

/-- The reading that ends a LIFT gate is taken, and a SINGLE adapts the reference (R79, R80). -/
def State.liftRead (slot : Nat) (s : State) : State :=
  let t := s.onGauge (Gauge.takeReading (s.entry slot).reference)
  if s.pickRead slot = .single then
    t.onEntry slot fun e => { e with reference := adaptReference (s.entry slot).reference t.gauge.delta }
  else t

theorem State.liftGateEnd_eq (slot : Nat) (s : State) :
    s.liftGateEnd slot = (s.liftRead slot).afterLift slot (s.pickRead slot) := rfl

theorem State.liftRead_single (h : s.pickRead slot = .single) :
    s.liftRead slot =
      (s.onGauge (Gauge.takeReading (s.entry slot).reference)).onEntry slot fun e =>
        { e with
          reference :=
            adaptReference (s.entry slot).reference (gaugeDelta s.gauge.baseline s.gauge.count) } :=
  if_pos h

theorem State.liftRead_other (h : s.pickRead slot ≠ .single) :
    s.liftRead slot = s.onGauge (Gauge.takeReading (s.entry slot).reference) :=
  if_neg h

/-- The turn `r` with the class of its last pick, the air knife off (R61). -/
def State.pickTaken (r : TurnRecord) (pick : PickClass) (s : State) : State :=
  s.onCradle fun k =>
    { k with turn := some { r with lastClass := some pick }, outputs := { k.outputs with airKnife := none } }

theorem State.pickTaken_eq (h : s.cradle.turn = some r) (pick : PickClass) :
    ((s.onOutputs fun o => { o with airKnife := none }).onTurn fun t => { t with lastClass := some pick }) =
      s.pickTaken r pick := by
  simp only [State.onTurn, State.onOutputs, State.onCradle, State.pickTaken, h, Option.map_some]

theorem State.afterLift_single (h : s.cradle.turn = some r) :
    s.afterLift slot .single = (s.pickTaken r .single).enterCarry := by
  rw [← State.pickTaken_eq h]; rfl

theorem State.afterLift_dropped {pick : PickClass} (h : s.cradle.turn = some r) (hsingle : pick ≠ .single)
    (hunknown : pick ≠ .unknown) : s.afterLift slot pick = (s.pickTaken r pick).enterDrop .counted := by
  rw [← State.pickTaken_eq h]
  cases pick with
  | single => exact absurd rfl hsingle
  | unknown => exact absurd rfl hunknown
  | nothing => rfl
  | double => rfl
  | saturated => rfl

/-- An UNKNOWN waits for its confirmation (R61, R62). -/
theorem State.afterLift_unknown (h : s.cradle.turn = some r) :
    s.afterLift slot .unknown =
      (s.onCradle fun k =>
        { k with
          turn := some { r with phase := .pickConfirm, step := 1, lastClass := some .unknown }
          timers := { k.timers with pickConfirm := some s.pickConfirmTime }
          outputs := { k.outputs with airKnife := none, wandDrive := .up, vacuumOpen := true } }).post
        (.pickConfirmNeeded slot (s.cradle.currentLeaf.getD 0) s.gauge.baseline s.gauge.reading s.gauge.delta) := by
  have hleaf : (s.pickTaken r .unknown).cradle.currentLeaf = s.cradle.currentLeaf := by
    rw [Cradle.currentLeaf, Cradle.currentLeaf, h]; rfl
  have hgoes : s.afterLift slot .unknown =
      (s.pickTaken r .unknown).enterPickConfirm.post
        (.pickConfirmNeeded slot ((s.pickTaken r .unknown).cradle.currentLeaf.getD 0) s.gauge.baseline s.gauge.reading
          s.gauge.delta) := by
    rw [← State.pickTaken_eq h]; rfl
  rw [hgoes, hleaf]
  rfl

end gate

/-- Settles O42: a gate counts and ends; the pick it reads is carried, waits for its confirmation, or is dropped. -/
theorem gaugeGatesClassifyThePick : Obligations.GaugeGatesClassifyThePick := by
  unfold Obligations.GaugeGatesClassifyThePick
  intro s r slot k g e ref delta pick read released dropped hq
  refine ⟨?_, fun hs ht hg => ?_, fun hs ht hg hm => ?_⟩
  · exact event_eq _ s _ (congrArg s.onGauge (funext Gauge.cycle_eq)) hq rfl
  · have hu := (State.gateEnd_baseline hs hg).trans (State.enterLift_eq (s := s.onGauge Gauge.takeBaseline) ht)
    exact event_eq _ s _ hu hq rfl
  · have hpick : s.pickRead slot = pick := rfl
    have hend : s.gateEnd = (s.liftRead slot).afterLift slot pick := State.gateEnd_lift hs hg hm
    let t := s.onGauge read
    have hread (h : pick ≠ .single) : s.gateEnd = t.afterLift slot pick := by
      rw [hend, State.liftRead_other h]
      rfl
    let r' : TurnRecord :=
      { r with phase := .drop, step := 1, leafOnWand := false, drop := .counted, lastClass := some pick }
    let d := (t.pickTaken r pick).droppingAt { r with lastClass := some pick } .counted
    have hdrop (h1 : pick ≠ .single) (h2 : pick ≠ .unknown) : s.gateEnd = d.dropTest := by
      rw [hread h1, State.afterLift_dropped (s := t) ht h1 h2]
      exact State.enterDrop_eq (s := t.pickTaken r pick) rfl _
    refine ⟨fun h => ?_, fun h => ?_, fun h1 h2 hl => ?_, fun h1 h2 hl hr => ?_, fun h1 h2 hl hr => ?_⟩
    · have hu := State.enterCarry_eq (s := (s.liftRead slot).pickTaken r .single) rfl
      rw [h, State.afterLift_single (s := s.liftRead slot) (by rw [State.liftRead_single (hpick.trans h)]; exact ht), hu,
        State.liftRead_single (hpick.trans h)] at hend
      exact event_eq _ s _ hend hq rfl
    · have hu := (hread (by rw [h]; nofun)).trans
        ((congrArg (fun p => t.afterLift slot p) h).trans (State.afterLift_unknown (s := t) ht))
      exact event_posts _ s _ _ hu hq id
    · exact event_eq _ s _ ((hdrop h1 h2).trans (State.dropTest_waits (s := d) hl)) hq rfl
    · have hd := (hdrop h1 h2).trans (State.dropTest_begins (s := d) (r := r') rfl hl (.inr ⟨rfl, hr⟩))
      by_cases harm : k.sensors.armRest = true
      · exact event_eq _ s _ (hd.trans ((if_pos harm).trans (if_pos harm).symm)) (by rw [if_pos harm]; exact hq)
          (by rw [if_pos harm]; rfl)
      · exact event_eq _ s _ (hd.trans ((if_neg harm).trans (if_neg harm).symm)) (by rw [if_neg harm]; exact hq)
          (by rw [if_neg harm]; rfl)
    · have hd := (hdrop h1 h2).trans (State.dropTest_faults (s := d) (r := r') rfl hl (.inr ⟨rfl, hr⟩) hm)
      have hleaf : d.cradle.currentLeaf = k.currentLeaf := by rw [Cradle.currentLeaf, Cradle.currentLeaf, ht]; rfl
      have hcause : r'.dropCause = if pick = .nothing then .pickNone else .pickDouble := by
        simp only [TurnRecord.dropCause, r', Option.some.injEq, reduceCtorEq, if_false]
      rw [hleaf, hcause] at hd
      exact event_posts _ s _ _ hd hq id

end Sys2Proof.Machine
end

section
/-! PROOFS. The sensor changes that nothing awaits. -/

namespace Sys2Proof.Machine

section unmet
variable {s : State} {level : Bool}

/-- The mechanism is at rest where an ARM REST or WAND DOWN change may end a move of it (R51, R60, R65, R72). -/
def State.restEnds (s : State) : Prop :=
  s.cradle.sensors.atRest = true ∧
    ((s.cradle.state = .parking ∧ s.cradle.drive = .moving ∧ 178 ≤ s.cradle.sensors.angle) ∨
      s.cradle.state = .recovering ∨ s.cradle.turningStep = some (.baseline, 1) ∨
      ∃ n, s.cradle.turningStep = some (.returning, n))

theorem State.parkingTest_waits
    (h : ¬ (s.cradle.drive = .moving ∧ 178 ≤ s.cradle.sensors.angle ∧ s.cradle.sensors.atRest = true)) :
    s.parkingTest = s :=
  if_neg fun ⟨hd, ha, hr⟩ => h ⟨hd, by simp only [Config.flatAngle, Config.angleTolerance] at ha; omega, hr⟩

theorem State.recoveryTest_waits (h : ¬ s.cradle.sensors.atRest = true) : s.recoveryTest = s := by
  unfold State.recoveryTest
  split
  · exact if_neg h
  · rfl

theorem State.baselineTest_waits (h : ¬ s.cradle.sensors.atRest = true) : s.baselineTest = s := if_neg h

theorem State.returnTest_waits (h : ¬ s.cradle.sensors.atRest = true) : s.returnTest = s := if_neg h

theorem State.parkingTest_unmet (h : ¬ s.restEnds) (hs : s.cradle.state = .parking) : s.parkingTest = s :=
  State.parkingTest_waits fun ⟨hd, ha, hr⟩ => h ⟨hr, .inl ⟨hs, hd, ha⟩⟩

theorem State.recoveryTest_unmet (h : ¬ s.restEnds) (hs : s.cradle.state = .recovering) : s.recoveryTest = s :=
  State.recoveryTest_waits fun hr => h ⟨hr, .inr (.inl hs)⟩

theorem State.baselineTest_unmet (h : ¬ s.restEnds) (hs : s.cradle.turningStep = some (.baseline, 1)) :
    s.baselineTest = s :=
  State.baselineTest_waits fun hr => h ⟨hr, .inr (.inr (.inl hs))⟩

theorem State.returnTest_unmet {n : Nat} (h : ¬ s.restEnds) (hs : s.cradle.turningStep = some (.returning, n)) :
    s.returnTest = s :=
  State.returnTest_waits fun hr => h ⟨hr, .inr (.inr (.inr ⟨n, hs⟩))⟩

theorem State.armRestTaken_unmet (h : ¬ s.restEnds) : s.armRestTaken = s := by
  unfold State.armRestTaken
  split
  next hs => exact State.parkingTest_unmet h hs
  next hs => exact State.recoveryTest_unmet h hs
  next hs _ _ => exact State.baselineTest_unmet h hs
  next hs _ _ => exact State.returnTest_unmet h hs
  next => rfl

theorem State.wandDownTaken_unmet (h : ¬ s.restEnds)
    (hlift1 : s.cradle.turningStep = some (.lift, 1) → level = false)
    (hlift3 : s.cradle.turningStep = some (.lift, 3) → level = true)
    (hlay1 : s.cradle.turningStep = some (.lay, 1) → level = false)
    (hdrop : ∀ n, s.cradle.turningStep = some (.drop, n) → ¬ s.cradle.sensors.released) :
    s.wandDownTaken level = s := by
  unfold State.wandDownTaken
  split
  next hs => exact State.parkingTest_unmet h hs
  next hs => exact State.recoveryTest_unmet h hs
  next hs _ _ => exact State.baselineTest_unmet h hs
  next hs _ _ => rw [hlift1 hs]; rfl
  next hs _ _ => rw [hlift3 hs]; rfl
  next hs _ _ => exact State.dropTest_waits (hdrop _ hs)
  next hs _ _ => rw [hlay1 hs]; rfl
  next hs _ _ => exact State.returnTest_unmet h hs
  next => rfl

/-- The fall of VACUUM HELD tears the leaf from the wand (R66, R67). -/
def Cradle.losesLeaf (k : Cradle) (level : Bool) : Prop :=
  level = false ∧ k.leafOnWand = true ∧ (k.state = .turning ∨ k.state = .holding ∨ k.state = .fault)

theorem Cradle.keepsLeaf {k : Cradle} {level : Bool}
    (h : k.state ≠ .turning ∧ k.state ≠ .holding ∧ k.state ≠ .fault) : ¬ k.losesLeaf level := by
  rintro ⟨-, -, hs | hs | hs⟩
  · exact h.1 hs
  · exact h.2.1 hs
  · exact h.2.2 hs

theorem State.vacuumHeldTaken_unmet (h : ¬ s.cradle.losesLeaf level)
    (hlift2 : s.cradle.turningStep = some (.lift, 2) → level = false)
    (hlay2 : s.cradle.turningStep = some (.lay, 2) → level = true)
    (hdrop : ∀ n, s.cradle.turningStep = some (.drop, n) → ¬ s.cradle.sensors.released) :
    s.vacuumHeldTaken level = s := by
  unfold State.vacuumHeldTaken
  rw [if_neg fun ⟨hl, hw, hs⟩ => h ⟨hl, hw, hs.imp_right .inl⟩,
    if_neg fun ⟨hl, hw, hs⟩ => h ⟨hl, hw, .inr (.inr hs)⟩]
  split
  next hs => rw [hlift2 hs]; rfl
  next hs => exact State.dropTest_waits (hdrop _ hs)
  next hs => rw [hlay2 hs]; rfl
  next => rfl

theorem State.armFarTaken_unmet (h : ∀ n, s.cradle.turningStep = some (.carry, n) → level = false) :
    s.armFarTaken level = s := by
  unfold State.armFarTaken
  split
  next hs => rw [h _ hs]; rfl
  next => rfl

theorem State.angleTaken_unmet (hsettle : s.cradle.state ≠ .settling)
    (hpark : s.cradle.state = .parking →
      ¬ (s.cradle.drive = .moving ∧ 178 ≤ s.cradle.sensors.angle ∧ s.cradle.sensors.atRest = true)) :
    s.angleTaken = s := by
  unfold State.angleTaken
  split
  next hs => exact absurd hs hsettle
  next hs => exact State.parkingTest_waits (hpark hs)
  next => rfl

end unmet

/-! ### A change whose taking changes nothing is only read, also to the level that stands (log 5) -/

section reads
variable {s : State} (hq : s.quiet)
include hq

/-- A change to a level that stands, or whose taking changes nothing, is only read. -/
theorem event_only_read {f act : State → State} {g : Sensors → Sensors} {p : Prop} [Decidable p]
    (hf : f s = if p then s else act (s.onSensors g)) (hstands : p → s.onSensors g = s)
    (h : act (s.onSensors g) = s.onSensors g) : event f s = .next (s.onSensors g) := by
  refine event_eq f s _ (hf.trans ?_) hq rfl
  split
  · next hp => exact (hstands hp).symm
  · exact h

theorem State.angle_only_read {degrees : Nat}
    (h : (s.onSensors fun m => { m with angle := degrees }).angleTaken =
      s.onSensors fun m => { m with angle := degrees }) :
    exec (.angleChange degrees) s = .next (s.onSensors fun m => { m with angle := degrees }) := by
  change execAngleChange degrees s = _
  exact event_only_read hq rfl (fun hstands => by subst hstands; rfl) h

theorem State.wandDown_only_read {level : Bool}
    (h : (s.onSensors fun m => { m with wandDown := level }).wandDownTaken level =
      s.onSensors fun m => { m with wandDown := level }) :
    exec (.wandDownChange level) s = .next (s.onSensors fun m => { m with wandDown := level }) := by
  change execWandDownChange level s = _
  exact event_only_read hq rfl (fun hstands => by subst hstands; rfl) h

theorem State.vacuumHeld_only_read {level : Bool}
    (h : (s.onSensors fun m => { m with vacuumHeld := level }).vacuumHeldTaken level =
      s.onSensors fun m => { m with vacuumHeld := level }) :
    exec (.vacuumHeldChange level) s = .next (s.onSensors fun m => { m with vacuumHeld := level }) := by
  change execVacuumHeldChange level s = _
  exact event_only_read hq rfl (fun hstands => by subst hstands; rfl) h

theorem State.armFar_only_read {level : Bool}
    (h : (s.onSensors fun m => { m with armFar := level }).armFarTaken level =
      s.onSensors fun m => { m with armFar := level }) :
    exec (.armFarChange level) s = .next (s.onSensors fun m => { m with armFar := level }) := by
  change execArmFarChange level s = _
  exact event_only_read hq rfl (fun hstands => by subst hstands; rfl) h

theorem State.armRest_only_read {level : Bool}
    (h : (s.onSensors fun m => { m with armRest := level }).armRestTaken =
      s.onSensors fun m => { m with armRest := level }) :
    exec (.armRestChange level) s = .next (s.onSensors fun m => { m with armRest := level }) := by
  change execArmRestChange level s = _
  exact event_only_read hq rfl (fun hstands => by subst hstands; rfl) h

theorem State.angle_stands : exec (.angleChange s.cradle.sensors.angle) s = .next s := by
  change execAngleChange s.cradle.sensors.angle s = _
  exact event_eq _ s s (if_pos rfl) hq rfl

theorem State.wandDown_stands : exec (.wandDownChange s.cradle.sensors.wandDown) s = .next s := by
  change execWandDownChange s.cradle.sensors.wandDown s = _
  exact event_eq _ s s (if_pos rfl) hq rfl

theorem State.vacuumHeld_stands : exec (.vacuumHeldChange s.cradle.sensors.vacuumHeld) s = .next s := by
  change execVacuumHeldChange s.cradle.sensors.vacuumHeld s = _
  exact event_eq _ s s (if_pos rfl) hq rfl

theorem State.armFar_stands : exec (.armFarChange s.cradle.sensors.armFar) s = .next s := by
  change execArmFarChange s.cradle.sensors.armFar s = _
  exact event_eq _ s s (if_pos rfl) hq rfl

theorem State.armRest_stands : exec (.armRestChange s.cradle.sensors.armRest) s = .next s := by
  change execArmRestChange s.cradle.sensors.armRest s = _
  exact event_eq _ s s (if_pos rfl) hq rfl

end reads

/-! ### The states that await no sensor, and the steps of a turn that await another -/

section awaited
variable {s : State} {level : Bool} (hq : s.quiet)

theorem Cradle.turningStep_none {k : Cradle} (h : k.state ≠ .turning) : k.turningStep = none := if_neg h

theorem Cradle.turningStep_turning {k : Cradle} (h : k.state = .turning) :
    k.turningStep = k.turn.map fun r => (r.phase, r.step) := if_pos h

theorem Cradle.turning_of_step {k : Cradle} {p : Phase × Nat} (h : k.turningStep = some p) : k.state = .turning := by
  by_contra hs
  rw [Cradle.turningStep_none hs] at h
  cases h

theorem Cradle.phase_of_turningStep {k : Cradle} {p : Phase} {n : Nat} (h : k.turningStep = some (p, n)) :
    k.turn.map (·.phase) = some p := by
  unfold Cradle.turningStep at h
  split at h
  · obtain ⟨r, hr, he⟩ := Option.map_eq_some_iff.1 h
    rw [hr, Option.map_some]
    exact congrArg (fun x => some x.1) he
  · cases h

/-- Only PARKING, RECOVERING and TURNING await the mechanism's rest. -/
theorem State.restEnds.state (h : s.restEnds) :
    (s.cradle.state = .parking ∧ s.cradle.drive = .moving ∧ 178 ≤ s.cradle.sensors.angle) ∨
      s.cradle.state = .recovering ∨
      (s.cradle.state = .turning ∧
        ((s.cradle.turn.map fun r => (r.phase, r.step)) = some (.baseline, 1) ∨
          s.cradle.turn.map (·.phase) = some .returning)) := by
  obtain ⟨-, hp | hr | hb | ⟨n, hn⟩⟩ := h
  · exact .inl hp
  · exact .inr (.inl hr)
  · have hs := Cradle.turning_of_step hb
    exact .inr (.inr ⟨hs, .inl (Cradle.turningStep_turning hs ▸ hb)⟩)
  · exact .inr (.inr ⟨Cradle.turning_of_step hn, .inr (Cradle.phase_of_turningStep hn)⟩)

theorem State.restEnds_idle (hp : s.cradle.state ≠ .parking) (hr : s.cradle.state ≠ .recovering)
    (ht : s.cradle.state ≠ .turning) : ¬ s.restEnds := by
  intro h
  rcases h.state with h | h | h
  · exact hp h.1
  · exact hr h
  · exact ht h.1

include hq

theorem State.wandDown_idle (hstep : s.cradle.turningStep = none)
    (h : ¬ (s.onSensors fun m => { m with wandDown := level }).restEnds) :
    exec (.wandDownChange level) s = .next (s.onSensors fun m => { m with wandDown := level }) := by
  have hno {p : Phase × Nat} {q : Prop} (h : s.cradle.turningStep = some p) : q := by rw [hstep] at h; cases h
  exact State.wandDown_only_read hq (State.wandDownTaken_unmet h hno hno hno fun _ => hno)

theorem State.vacuumHeld_idle (hstep : s.cradle.turningStep = none) (h : ¬ s.cradle.losesLeaf level) :
    exec (.vacuumHeldChange level) s = .next (s.onSensors fun m => { m with vacuumHeld := level }) := by
  have hno {p : Phase × Nat} {q : Prop} (h : s.cradle.turningStep = some p) : q := by rw [hstep] at h; cases h
  exact State.vacuumHeld_only_read hq (State.vacuumHeldTaken_unmet h hno hno fun _ => hno)

theorem State.armFar_idle (hstep : s.cradle.turningStep = none) :
    exec (.armFarChange level) s = .next (s.onSensors fun m => { m with armFar := level }) := by
  have hno {p : Phase × Nat} {q : Prop} (h : s.cradle.turningStep = some p) : q := by rw [hstep] at h; cases h
  exact State.armFar_only_read hq (State.armFarTaken_unmet fun _ => hno)

end awaited

/-- Settles O37: by cradle state, the changes that no test of that state is met by. -/
theorem unawaitedSensorChangesAreOnlyRead : Obligations.UnawaitedSensorChangesAreOnlyRead := by
  unfold Obligations.UnawaitedSensorChangesAreOnlyRead
  intro s hq k m resting reads angle wandDown vacuumHeld armFar armRest phase at_
  have atRest_wand (level : Bool) :
      ({ m with wandDown := level } : Sensors).atRest = true ↔ (m.armRest = true ∧ level = false) :=
    Sensors.atRest_iff _
  have atRest_arm (level : Bool) :
      ({ m with armRest := level } : Sensors).atRest = true ↔ (level = true ∧ m.wandDown = false) :=
    Sensors.atRest_iff _
  refine ⟨fun h => ?_, fun h level => ?_, fun hs => ?_, fun hs => ?_, fun hs => ?_, fun hs => ?_, ?_⟩
  · have hne : k.state ≠ .turning ∧ k.state ≠ .parking ∧ k.state ≠ .recovering ∧ k.state ≠ .settling := by
      rcases h with (h | h) | h | h <;> rw [h] <;> decide
    obtain ⟨ht, hp, hr, hset⟩ := hne
    have hstep := Cradle.turningStep_none ht
    exact ⟨fun degrees => State.angle_only_read hq (State.angleTaken_unmet hset fun h => absurd h hp),
      fun level => State.wandDown_idle hq hstep (State.restEnds_idle hp hr ht),
      fun level => State.armFar_idle hq hstep,
      fun level => State.armRest_only_read hq (State.armRestTaken_unmet (State.restEnds_idle hp hr ht))⟩
  · have hne : k.state ≠ .turning ∧ ¬ k.losesLeaf level := by
      rcases h with hs | ⟨hw, hs⟩
      · have hne : k.state ≠ .turning ∧ k.state ≠ .holding ∧ k.state ≠ .fault := by
          rcases hs with hs | hs <;> rw [hs] <;> decide
        exact ⟨hne.1, Cradle.keepsLeaf hne⟩
      · exact ⟨by rcases hs with hs | hs <;> rw [hs] <;> decide, fun hl => ne_true_of_eq_false hw hl.2.1⟩
    exact State.vacuumHeld_idle hq (Cradle.turningStep_none hne.1) hne.2
  · have hne : k.state ≠ .parking ∧ k.state ≠ .recovering ∧ k.state ≠ .settling := by rw [hs]; decide
    obtain ⟨hp, hr, hset⟩ := hne
    have hstep := Cradle.turningStep_turning hs
    have rests {f : Sensors → Sensors} (h : (s.onSensors f).restEnds) :
        at_ .baseline 1 ∨ phase = some .returning := by
      rcases h.state with h | h | h
      · exact absurd h.1 hp
      · exact absurd h hr
      · exact h.2
    refine ⟨fun degrees => State.angle_only_read hq (State.angleTaken_unmet hset fun h => absurd h hp),
      fun level h => ?_, fun level h => ?_, fun level hrest hlift1 hlift3 hlay1 hdrop => ?_,
      fun level hw hlift2 hlay2 hdrop => ?_⟩
    · refine State.armFar_only_read hq (State.armFarTaken_unmet fun n hn => ?_)
      exact Bool.eq_false_iff.2 fun hl => h ⟨Cradle.phase_of_turningStep (k := k) hn, hl⟩
    · refine State.armRest_only_read hq (State.armRestTaken_unmet fun he => h ?_)
      exact ⟨rests he, (atRest_arm level).1 he.1⟩
    · refine State.wandDown_only_read hq (State.wandDownTaken_unmet (fun he => hrest ?_) (fun hn => ?_) (fun hn => ?_)
        (fun hn => ?_) fun n hn hl => ?_)
      · exact ⟨rests he, ((atRest_wand level).1 he.1).symm⟩
      · exact Bool.eq_false_iff.2 fun hl => hlift1 ⟨hstep.symm.trans hn, hl⟩
      · exact Bool.eq_true_of_not_eq_false fun hl => hlift3 ⟨hstep.symm.trans hn, hl⟩
      · exact Bool.eq_false_iff.2 fun hl => hlay1 ⟨hstep.symm.trans hn, hl⟩
      · exact hdrop ⟨Cradle.phase_of_turningStep (k := k) hn, hl.2, hl.1⟩
    · refine State.vacuumHeld_only_read hq (State.vacuumHeldTaken_unmet (fun he => ?_) (fun hn => ?_) (fun hn => ?_)
        fun n hn hl => ?_)
      · rcases hw with hw | hw
        · exact ne_true_of_eq_false he.1 hw
        · exact ne_true_of_eq_false hw he.2.1
      · exact Bool.eq_false_iff.2 fun hl => hlift2 ⟨hstep.symm.trans hn, hl⟩
      · exact Bool.eq_true_of_not_eq_false fun hl => hlay2 ⟨hstep.symm.trans hn, hl⟩
      · exact hdrop ⟨Cradle.phase_of_turningStep (k := k) hn, hl.1, hl.2⟩
  · have hne : k.state ≠ .turning ∧ k.state ≠ .parking ∧ k.state ≠ .recovering := by rw [hs]; decide
    obtain ⟨ht, hp, hr⟩ := hne
    have hstep := Cradle.turningStep_none ht
    refine ⟨fun level => State.wandDown_idle hq hstep (State.restEnds_idle hp hr ht), fun level => ?_,
      fun level => State.armFar_idle hq hstep,
      fun level => State.armRest_only_read hq (State.armRestTaken_unmet (State.restEnds_idle hp hr ht))⟩
    exact State.vacuumHeld_idle hq hstep (Cradle.keepsLeaf (by rw [hs]; decide))
  · have hne : k.state ≠ .turning ∧ k.state ≠ .parking ∧ k.state ≠ .settling := by rw [hs]; decide
    obtain ⟨ht, hp, hset⟩ := hne
    have hstep := Cradle.turningStep_none ht
    refine ⟨fun degrees => State.angle_only_read hq (State.angleTaken_unmet hset fun h => absurd h hp),
      fun level => State.vacuumHeld_idle hq hstep (Cradle.keepsLeaf (by rw [hs]; decide)),
      fun level => State.armFar_idle hq hstep, fun level h => ?_, fun level h => ?_⟩
    · exact State.armRest_only_read hq (State.armRestTaken_unmet fun he => h ((atRest_arm level).1 he.1))
    · exact State.wandDown_idle hq hstep fun he => h ((atRest_wand level).1 he.1).symm
  · have hne : k.state ≠ .turning ∧ k.state ≠ .recovering ∧ k.state ≠ .settling := by rw [hs]; decide
    obtain ⟨ht, hr, hset⟩ := hne
    have hstep := Cradle.turningStep_none ht
    have parks {f : Sensors → Sensors} (h : (s.onSensors f).restEnds) : k.drive = .moving ∧ 178 ≤ (f m).angle := by
      rcases h.state with h | h | h
      · exact h.2
      · exact absurd h hr
      · exact absurd h.1 ht
    refine ⟨fun level => State.vacuumHeld_idle hq hstep (Cradle.keepsLeaf (by rw [hs]; decide)),
      fun level => State.armFar_idle hq hstep, fun degrees h => ?_, fun level h => ?_, fun level h => ?_⟩
    · refine State.angle_only_read hq (State.angleTaken_unmet hset fun _ ⟨hd, ha, hrest⟩ => h ?_)
      exact ⟨hd, ha, (Sensors.atRest_iff _).1 hrest⟩
    · refine State.armRest_only_read hq (State.armRestTaken_unmet fun he => h ?_)
      exact ⟨(parks he).1, (parks he).2, (atRest_arm level).1 he.1⟩
    · refine State.wandDown_idle hq hstep fun he => h ?_
      exact ⟨(parks he).1, (parks he).2, (atRest_wand level).1 he.1⟩
  · exact ⟨State.angle_stands hq, State.wandDown_stands hq, State.vacuumHeld_stands hq, State.armFar_stands hq,
      State.armRest_stands hq⟩

end Sys2Proof.Machine
end

section
/-! PROOFS. The ends of an angle move. -/

namespace Sys2Proof.Machine

section angle
variable {s : State} {slot : Nat}

theorem exec_angleChange {degrees : Nat} (h : s.cradle.sensors.angle ≠ degrees) :
    ∃ f, exec (.angleChange degrees) s = event f s ∧
      f s = (s.onSensors fun m => { m with angle := degrees }).angleTaken :=
  ⟨_, (rfl : execAngleChange degrees s = event _ s), by exact if_neg h⟩

theorem State.angleTaken_settling (h : s.cradle.state = .settling) : s.angleTaken = s.settlingTest := by
  rw [State.angleTaken, h]

theorem State.angleTaken_parking (h : s.cradle.state = .parking) : s.angleTaken = s.parkingTest := by
  rw [State.angleTaken, h]

theorem State.armRestTaken_parking (h : s.cradle.state = .parking) : s.armRestTaken = s.parkingTest := by
  rw [State.armRestTaken, h]

theorem State.wandDownTaken_parking (h : s.cradle.state = .parking) (level : Bool) :
    s.wandDownTaken level = s.parkingTest := by
  rw [State.wandDownTaken, h]

/-- The angle sensor reads within 2 degrees of the limit (R50). -/
def Sensors.nearLimit (limit : Nat) (m : Sensors) : Prop := m.angle ≤ limit + 2 ∧ limit ≤ m.angle + 2

theorem State.settlingTest_arrives (hm : s.mountedSlot = some slot)
    (h : s.cradle.sensors.nearLimit (s.entry slot).angleLimit) :
    s.settlingTest =
      (s.onCradle fun k =>
        { k with
          state := .openReady, timers := { k.timers with angle := none }
          outputs := { k.outputs with angleDrive := .holding (s.entry slot).angleLimit } }).post
        (.volumeMounted slot (s.entry slot).generation s.cradle.opening (s.entry slot).angleLimit) := by
  rw [State.settlingTest, hm]
  exact if_pos h

theorem State.settlingTest_waits (hm : s.mountedSlot = some slot)
    (h : ¬ s.cradle.sensors.nearLimit (s.entry slot).angleLimit) : s.settlingTest = s := by
  rw [State.settlingTest, hm]
  exact if_neg h

/-- PARKING has arrived at rest and flat, its drives stopped (R51). -/
def State.parkedFlat (s : State) : State :=
  s.onCradle fun k =>
    { k with
      state := .parked, parked := none, timers := { k.timers with angle := none }, outputs := k.outputs.stopped }

/-- VOLUME DISMOUNTED of a PARKING that holds a volume (R51). -/
def State.arrivalNotices (s : State) : List Notice :=
  match s.cradle.parked with
  | some v => [.volumeDismounted v.slot v.generation]
  | none => []

/-- The mechanism is flat and at rest in a driven PARKING (R51). -/
def Cradle.arrivesParked (k : Cradle) : Prop :=
  k.drive = .moving ∧ 178 ≤ k.sensors.angle ∧ k.sensors.armRest = true ∧ k.sensors.wandDown = false

theorem Cradle.arrivesParked.arrives {k : Cradle} (h : k.arrivesParked) :
    k.drive = .moving ∧ Config.flatAngle ≤ k.sensors.angle + Config.angleTolerance ∧ k.sensors.atRest = true := by
  obtain ⟨hd, ha, hrest⟩ := h
  exact ⟨hd, by simp only [Config.flatAngle, Config.angleTolerance]; omega, (Sensors.atRest_iff _).2 hrest⟩

theorem State.parkingTest_arrives_none (h : s.cradle.arrivesParked) (hp : s.cradle.parked = none) :
    s.parkingTest = s.parkedFlat := by
  rw [State.parkingTest, if_pos h.arrives, hp]
  rfl

theorem State.parkingTest_arrives_some {v : VolumeName} (h : s.cradle.arrivesParked) (hp : s.cradle.parked = some v) :
    s.parkingTest = s.parkedFlat.post (.volumeDismounted v.slot v.generation) := by
  rw [State.parkingTest, if_pos h.arrives, hp]
  rfl

/-- A taken change that leaves a driven PARKING flat and at rest ends it (R51). -/
theorem State.exec_parks {c : Instr} {f : State → State} {g : Sensors → Sensors} (he : exec c s = event f s)
    (hf : f s = (s.onSensors g).parkingTest) (hq : s.quiet) (h : (s.onSensors g).cradle.arrivesParked) :
    exec c s = .next ((s.onSensors g).parkedFlat.announced s.arrivalNotices) := by
  unfold State.arrivalNotices
  cases hp : s.cradle.parked with
  | none =>
    rw [State.announced_nil]
    exact he.trans (event_eq f s _ (hf.trans (State.parkingTest_arrives_none h hp)) hq rfl)
  | some v =>
    exact he.trans (event_posts f s _ _ (hf.trans (State.parkingTest_arrives_some h hp)) hq id)

/-- SETTLING in an ANGLE_TIMEOUT fault, its angle drive stopped (R52). -/
def State.settlingFaulted (s : State) : State :=
  s.onCradle fun k =>
    { k with
      state := .fault, fault := some { cause := .angleTimeout, phase := none }
      timers := { k.timers with angle := none }
      outputs := { k.outputs with angleDrive := .stopped } }

/-- The angle timer in SETTLING: an ANGLE_TIMEOUT fault, the volume held (R52). -/
theorem State.angleTimeout_settling (hs : s.cradle.state = .settling) (hm : s.mountedSlot = some slot)
    (hrun : s.cradle.timers.angle ≠ none) :
    s.angleTimeout =
      (s.settlingFaulted.onEntry slot fun e => { e with hold := some .turnFault }).post
        (.turnFault .angleTimeout .settling 0 none s.gauge.values) := by
  rw [State.angleTimeout, if_neg hrun, hs]
  exact congrArg (State.post _) (State.claimHold_eq (s := s.settlingFaulted) hm _)

/-- The angle timer in PARKING stops it (R52, log 11). -/
theorem State.angleTimeout_parking (hs : s.cradle.state = .parking) (hrun : s.cradle.timers.angle ≠ none) :
    s.angleTimeout =
      (s.onCradle fun k =>
        { k with
          drive := .stopped .angleTimeout, timers := { k.timers with angle := none }
          outputs := k.outputs.stopped }).postParking (.turnFault .angleTimeout .parking 0 none s.gauge.values) := by
  rw [State.angleTimeout, if_neg hrun, hs]
  rfl

end angle

/-- Settles O43: the arrivals, by the change that makes them, and the angle timer. -/
theorem angleMovesArriveOrTimeOut : Obligations.AngleMovesArriveOrTimeOut := by
  unfold Obligations.AngleMovesArriveOrTimeOut
  intro s degrees slot k m limit near still parks hq
  refine ⟨fun hs hm hne => ?_, fun hs hd => ⟨fun h178 hne hr hw => ?_, fun h178 hr hw => ?_, fun h178 hr hw => ?_,
    fun h => ?_⟩, fun hs hm hrun => ?_, fun hs hrun => ?_, fun hrun => ?_⟩
  · obtain ⟨f, he, hf⟩ := exec_angleChange hne
    let t := s.onSensors fun m => { m with angle := degrees }
    have htest : f s = t.settlingTest := hf.trans (State.angleTaken_settling (s := t) hs)
    by_cases hn : near
    · simp only [if_pos hn]
      exact he.trans (event_posts f s _ _ (htest.trans (State.settlingTest_arrives (s := t) hm hn)) hq id)
    · simp only [if_neg hn, State.announced_nil]
      exact he.trans (event_eq f s t (htest.trans (State.settlingTest_waits (s := t) hm hn)) hq rfl)
  · obtain ⟨f, he, hf⟩ := exec_angleChange hne
    exact State.exec_parks he (hf.trans (State.angleTaken_parking hs)) hq ⟨hd, h178, hr, hw⟩
  · obtain ⟨f, he, hf⟩ := exec_armRestChange (s := s) (level := true) (ne_true_of_eq_false hr)
    exact State.exec_parks he (hf.trans (State.armRestTaken_parking hs)) hq ⟨hd, h178, rfl, hw⟩
  · obtain ⟨f, he, hf⟩ := exec_wandDownChange (s := s) (level := false) (by rw [hw]; nofun)
    let t := s.onSensors fun m => { m with wandDown := false }
    exact State.exec_parks he (hf.trans (State.wandDownTaken_parking (s := t) hs false)) hq ⟨hd, h178, hr, rfl⟩
  · have hne : k.state ≠ .settling := by rw [hs]; nofun
    refine State.angle_only_read hq (State.angleTaken_unmet hne fun _ ⟨_, ha, hrest⟩ => h ?_)
    exact ⟨ha, (Sensors.atRest_iff _).1 hrest⟩
  · exact event_posts _ s _ _ (State.angleTimeout_settling hs hm hrun) hq id
  · have htimeout := State.angleTimeout_parking hs hrun
    by_cases hp : k.parked = none
    · simp only [if_pos hp, State.announced_nil]
      exact event_eq _ s _ (htimeout.trans (if_pos hp)) hq rfl
    · simp only [if_neg hp]
      exact event_posts _ s _ _ (htimeout.trans (if_neg hp)) hq id
  · exact event_eq _ s s (if_pos hrun) hq rfl

end Sys2Proof.Machine
end

section
/-! PROOFS. RECOVER TURN. -/

namespace Sys2Proof.Machine

/-! ### RECOVER TURN: the checks (R71) -/

theorem Cradle.recoverable_iff (k : Cradle) :
    k.recoverable = true ↔ (k.state = .fault ∨ (k.state = .holding ∧ k.turn ≠ none)) := by
  simp [Cradle.recoverable, Option.isSome_iff_ne_none]

theorem recoveryAllowed_none (opening target : Nat) :
    recoveryAllowed none opening target = true ↔ target = opening := by
  simp [recoveryAllowed]

theorem recoveryAllowed_some (r : TurnRecord) (opening target : Nat) :
    recoveryAllowed (some r) opening target = true ↔
      (target = opening ∨
        match r.direction with
        | .forward => target = opening + 1
        | .back => target + 1 = opening) := by
  obtain ⟨direction, _⟩ := r
  cases direction <;> simp [recoveryAllowed]

section recover
variable {s : State} {r : TurnRecord} {slot leaf opening : Nat}

theorem takeRecoverTurn_state (h : ¬ s.cradle.recoverable = true) : takeRecoverTurn opening s = refuse .state [] s :=
  if_pos (Bool.not_eq_true _ ▸ h)

/-- Past the state check RECOVER TURN looks at the opening, then at the guard (R71). -/
theorem takeRecoverTurn_recoverable (h : s.cradle.recoverable = true) (hm : s.mountedSlot = some slot) :
    takeRecoverTurn opening s =
      if recoveryAllowed s.cradle.turn s.cradle.opening opening = false then
        refuse .leafBounds (be 2 (s.entry slot).leafCount) s
      else if s.guards.clear = false then refuse .guard [] s
      else okay [] (s.recoverTo opening) := by
  rw [takeRecoverTurn, if_neg (by rw [h]; nofun), State.mountedLeafCount, hm]
  rfl

theorem takeRecoverTurn_accepted (h : s.cradle.recoverable = true) (hm : s.mountedSlot = some slot)
    (ha : recoveryAllowed s.cradle.turn s.cradle.opening opening = true) (hc : s.guards.clear = true) :
    takeRecoverTurn opening s = okay [] (s.recoverTo opening) := by
  rw [takeRecoverTurn_recoverable h hm, if_neg (by rw [ha]; nofun), if_neg (by rw [hc]; nofun)]

/-! ### SETTLING begun again (R50, R72) -/

/-- SETTLING of a volume under its class, whether or not it is cleared. -/
theorem State.beginSettling_drives (hm : s.mountedSlot = some slot) (hc : s.guards.clear = true) :
    s.beginSettling =
      (s.onCradle (Cradle.settlingToward (s.entry slot).handlingClass (s.entry slot).angleLimit
        (s.angleTime (s.entry slot).handlingClass))).settlingTest := by
  simp only [State.beginSettling, State.onCradle_guards, hc, if_true, hm, Option.map_some, Option.getD_some,
    State.driveSettling, State.angleLimit, State.onCradle_mountedSlot, State.onCradle_entry]
  rfl

/-! ### The mechanism brought to rest (R72) -/

/-- The cradle of a recovery toward an opening (R72). -/
def State.recoveringTo (opening : Nat) (r : TurnRecord) (s : State) : State :=
  s.onCradle fun k =>
    { k with
      state := .recovering, hold := none, fault := none, target := some opening
      turn := some { r with leafOnWand := false }
      timers := { k.timers with recovery := some (s.carryTime 1) }
      outputs :=
        { k.outputs with vacuumOpen := false, airKnife := none, wandDrive := .up,
                         armDrive := .toRest (some (s.carrySpeed 1)) } }

/-- The leaf is booked when the opening named differs from the one before (R72). -/
def State.recoveryBooked (opening slot leaf : Nat) (s : State) : State :=
  if opening = s.cradle.opening then s else s.booked slot leaf

/-- The cradle at the end of a recovery (R72, log 11). -/
def Cradle.recovered (opening : Nat) (k : Cradle) : Cradle :=
  { k with
    state := .openReady, target := none, turn := none, opening := opening
    timers := { k.timers with recovery := none }
    outputs := { k.outputs with wandDrive := .stopped, armDrive := .stopped } }

theorem State.recoveryTest_ends (hs : s.cradle.state = .recovering) (ht : s.cradle.target = some opening)
    (hr : s.cradle.turn = some r) (hm : s.mountedSlot = some slot) (hl : s.cradle.currentLeaf = some leaf)
    (h : s.cradle.sensors.atRest = true) :
    s.recoveryTest =
      ((s.recoveryBooked opening slot leaf).onCradle (Cradle.recovered opening)).post
        (.turnEnded .recovered (if opening = s.cradle.opening then r.done else r.done + 1) opening none
          s.gauge.values) := by
  rw [State.recoveryTest, hs, ht]
  refine (if_pos h).trans ?_
  rw [hl, Option.getD_some, State.recoveryBooked]
  by_cases ho : opening = s.cradle.opening
  · simp only [if_pos ho]
    have hd : s.doneCount = r.done := by rw [State.doneCount, hr]; rfl
    rw [← hd]
    rfl
  · simp only [if_neg ho]
    have hb : s.bookTurn leaf = s.booked slot leaf := by rw [State.bookTurn, hm]; rfl
    rw [hb, State.onTurn_eq (s := s.booked slot leaf) hr]
    rfl

theorem State.armRestTaken_recovering (h : s.cradle.state = .recovering) : s.armRestTaken = s.recoveryTest := by
  rw [State.armRestTaken, h]

theorem State.wandDownTaken_recovering (h : s.cradle.state = .recovering) (level : Bool) :
    s.wandDownTaken level = s.recoveryTest := by
  rw [State.wandDownTaken, h]

theorem State.beginRecovery_eq (ht : s.cradle.turn = some r) :
    s.beginRecovery opening = (s.recoveringTo opening r).recoveryTest := by
  rw [State.beginRecovery, State.onTurn_eq ht]
  rfl

end recover

/-- Settles O35: the three checks, then SETTLING again or the way to rest, ended in the event that reaches it. -/
theorem recoverTurnBringsTheMechanismToRest : Obligations.RecoverTurnBringsTheMechanismToRest := by
  unfold Obligations.RecoverTurnBringsTheMechanismToRest
  constructor
  · intro o opening s c k m atRest allowed h
    have hallowed : recoveryAllowed k.turn k.opening opening = true ↔ allowed := by
      unfold allowed
      cases ht : k.turn with
      | none => exact recoveryAllowed_none _ _
      | some r => exact recoveryAllowed_some r _ _
    refine ⟨fun hs => onlyAnswers_of_take h rfl (takeRecoverTurn_state (s := s.heard o) (mt k.recoverable_iff.1 hs)),
      fun slot hm hs => ?_⟩
    have hrec := k.recoverable_iff.2 hs
    have hchecks := takeRecoverTurn_recoverable (s := s.heard o) (opening := opening) hrec hm
    refine ⟨fun ha => onlyAnswers_of_take h rfl (hchecks.trans (if_pos ?_)), fun ha hg => ?_, fun ha hb hl => ?_⟩
    · exact Bool.eq_false_iff.2 (mt hallowed.1 ha)
    · refine onlyAnswers_of_take h rfl (hchecks.trans ((if_neg ?_).trans (if_pos ?_)))
      · exact ne_false_of_eq_true (hallowed.2 ha)
      · exact (Guards.clear_eq_false _).2 hg
    · have hclear : (s.heard o).guards.clear = true := (Guards.clear_iff _).2 ⟨hb, hl⟩
      have ht := takeRecoverTurn_accepted (s := s.heard o) (opening := opening) hrec hm (hallowed.2 ha) hclear
      refine ⟨fun hturn => ?_, fun r hr hrest => ?_, fun r leaf hr hleaf hrest => ?_⟩
      · intro limit near
        let u := (s.heard o).onCradle fun k => { k with fault := none }
        let e := s.entry slot
        let v := u.onCradle (Cradle.settlingToward e.handlingClass limit (s.angleTime e.handlingClass))
        have hv : (s.heard o).recoverTo opening = v.settlingTest :=
          (if_pos hturn).trans (State.beginSettling_drives (s := u) hm hclear)
        rw [hv] at ht
        by_cases hn : near
        · simp only [if_pos hn]
          refine answersWith_posts h rfl (ht.trans (congrArg (okay []) ?_)) h.1 rfl
          exact State.settlingTest_arrives (s := v) hm hn
        · simp only [if_neg hn]
          refine answersWith_quiet h rfl (ht.trans (congrArg (okay []) ?_)) h.1 rfl
          exact State.settlingTest_waits (s := v) hm hn
      · have hv : (s.heard o).recoverTo opening = ((s.heard o).recoveringTo opening r).recoveryTest :=
          (if_neg (hr ▸ Option.some_ne_none r)).trans (State.beginRecovery_eq (s := s.heard o) hr)
        refine answersWith_quiet h rfl (ht.trans (congrArg (okay []) (hv.trans ?_))) h.1 rfl
        exact State.recoveryTest_waits (s := (s.heard o).recoveringTo opening r) (mt m.atRest_iff.1 hrest)
      · let v := (s.heard o).recoveringTo opening r
        have hv : (s.heard o).recoverTo opening = v.recoveryTest :=
          (if_neg (hr ▸ Option.some_ne_none r)).trans (State.beginRecovery_eq (s := s.heard o) hr)
        have hvl : v.cradle.currentLeaf = some leaf := by
          rw [← hleaf, Cradle.currentLeaf, Cradle.currentLeaf, hr]; rfl
        have hends := State.recoveryTest_ends (s := v) rfl rfl rfl hm hvl (m.atRest_iff.2 hrest)
        rw [hv, hends] at ht
        by_cases ho : opening = k.opening
        · have hbooked : v.recoveryBooked opening slot leaf = v := if_pos ho
          simp only [if_pos ho]
          refine answersWith_posts h rfl (ht.trans ?_) h.1 rfl
          rw [hbooked, if_pos (show opening = v.cradle.opening from ho)]
          rfl
        · have hbooked : v.recoveryBooked opening slot leaf = v.booked slot leaf := if_neg ho
          simp only [if_neg ho]
          refine answersWith_posts h rfl (ht.trans ?_) h.1 rfl
          rw [hbooked, if_neg (show ¬ opening = v.cradle.opening from ho)]
          rfl
  · intro opening slot leaf r s k ends hq hs ht hr hm hl
    have hended (c : Instr) (g : Sensors → Sensors) (f : State → State) (he : exec c s = event f s)
        (hf : f s = (s.onSensors g).recoveryTest) (hrest : (g k.sensors).atRest = true) : ends c (g k.sensors) := by
      have htest := hf.trans (State.recoveryTest_ends (s := s.onSensors g) hs ht hr hm hl hrest)
      by_cases ho : opening = k.opening
      · have hbooked : (s.onSensors g).recoveryBooked opening slot leaf = s.onSensors g := if_pos ho
        rw [hbooked, if_pos (show opening = (s.onSensors g).cradle.opening from ho)] at htest
        simp only [ends, if_pos ho]
        exact he.trans (event_posts f s _ _ htest hq id)
      · have hbooked : (s.onSensors g).recoveryBooked opening slot leaf = (s.onSensors g).booked slot leaf := if_neg ho
        rw [hbooked, if_neg (show ¬ opening = (s.onSensors g).cradle.opening from ho)] at htest
        simp only [ends, if_neg ho]
        exact he.trans (event_posts f s _ _ htest hq id)
    constructor
    · intro harm hw
      obtain ⟨f, he, hf⟩ := exec_armRestChange (s := s) (level := true) (ne_true_of_eq_false harm)
      refine hended _ (fun m => { m with armRest := true }) f he (hf.trans ?_) ((Sensors.atRest_iff _).2 ⟨rfl, hw⟩)
      exact State.armRestTaken_recovering (s := s.onSensors fun m => { m with armRest := true }) hs
    · intro harm hw
      obtain ⟨f, he, hf⟩ := exec_wandDownChange (s := s) (level := false) (by rw [hw]; nofun)
      refine hended _ (fun m => { m with wandDown := false }) f he (hf.trans ?_) ((Sensors.atRest_iff _).2 ⟨harm, rfl⟩)
      exact State.wandDownTaken_recovering (s := s.onSensors fun m => { m with wandDown := false }) hs false

end Sys2Proof.Machine
end

section
/-! PROOFS. RESUME. -/

namespace Sys2Proof.Machine

/-! ### The held step of a turn begun again (R70) -/

section step
variable {s : State} {r : TurnRecord}

theorem State.resumeStep_baseline (h : s.cradle.turn = some r) (hp : r.phase = .baseline) (hn : r.step = 1) :
    s.resumeStep r =
      if s.cradle.sensors.atRest then (s.baselineAt r 2 none).startGate .baseline
      else s.baselineAt r 1 (some (s.liftTime r.effectiveClass)) := by
  rw [← State.enterBaseline_eq h, State.resumeStep, hp, hn]
  rfl

theorem State.resumeStep_baselineGate (hp : r.phase = .baseline) (hn : r.step = 2) :
    s.resumeStep r = (s.onOutputs Outputs.baseline).startGate .baseline := by
  rw [State.resumeStep, hp, hn]
  rfl

/-- A step of LIFT under way: its lift timer in full, the air knife on (R61). -/
def State.liftAt (r : TurnRecord) (wand : WandDrive) (vacuumOpen : Bool) (s : State) : State :=
  s.onCradle fun k =>
    { k with
      turn := some r
      timers := { k.timers with lift := some (s.liftTime r.effectiveClass) }
      outputs :=
        { k.outputs with airKnife := some (s.airLevel r.effectiveClass), wandDrive := wand, vacuumOpen := vacuumOpen } }

theorem State.resumeStep_lift1 (h : s.cradle.turn = some r) (hp : r.phase = .lift) (hn : r.step = 1) :
    s.resumeStep r =
      if s.cradle.sensors.wandDown then s.liftAt { r with phase := .lift, step := 2 } .down true
      else s.liftAt { r with phase := .lift, step := 1 } .down s.cradle.outputs.vacuumOpen := by
  rw [State.resumeStep, hp, hn]
  simp only [State.enterLift_eq h]
  refine if_congr Iff.rfl ?_ rfl
  exact (State.liftOpen_eq (r := { r with phase := .lift, step := 1 }) rfl).trans rfl

theorem State.liftOutputs_startLiftTimer (h : s.cradle.turn = some r) (wand : WandDrive) :
    (s.liftOutputs wand).startLiftTimer = s.liftAt r wand true := by
  simp only [State.liftOutputs, State.startLiftTimer, State.effectiveClass, State.onOutputs, State.onTimers,
    State.onCradle, State.liftAt, h, Option.map_some, Option.getD_some]
  rw [← h]
  rfl

theorem State.resumeStep_lift2 (h : s.cradle.turn = some r) (hp : r.phase = .lift) (hn : r.step = 2) :
    s.resumeStep r =
      if s.cradle.sensors.vacuumHeld then s.liftAt { r with phase := .lift, step := 3, leafOnWand := true } .up true
      else s.liftAt r .down true := by
  rw [State.resumeStep, hp, hn]
  simp only [State.liftOutputs_startLiftTimer h]
  refine if_congr Iff.rfl ?_ rfl
  exact (State.liftRaise_eq (r := r) rfl).trans rfl

theorem State.resumeStep_lift3 (h : s.cradle.turn = some r) (hp : r.phase = .lift) (hn : r.step = 3) :
    s.resumeStep r =
      if s.cradle.sensors.wandDown then s.liftAt r .up true
      else
        ((s.liftAt { r with phase := .lift, step := 4 } .up true).onTimers fun t =>
          { t with lift := none }).startGate .lift := by
  rw [State.resumeStep, hp, hn]
  simp only [State.liftOutputs_startLiftTimer h]
  refine if_congr Iff.rfl rfl ?_
  exact (State.liftGate_eq (r := r) rfl).trans rfl

theorem State.resumeStep_liftGate (h : s.cradle.turn = some r) (hp : r.phase = .lift) (hn : r.step = 4) :
    s.resumeStep r =
      (s.onOutputs fun o =>
        { o with airKnife := some (s.airLevel r.effectiveClass), wandDrive := .up, vacuumOpen := true }).startGate
        .lift := by
  rw [State.resumeStep, hp, hn, ← State.effectiveClass_eq h]
  rfl

theorem State.resumeStep_pickConfirm (h : s.cradle.turn = some r) (hp : r.phase = .pickConfirm) :
    s.resumeStep r =
      s.onCradle fun k =>
        { k with
          turn := some { r with phase := .pickConfirm, step := 1 }
          timers := { k.timers with pickConfirm := some s.pickConfirmTime }
          outputs := { k.outputs with wandDrive := .up, vacuumOpen := true } } := by
  rw [State.resumeStep, hp]
  simp only [State.enterPickConfirm, State.onTurn, State.toPhase, State.onTimers, State.onOutputs, State.onCradle, h,
    Option.map_some]

theorem State.resumeStep_drop (h : s.cradle.turn = some r) (hp : r.phase = .drop) :
    s.resumeStep r = (s.droppingAt r r.drop).dropTest := by
  rw [← State.enterDrop_eq h, State.resumeStep, hp]

theorem State.resumeStep_carry (h : s.cradle.turn = some r) (hp : r.phase = .carry) :
    s.resumeStep r =
      if s.cradle.sensors.armFar then
        s.onCradle fun k =>
          { k with
            turn := some { r with phase := .lay, step := 1 }
            timers :=
              { k.timers with pickConfirm := none, carry := none, lay := some (s.layTime r.effectiveClass) }
            outputs := { k.outputs with armDrive := .stopped, wandDrive := .down, vacuumOpen := true } }
      else s.enterCarry := by
  rw [State.resumeStep, hp]
  refine if_congr Iff.rfl ?_ rfl
  rw [State.enterCarry_eq h]
  exact (State.enterLay_eq (r := { r with phase := .carry, step := 1 }) rfl).trans rfl

theorem State.resumeStep_lay1 (h : s.cradle.turn = some r) (hp : r.phase = .lay) (hn : r.step = 1) :
    s.resumeStep r =
      if s.cradle.sensors.wandDown then
        s.onCradle fun k =>
          { k with
            turn := some { r with phase := .lay, step := 2, leafOnWand := false }
            timers := { k.timers with carry := none, lay := some (s.layTime r.effectiveClass) }
            outputs := { k.outputs with armDrive := .stopped, wandDrive := .down, vacuumOpen := false } }
      else s.enterLay := by
  rw [State.resumeStep, hp, hn]
  refine if_congr Iff.rfl ?_ rfl
  rw [State.enterLay_eq h]
  exact (State.layRelease_eq (r := { r with phase := .lay, step := 1 }) rfl).trans rfl

/-- LAY step 2 with its lay timer in full (R64). -/
def State.layAt (r : TurnRecord) (s : State) : State :=
  s.onCradle fun k =>
    { k with
      timers := { k.timers with lay := some (s.layTime r.effectiveClass) }
      outputs := { k.outputs with wandDrive := .down, vacuumOpen := false } }

theorem State.resumeStep_lay2 (h : s.cradle.turn = some r) (hp : r.phase = .lay) (hn : r.step = 2) :
    s.resumeStep r = if s.cradle.sensors.vacuumHeld then s.layAt r else (s.layAt r).enterReturn := by
  rw [State.resumeStep, hp, hn, State.layAt, ← State.effectiveClass_eq h]
  rfl

theorem State.resumeStep_returning (hp : r.phase = .returning) : s.resumeStep r = s.enterReturn.returnTest := by
  rw [State.resumeStep, hp]

theorem State.resumeStep_settle (hp : r.phase = .settle) : s.resumeStep r = s.enterSettle := by
  rw [State.resumeStep, hp]

end step

/-! ### RESUME: the checks and the work resumed (R70) -/

theorem Cradle.resumable_eq_false (k : Cradle) :
    k.resumable = false ↔ ¬ (k.state = .holding ∨ (k.state = .parking ∧ k.drive ≠ .moving)) := by
  simp only [Cradle.resumable, Bool.or_eq_false_iff, Bool.and_eq_false_iff, beq_eq_false_iff_ne, bne_eq_false_iff_eq]
  tauto

section resume
variable {s : State} {r : TurnRecord} {hold : HoldRecord} {slot : Nat}

/-- A held turn is TURNING again (R70). -/
def State.resumed (s : State) : State := s.onCradle fun k => { k with hold := none, state := .turning }

theorem State.resumeWork_turn (hs : s.cradle.state = .holding) (hh : s.cradle.hold = some hold) (hw : hold.work = .turn)
    (hr : s.cradle.turn = some r) : s.resumeWork = (.phase r.phase, s.resumed.resumeStep r) := by
  rw [State.resumeWork, hs, hh, Option.map_some, hw, hr]
  rfl

theorem State.resumeWork_settling (hs : s.cradle.state = .holding) (hh : s.cradle.hold = some hold)
    (hw : hold.work = .settling) :
    s.resumeWork = (.settling, (s.onCradle fun k => { k with hold := none }).driveSettling) := by
  rw [State.resumeWork, hs, hh, Option.map_some, hw]

theorem State.driveSettling_eq (hm : s.mountedSlot = some slot) :
    s.driveSettling =
      (s.onCradle (Cradle.settlingToward s.cradle.moveClass (s.entry slot).angleLimit
        (s.angleTime s.cradle.moveClass))).settlingTest := by
  rw [State.driveSettling, State.angleLimit, hm]
  rfl

/-- PARKING driven again, its angle timer in full (R51, R70). -/
def State.parkingDriven (s : State) : State :=
  s.onCradle fun k =>
    { k with
      state := .parking, drive := .moving
      timers := { k.timers with angle := some (s.angleTime k.moveClass) }
      outputs :=
        { angleDrive := .toward 180, armDrive := .toRest none, wandDrive := .up, vacuumOpen := false,
          airKnife := none } }

theorem State.driveParking_eq (s : State) : s.driveParking = s.parkingDriven.parkingTest := rfl

theorem State.resumeWork_parking (hs : s.cradle.state = .parking) : s.resumeWork = (.parking, s.driveParking) := by
  rw [State.resumeWork, hs]

end resume

/-- A request that changes the cradle and the gauge alone and posts nothing: its answer, and what it leaves. -/
theorem State.turning_answers {c : Instr} {o : Origin} {take : State → Served} {s : State} {body : List Byte}
    {cradle : Cradle} {gauge : Gauge} {turn : Option (Phase × Nat × Nat × Nat)} {outputs : Outputs}
    {P : Cradle → Gauge → Prop} (h : s.accepts c o) (he : exec c s = request c o take s)
    (ht : take (s.heard o) = okay body { s.heard o with cradle := cradle, gauge := gauge })
    (hstate : cradle.state = .turning) (hhold : cradle.hold = none)
    (hturn : cradle.turn.map (fun x => (x.phase, x.step, x.done, x.retriesUsed)) = turn) (hP : P cradle gauge)
    (hout : cradle.outputs = outputs) :
    ∃ t, exec c s = .next t ∧
      (t.port o.link).request =
        some (.answered { tag := o.tag, code := codeByte c, result := .ok, body := body }) ∧
      t.cradle.state = .turning ∧ t.cradle.hold = none ∧
      (t.cradle.turn.map fun x => (x.phase, x.step, x.done, x.retriesUsed)) = turn ∧
      t.custody = s.custody ∧ t.sameButTurning s ∧ s.notified t [] ∧ P t.cradle t.gauge ∧
      t.cradle.outputs = outputs := by
  obtain ⟨u, hu, hreq, hsame, hnotified⟩ := request_outcome h ht he rfl
  refine ⟨u, hu, hreq, ?_⟩
  rw [hsame.cradle, hsame.gauge]
  refine ⟨hstate, hhold, hturn, hsame.custody, ?_, ?_, hP, hout⟩
  · exact ⟨hsame.station.symm, hsame.settings.symm, hsame.guards.symm, hsame.lights.symm, hsame.meter.symm,
      hsame.frames.symm, hsame.walker.symm, hsame.pending.symm⟩
  · have hnone : s.framesWaiting { s.heard o with cradle := cradle, gauge := gauge } = [] :=
      if_neg fun ⟨hnow, hthen⟩ => hthen hnow
    rwa [hnone, List.append_nil, show ({ s.heard o with cradle := cradle, gauge := gauge } : State).outbox = [] from h.1]
      at hnotified

/-- Settles O34: the four checks, then the held step by phase and step, a held SETTLING or a stopped PARKING. -/
theorem resumeReentersHeldWork : Obligations.ResumeReentersHeldWork := by
  unfold Obligations.ResumeReentersHeldWork
  intro o s c k m clear h
  have hclear : s.guards.clear = false ↔ ¬ clear := by
    rw [Bool.eq_false_iff, Ne, Guards.clear_iff]
  rw [if_congr (Cradle.resumable_eq_false k).symm rfl rfl, if_congr hclear.symm rfl rfl]
  refine check_answers h rfl rfl fun _ ht => check_answers h rfl ht fun _ ht => check_answers h rfl ht fun _ ht =>
    check_answers h rfl ht fun _ ht => ?_
  refine ⟨fun hold r hs hh hw hr => ?_, fun hold r hs hh hw hr => ?_, fun hold slot hs hh hw hm => ?_, fun hs => ?_⟩
  · intro e waits hwaits hphase hbaseline hlift hlay hstep
    rw [State.resumeWork_turn (s := s.heard o) hs hh hw hr] at ht
    let t := (s.heard o).resumed
    have htr : t.cradle.turn = some r := hr
    obtain ⟨direction, count, done, effectiveClass, retriesUsed, phase, step, leafOnWand, lastClass, drop⟩ := r
    have resumes {w : State} (hw : t.resumeStep _ = w) :
        takeResume (s.heard o) = okay (be 1 (phaseCode phase)) w := ht.trans (congrArg (okay _) hw)
    have hstep : 1 ≤ step := hstep
    have hone (hb : phase ≠ .baseline) (hl : phase ≠ .lift) (hy : phase ≠ .lay) : step = 1 := by
      rcases hphase with hp | hp | hp | hp
      · exact absurd hp hb
      · exact absurd hp hl
      · exact absurd hp hy
      · exact hp
    have untouched {f : TurnRecord → Phase × Nat × Nat × Nat} := congrArg (Option.map f) htr
    cases phase with
    | baseline =>
      have hlast : step ≤ 2 := hbaseline rfl
      obtain rfl | rfl : step = 1 ∨ step = 2 := by omega
      · exact State.turning_answers (P := fun k _ => k.timers.lift = some _) h rfl
          (resumes ((State.resumeStep_baseline htr rfl rfl).trans (if_neg (mt m.atRest_iff.1 hwaits))))
          rfl rfl rfl rfl rfl
      · exact State.turning_answers (P := fun _ g => g.gate = some .baseline ∧ g.count = 0 ∧ g.timer = some _) h rfl
          (resumes (State.resumeStep_baselineGate rfl rfl)) rfl rfl untouched ⟨rfl, rfl, rfl⟩ rfl
    | lift =>
      have hlast : step ≤ 4 := hlift rfl
      obtain rfl | rfl | rfl | rfl : step = 1 ∨ step = 2 ∨ step = 3 ∨ step = 4 := by omega
      · exact State.turning_answers (P := fun k _ => k.timers.lift = some _) h rfl
          (resumes ((State.resumeStep_lift1 htr rfl rfl).trans (if_neg (ne_true_of_eq_false hwaits))))
          rfl rfl rfl rfl rfl
      · exact State.turning_answers (P := fun k _ => k.timers.lift = some _) h rfl
          (resumes ((State.resumeStep_lift2 htr rfl rfl).trans (if_neg (ne_true_of_eq_false hwaits))))
          rfl rfl rfl rfl rfl
      · exact State.turning_answers (P := fun k _ => k.timers.lift = some _) h rfl
          (resumes ((State.resumeStep_lift3 htr rfl rfl).trans (if_pos hwaits))) rfl rfl rfl rfl rfl
      · exact State.turning_answers (P := fun _ g => g.gate = some .lift ∧ g.count = 0 ∧ g.timer = some _) h rfl
          (resumes (State.resumeStep_liftGate htr rfl rfl)) rfl rfl untouched ⟨rfl, rfl, rfl⟩ rfl
    | pickConfirm =>
      obtain rfl : step = 1 := hone nofun nofun nofun
      exact State.turning_answers (P := fun k _ => k.timers.pickConfirm = some _) h rfl
        (resumes (State.resumeStep_pickConfirm htr rfl)) rfl rfl rfl rfl rfl
    | drop =>
      obtain rfl : step = 1 := hone nofun nofun nofun
      exact State.turning_answers (P := fun k _ => k.timers.lift = some _) h rfl
        (resumes ((State.resumeStep_drop htr rfl).trans (State.dropTest_waits hwaits))) rfl rfl rfl rfl rfl
    | carry =>
      obtain rfl : step = 1 := hone nofun nofun nofun
      exact State.turning_answers (P := fun k _ => k.timers.carry = some _) h rfl
        (resumes ((State.resumeStep_carry htr rfl).trans
          ((if_neg (ne_true_of_eq_false hwaits)).trans (State.enterCarry_eq htr)))) rfl rfl rfl rfl rfl
    | lay =>
      have hlast : step ≤ 2 := hlay rfl
      obtain rfl | rfl : step = 1 ∨ step = 2 := by omega
      · exact State.turning_answers (P := fun k _ => k.timers.lay = some _) h rfl
          (resumes ((State.resumeStep_lay1 htr rfl rfl).trans
            ((if_neg (ne_true_of_eq_false hwaits)).trans (State.enterLay_eq htr)))) rfl rfl rfl rfl rfl
      · exact State.turning_answers (P := fun k _ => k.timers.lay = some _) h rfl
          (resumes ((State.resumeStep_lay2 htr rfl rfl).trans (if_pos hwaits))) rfl rfl untouched rfl rfl
    | returning =>
      obtain rfl : step = 1 := hone nofun nofun nofun
      have hreturn := State.enterReturn_eq htr
      have hwait : t.enterReturn.returnTest = t.enterReturn :=
        State.returnTest_waits (by rw [hreturn]; exact mt m.atRest_iff.1 hwaits)
      exact State.turning_answers (P := fun k _ => k.timers.carry = some _) h rfl
        (resumes ((State.resumeStep_returning rfl).trans (hwait.trans hreturn))) rfl rfl rfl rfl rfl
    | settle =>
      obtain rfl : step = 1 := hone nofun nofun nofun
      exact State.turning_answers (P := fun k _ => k.timers.settle = some _) h rfl
        (resumes ((State.resumeStep_settle rfl).trans ((State.enterSettle_eq htr).trans (if_neg hwaits))))
        rfl rfl rfl rfl rfl
  · intro e at_ goesOn gate
    rw [State.resumeWork_turn (s := s.heard o) hs hh hw hr] at ht
    let t := (s.heard o).resumed
    have htr : t.cradle.turn = some r := hr
    have goes {w : State} {cradle : Cradle → Cradle} {gauge : Gauge → Gauge} (hstep : t.resumeStep r = w)
        (hw : w =
          ((s.heard o).onCradle fun k => { cradle k with state := .turning, hold := none }).onGauge gauge) :
        goesOn cradle gauge :=
      answersWith_quiet h rfl (ht.trans (congrArg (okay _) (hstep.trans hw))) h.1 rfl
    refine ⟨fun ⟨hp, hn⟩ harm hwand => ?_, fun ⟨hp, hn⟩ hl => ?_, fun ⟨hp, hn⟩ hl => ?_, fun ⟨hp, hn⟩ hl => ?_,
      fun ⟨hp, hn⟩ hl => ?_, fun ⟨hp, hn⟩ hl => ?_, fun ⟨hp, hn⟩ hl => ?_, fun ⟨hp, hn⟩ harm hwand htime => ?_,
      fun ⟨hp, hn⟩ hv hd harm hdrop => ?_, fun slot leaf ⟨hp, hn⟩ htime hlast hm hleaf => ?_⟩
    · refine goes ((State.resumeStep_baseline htr hp hn).trans (if_pos (m.atRest_iff.2 ⟨harm, hwand⟩))) ?_
      rw [State.baselineAt, ← hp]; rfl
    · refine goes ((State.resumeStep_lift1 htr hp hn).trans (if_pos hl)) ?_
      rw [← hp]; rfl
    · refine goes ((State.resumeStep_lift2 htr hp hn).trans (if_pos hl)) ?_
      rw [← hp]; rfl
    · refine goes ((State.resumeStep_lift3 htr hp hn).trans (if_neg (ne_true_of_eq_false hl))) ?_
      rw [← hp]; rfl
    · exact goes ((State.resumeStep_carry htr hp).trans (if_pos hl)) rfl
    · refine goes ((State.resumeStep_lay1 htr hp hn).trans (if_pos hl)) ?_
      rw [← hp]; rfl
    · refine goes ((State.resumeStep_lay2 htr hp hn).trans (if_neg (ne_true_of_eq_false hl))) ?_
      rw [State.enterReturn_eq (s := t.layAt r) htr]
      rfl
    · refine goes ((State.resumeStep_returning hp).trans ?_) rfl
      rw [State.enterReturn_eq htr]
      refine (if_pos (m.atRest_iff.2 ⟨harm, hwand⟩)).trans ?_
      exact (State.enterSettle_eq (r := { r with phase := .returning, step := 1 }) rfl).trans ((if_neg htime).trans rfl)
    · refine goes ((State.resumeStep_drop htr hp).trans ?_) rfl
      have hbegins := State.dropTest_begins (s := t.droppingAt r r.drop) rfl ⟨hv, hd⟩ hdrop
      exact hbegins.trans ((if_neg (ne_true_of_eq_false harm)).trans rfl)
    · have hended : t.resumeStep r =
          ((t.settlingAt r).leafBooked { r with phase := .settle, step := 1 } slot leaf).endTurn .complete none := by
        rw [State.resumeStep_settle hp, State.enterSettle_eq htr]
        refine (if_pos htime).trans ?_
        have hend := State.settleEnd_eq (s := t.settlingAt r) hm rfl (State.settlingAt_currentLeaf htr hleaf)
        exact hend.trans (if_pos hlast)
      rw [hended, hp] at ht
      exact answersWith_posts h rfl ht h.1 rfl
  · intro limit near
    rw [State.resumeWork_settling (s := s.heard o) hs hh hw] at ht
    let u := (s.heard o).onCradle fun k => { k with hold := none }
    let v := u.onCradle (Cradle.settlingToward k.moveClass limit (s.angleTime k.moveClass))
    have hv : u.driveSettling = v.settlingTest := State.driveSettling_eq (s := u) hm
    rw [hv] at ht
    by_cases hn : near
    · simp only [if_pos hn]
      refine answersWith_posts h rfl (ht.trans (congrArg (okay _) ?_)) h.1 rfl
      exact State.settlingTest_arrives (s := v) hm hn
    · simp only [if_neg hn]
      refine answersWith_quiet h rfl (ht.trans (congrArg (okay _) ?_)) h.1 rfl
      exact State.settlingTest_waits (s := v) hm hn
  · intro arrived
    rw [State.resumeWork_parking (s := s.heard o) hs] at ht
    let v := (s.heard o).parkingDriven
    by_cases ha : arrived
    · simp only [if_pos ha]
      have hv : v.cradle.arrivesParked := ⟨rfl, ha⟩
      cases hp : k.parked with
      | none =>
        refine answersWith_quiet h rfl (ht.trans (congrArg (okay _) ?_)) h.1 rfl
        exact State.parkingTest_arrives_none hv hp
      | some volume =>
        refine answersWith_posts h rfl (ht.trans (congrArg (okay _) ?_)) h.1 rfl
        exact State.parkingTest_arrives_some hv hp
    · simp only [if_neg ha]
      have hwaits : v.parkingTest = v :=
        State.parkingTest_waits fun ⟨_, hangle, hrest⟩ => ha ⟨hangle, m.atRest_iff.1 hrest⟩
      have hquiet : s.answersWith c o .ok (be 1 9) _ [] :=
        answersWith_quiet (effect := State.parkingDriven) h rfl (ht.trans (congrArg (okay _) hwaits)) h.1 rfl
      cases hp : k.parked with
      | none => exact hquiet
      | some volume => exact hquiet

end Sys2Proof.Machine
end

section
/-! PROOFS. Trips: the light and the sweep stopped, the work at the cradle held. -/

namespace Sys2Proof.Machine

/-! ### What stops the light and the sweep reads the light, the frames and the walker alone -/

/-- Two states with the same light, metering, frames and walker. -/
def State.sameLight (s t : State) : Prop :=
  t.lights = s.lights ∧ t.meter = s.meter ∧ t.frames = s.frames ∧ t.walker = s.walker

section sameLight
variable {s t : State}

theorem State.sameLight.onLights (h : s.sameLight t) (f : Lights → Lights) : (s.onLights f).sameLight (t.onLights f) :=
  ⟨congrArg f h.1, h.2⟩

theorem State.sameLight.onMeter (h : s.sameLight t) (f : Meter → Meter) : (s.onMeter f).sameLight (t.onMeter f) :=
  ⟨h.1, congrArg f h.2.1, h.2.2⟩

theorem State.sameLight.onFrames (h : s.sameLight t) (f : Frames → Frames) : (s.onFrames f).sameLight (t.onFrames f) :=
  ⟨h.1, h.2.1, congrArg f h.2.2.1, h.2.2.2⟩

theorem State.sameLight.onWalker (h : s.sameLight t) (f : Walker → Walker) : (s.onWalker f).sameLight (t.onWalker f) :=
  ⟨h.1, h.2.1, h.2.2.1, congrArg f h.2.2.2⟩

theorem State.sameLight.onSweep (h : s.sameLight t) (f : Sweep → Sweep) : (s.onSweep f).sameLight (t.onSweep f) :=
  h.onWalker _

theorem State.sameLight.onCounts (h : s.sameLight t) (f : SweepCounts → SweepCounts) :
    (s.onCounts f).sameLight (t.onCounts f) :=
  h.onSweep _

theorem State.sameLight.onCameras (h : s.sameLight t) (f : CameraPort → CameraPort) :
    (s.onCameras f).sameLight (t.onCameras f) :=
  h.onWalker _

/-- Notices posted say nothing of the light. -/
theorem State.sameLight.post (h : s.sameLight t) (m n : Notice) : (s.post m).sameLight (t.post n) := h

theorem State.sameLight.onEach (h : s.sameLight t) (indices : List Nat) (f : Descriptor → Descriptor) :
    (s.onEach indices f).sameLight (t.onEach indices f) := by
  induction indices generalizing s t with
  | nil => exact h
  | cons i rest ih => exact ih (h.onFrames _)

theorem State.sameLight.owner (h : s.sameLight t) : t.lightOwner = s.lightOwner := by
  rw [State.lightOwner, State.lightOwner, h.1]

theorem State.sameLight.putOut (h : s.sameLight t) : s.putOut.sameLight t.putOut := by
  unfold State.putOut
  rw [h.1]
  split
  · exact h
  · exact (h.onLights _).onMeter _

theorem State.sameLight.endPreview (h : s.sameLight t) (cause : PreviewEnd) :
    (s.endPreview cause).sameLight (t.endPreview cause) := by
  unfold State.endPreview
  rw [h.1]
  split
  · exact h
  · exact h.putOut.onLights _

theorem State.sameLight.handMeasured (h : s.sameLight t) : s.handMeasured.sameLight t.handMeasured := by
  unfold State.handMeasured
  rw [h.2.1, h.2.2.1]
  exact h.onEach _ _

theorem State.sameLight.completeSlot (h : s.sameLight t) (status : FrameStatus) :
    (s.completeSlot status).sameLight (t.completeSlot status) := by
  unfold State.completeSlot
  rw [h.2.2.1]
  exact (h.onEach _ _).onFrames _

theorem State.sameLight.tearSlot (h : s.sameLight t) : s.tearSlot.sameLight t.tearSlot := by
  have torn {a b : State} (hab : a.sameLight b) :
      ((a.lowerTriggers.stopCameraTimers.completeSlot .torn).onCounts fun c =>
        { c with torn := count32 c.torn a.frames.slot.length }).sameLight
      ((b.lowerTriggers.stopCameraTimers.completeSlot .torn).onCounts fun c =>
        { c with torn := count32 c.torn b.frames.slot.length }) := by
    rw [hab.2.2.1]
    exact (((hab.onCameras _).onCameras _).completeSlot _).onCounts _
  unfold State.tearSlot
  rw [h.owner, h.2.2.1]
  split
  · exact h
  · exact torn (by split; exacts [h.handMeasured.putOut, h])

theorem State.sameLight.divert (h : s.sameLight t) : s.divert.sameLight t.divert := by
  unfold State.divert
  rw [h.2.2.1]
  exact ((h.onEach _ _).onFrames _).onCounts _

theorem State.sameLight.sweepTrip (h : s.sameLight t) (reason : SweepEnd) :
    (s.sweepTrip reason).sameLight (t.sweepTrip reason) := by
  unfold State.sweepTrip State.endSweep
  rw [h.2.2.2]
  split
  · exact h
  · refine ((State.sameLight.divert ?_).onSweep _).post _ _
    split
    · exact h.tearSlot
    · exact h

theorem State.sameLight.captureNotices (h : s.sameLight t) (u : State) : t.captureNotices u = s.captureNotices u := by
  rw [State.captureNotices, State.captureNotices, State.framesWaiting, State.framesWaiting, h.2.2.1, h.2.2.2]

theorem State.sameLight.framesWaiting (h : s.sameLight t) (u : State) : t.framesWaiting u = s.framesWaiting u := by
  rw [State.framesWaiting, State.framesWaiting, h.2.2.1]

end sameLight

/-! ### The light stopped -/

/-- The owner of the light says whether metering runs (R110). -/
theorem State.LightSafe.running_iff {s : State} (h : s.LightSafe) : s.meter.running = none ↔ s.lightOwner = none := by
  rw [h.metered, State.lightOwner, Option.map_eq_none_iff, Option.map_eq_none_iff]

theorem State.putOut_meter_eq {s : State} (h : s.lightOwner ≠ none) :
    s.putOut.meter = { s.meter with running := none, irradiance := 0 } := by
  unfold State.putOut
  split
  · next hn => exact absurd (by rw [State.lightOwner, hn]; rfl) h
  · rfl

/-- The Dose Meter after a trip: metering IDLE, the accumulators as they stood (R110). -/
theorem State.LightSafe.stopped_meter {s : State} (h : s.LightSafe) (reason : SweepEnd) (hr : reason.tears = true)
    (cause : PreviewEnd) :
    ((s.sweepTrip reason).endPreview cause).meter =
      if s.meter.running = none then s.meter else { s.meter with running := none, irradiance := 0 } := by
  rw [if_congr h.running_iff rfl rfl]
  cases ho : s.lightOwner with
  | some owner =>
    rw [if_neg (by nofun)]
    cases owner with
    | preview =>
      rw [State.sweepTrip, if_pos (h.framing ho), State.endPreview, if_neg (h.owner_preview ho), State.onLights_meter]
      exact State.putOut_meter_eq (by rw [ho]; nofun)
    | exposure =>
      obtain ⟨hsweep, -, hslot, -⟩ := h.exposing ho
      have hp : s.lights.preview = none := h.no_preview (by rw [ho]; nofun)
      have hpreview : (s.sweepTrip reason).lights.preview = none :=
        (State.sweepTrip_preview s h.one reason hr).1.trans hp
      have hmeter : s.tearSlot.meter = s.handMeasured.putOut.meter := by
        simp [State.tearSlot, hslot, ho]
      rw [State.endPreview_none _ _ hpreview, State.sweepTrip, if_neg hsweep]
      have hend : (s.endSweep reason).meter = s.tearSlot.meter := by simp [State.endSweep, hr]
      have howner : s.handMeasured.lightOwner ≠ none := by
        have : s.handMeasured.lightOwner = s.lightOwner := by simp [State.lightOwner]
        rw [this, ho]; nofun
      rw [hend, hmeter, State.putOut_meter_eq howner]
      simp
  | none =>
    rw [if_pos rfl]
    have hd := State.dark_of_owner ho
    have hp := h.dark_preview hd
    have hpreview : (s.sweepTrip reason).lights.preview = none := (State.sweepTrip_preview s h.one reason hr).1.trans hp
    rw [State.endPreview_none _ _ hpreview, State.sweepTrip]
    split
    · rfl
    · have hend : (s.endSweep reason).meter = s.tearSlot.meter := by simp [State.endSweep, hr]
      rw [hend, ((State.tearSlot_light s h.one).2.1 (by rw [ho]; nofun)).2]

/-! ### A trip (R68, R69, R85, R171, R178) -/

/-- A trip with a cause: the light and the sweep stopped, the work at the cradle held. -/
def State.tripBy (cause : StopCause) (s : State) : State :=
  (s.stopLightAndSweep cause.sweepEnd cause.previewEnd).cradleTrip cause

theorem StopCause.sweepEnd_tears (cause : StopCause) : cause.sweepEnd.tears = true := by
  cases cause <;> rfl

theorem State.heldNotices_congr {s t : State} (hk : t.cradle = s.cradle) (hg : t.gauge = s.gauge) (cause : StopCause) :
    t.heldNotices cause = s.heldNotices cause := by
  rw [State.heldNotices, State.heldNotices, hk, hg]

/-- A trip leaves the other blocks alone. -/
theorem State.tripBy_only (cause : StopCause) (s : State) :
    (s.tripBy cause).station = s.station ∧ (s.tripBy cause).settings = s.settings ∧
      (s.tripBy cause).guards = s.guards ∧ (s.tripBy cause).custody = s.custody ∧
      (s.tripBy cause).links = s.links ∧ (s.tripBy cause).pending = s.pending := by
  rw [State.tripBy, State.cradleTrip_eq]
  simp

/-- A trip that begins in a state with the blocks of `s` it reads: what `State.tripped` says. -/
theorem State.tripBy_tripped {s b u : State} (h : s.LightSafe) (hb : s.sameLight b) (hk : b.cradle = s.cradle)
    (hg : b.gauge = s.gauge) (hc : b.custody = s.custody) (hp : b.pending = s.pending) (cause : StopCause)
    (hu : (b.tripBy cause).sameBlocks u) : s.tripped u cause := by
  have hr := cause.sweepEnd_tears
  have hd := State.stopped_dark s h _ hr cause.previewEnd
  have hstop : ((s.sweepTrip cause.sweepEnd).endPreview cause.previewEnd).sameLight
      (b.stopLightAndSweep cause.sweepEnd cause.previewEnd) := by
    have := ((hb.sweepTrip cause.sweepEnd).endPreview cause.previewEnd).putOut
    rwa [State.putOut_of_dark _ hd] at this
  obtain ⟨hl, hm, hf, hw⟩ := hstop
  have heq := b.stopLightAndSweep cause.sweepEnd cause.previewEnd |>.cradleTrip_eq cause
  obtain ⟨-, -, hcustody, hcradle, hgauge, -, -, hpending⟩ :=
    State.stopLightAndSweep_only cause.sweepEnd cause.previewEnd b
  have hlights : u.lights = ((s.sweepTrip cause.sweepEnd).endPreview cause.previewEnd).lights :=
    (hu.lights.trans (congrArg State.lights heq)).trans hl
  have hframes : u.frames = (s.sweepTrip cause.sweepEnd).frames :=
    ((hu.frames.trans (congrArg State.frames heq)).trans hf).trans (by simp)
  have hwalker : u.walker = (s.sweepTrip cause.sweepEnd).walker :=
    ((hu.walker.trans (congrArg State.walker heq)).trans hw).trans (by simp)
  obtain ⟨hpreview, hlast⟩ := State.sweepTrip_preview s h.one _ hr
  refine ⟨?_, ?_, ?_, ?_, fun hi => ?_, fun hi => ?_, ?_, ?_, ?_, ?_⟩
  · rwa [hlights]
  · rw [hlights]; exact (State.endPreview_preview _ _).1
  · rw [hlights, (State.endPreview_preview _ _).2, hpreview, hlast]
  · rw [← h.stopped_meter _ hr cause.previewEnd]
    exact (hu.meter.trans (congrArg State.meter heq)).trans hm
  · rw [State.sweepTrip, if_pos hi] at hframes hwalker
    exact ⟨hframes, hwalker⟩
  · rw [State.sweepTrip, if_neg hi] at hframes hwalker
    exact (State.endSweep_tears _ hr s).1.congr hframes hwalker
  · refine (hu.cradle.trans (congrArg State.cradle heq)).trans ?_
    simp only [hcradle, hk]
  · refine (hu.gauge.trans (congrArg State.gauge heq)).trans ?_
    simp only [hcradle, hgauge, hk, hg]
  · exact (hu.custody.trans (congrArg State.custody heq)).trans (hcustody.trans hc)
  · exact (hu.pending.trans (congrArg State.pending heq)).trans (hpending.trans hp)

/-- What a trip posts: SWEEP ENDED of an active sweep, then TURN HELD of the work it stops. -/
theorem State.tripBy_posts {s b u : State} (hb : s.sameLight b) (hk : b.cradle = s.cradle) (hg : b.gauge = s.gauge)
    (cause : StopCause) (hu : (b.tripBy cause).sameBlocks u) :
    ∃ ended : List Notice, (b.tripBy cause).outbox = b.outbox ++ (ended ++ s.heldNotices cause) ∧
      s.captureNotices u = s.framesWaiting (b.tripBy cause) ++ ended ∧ ∀ n ∈ ended, n.rank = 11 := by
  have heq := b.stopLightAndSweep cause.sweepEnd cause.previewEnd |>.cradleTrip_eq cause
  have hwalker : u.walker = (b.sweepTrip cause.sweepEnd).walker := by
    rw [hu.walker, State.tripBy, heq, State.stopLightAndSweep]
    simp
  obtain ⟨ended, hout, hcapture, hrank⟩ := State.captureNotices_sweepTrip b _ cause.sweepEnd_tears u hwalker
  refine ⟨ended, ?_, ?_, hrank⟩
  · have hheld : (b.stopLightAndSweep cause.sweepEnd cause.previewEnd).heldNotices cause = s.heldNotices cause := by
      obtain ⟨-, -, -, hcradle, hgauge, -⟩ := State.stopLightAndSweep_only cause.sweepEnd cause.previewEnd b
      exact State.heldNotices_congr (hcradle.trans hk) (hgauge.trans hg) cause
    have hstop : (b.stopLightAndSweep cause.sweepEnd cause.previewEnd).outbox = (b.sweepTrip cause.sweepEnd).outbox := by
      simp [State.stopLightAndSweep]
    rw [State.tripBy, heq, hheld, ← List.append_assoc, ← hout, ← hstop]
  · rw [← hb.captureNotices, hcapture, hb.framesWaiting, State.framesWaiting, State.framesWaiting, hu.frames]

theorem State.heldNotices_rank (s : State) (cause : StopCause) : ∀ n ∈ s.heldNotices cause, n.rank = 5 := by
  unfold State.heldNotices
  split
  · simp [Notice.rank]
  · simp [Notice.rank]
  · split <;> simp [Notice.rank]
  · simp

/-- An event that leaves the links alone: the next state has the blocks its function leaves, and what it posted is
delivered. -/
theorem event_outcome (f : State → State) (s : State) (h : (f s).links = s.links) :
    ∃ u, event f s = .next u ∧ (f s).sameBlocks u ∧ s.notified u ((f s).outbox ++ s.framesWaiting (f s)) := by
  refine ⟨_, rfl, by constructor <;> simp, State.finish_notified s _ fun link => ?_⟩
  rw [State.port, State.port, h]

theorem State.sameBlocks.of_onOutbox {t u : State} {f : List Notice → List Notice} (h : (t.onOutbox f).sameBlocks u) :
    t.sameBlocks u :=
  ⟨h.station, h.settings, h.custody, h.cradle, h.gauge, h.guards, h.lights, h.meter, h.frames, h.walker, h.pending⟩

/-! ### The order of the notices of a trip -/

theorem filter_of_rank {l : List Notice} {r : Nat} (h : ∀ n ∈ l, n.rank = r) (k : Nat) :
    l.filter (fun n => n.rank == k) = if k = r then l else [] := by
  split
  · next hk => exact List.filter_eq_self.2 fun n hn => by rw [h n hn, hk]; exact beq_self_eq_true r
  · next hk => exact List.filter_eq_nil_iff.2 fun n hn => by rw [h n hn, beq_iff_eq]; exact fun he => hk he.symm

section order
variable {changed ended held tripped settings waiting : List Notice} (he : ∀ n ∈ ended, n.rank = 11)
  (hh : ∀ n ∈ held, n.rank = 5) (hw : ∀ n ∈ waiting, n.rank = 10)
include he hh hw

/-- A guard trip or a halt: MODE CHANGED posted first, GUARD TRIPPED last (R85, R87, R178). -/
theorem inOrderOfKind_trip (hc : ∀ n ∈ changed, n.rank = 13) (ht : ∀ n ∈ tripped, n.rank = 1) :
    inOrderOfKind (changed ++ (ended ++ held) ++ tripped ++ waiting) =
      inOrderOfKind (tripped ++ held ++ (waiting ++ ended) ++ changed) := by
  refine inOrderOfKind_congr fun k => ?_
  simp only [List.filter_append, filter_of_rank hc, filter_of_rank he, filter_of_rank hh, filter_of_rank ht,
    filter_of_rank hw]
  grind

/-- A settings fault: SETTINGS CHANGED posted last (R171). -/
theorem inOrderOfKind_settings (hs : ∀ n ∈ settings, n.rank = 2) :
    inOrderOfKind (ended ++ held ++ settings ++ waiting) = inOrderOfKind (held ++ (waiting ++ ended) ++ settings) := by
  refine inOrderOfKind_congr fun k => ?_
  simp only [List.filter_append, filter_of_rank hs, filter_of_rank he, filter_of_rank hh, filter_of_rank hw]
  grind

end order

theorem State.announced_congr (s : State) {a b : List Notice} (h : inOrderOfKind a = inOrderOfKind b) :
    s.announced a = s.announced b := by
  simp only [State.announced, Port.receive, h]

/-! ### A trip in a dark station with no sweep (R68, R69) -/

/-- The work at the cradle held by a trip, and a gauge gate of a turn discarded. -/
def State.heldBy (cause : StopCause) (s : State) : State :=
  (s.onCradle (Cradle.trippedBy cause)).onGauge fun g => if s.cradle.state = .turning then g.idle else g

section dark
variable {s : State} {r : TurnRecord} {cause : StopCause}

theorem State.tripBy_dark (hw : s.walker.sweep.state = .idle) (hd : s.lights.dark) (hp : s.lights.preview = none)
    (cause : StopCause) : s.tripBy cause = (s.heldBy cause).onOutbox (· ++ s.heldNotices cause) := by
  have hstop : s.stopLightAndSweep cause.sweepEnd cause.previewEnd = s := by
    rw [State.stopLightAndSweep, State.sweepTrip, if_pos hw, State.endPreview_none _ _ hp, State.putOut_of_dark _ hd]
  rw [State.tripBy, hstop, State.cradleTrip_eq]
  rfl

theorem State.heldBy_turning (hs : s.cradle.state = .turning) (ht : s.cradle.turn = some r) :
    s.heldBy cause =
      (s.onCradle fun k =>
        { k with
          state := .holding, hold := some { cause := cause, work := .turn }
          timers := { CradleTimers.stopped with angle := k.timers.angle }
          outputs :=
            { k.outputs with armDrive := .stopped, wandDrive := .stopped, airKnife := none,
                             vacuumOpen := r.leafOnWand } }).onGauge Gauge.idle := by
  have hwand : s.cradle.leafOnWand = r.leafOnWand := by rw [Cradle.leafOnWand, ht]; rfl
  simp only [State.heldBy, Cradle.trippedBy, hs, hwand, State.onCradle, State.onGauge, if_true]

theorem State.heldNotices_turning (hs : s.cradle.state = .turning) (ht : s.cradle.turn = some r) :
    s.heldNotices cause = [.turnHeld cause (.phase r.phase) r.done s.gauge.values] := by
  rw [State.heldNotices, hs, ht]
  rfl

theorem State.heldBy_settling (hs : s.cradle.state = .settling) :
    s.heldBy cause =
      s.onCradle fun k =>
        { k with
          state := .holding, hold := some { cause := cause, work := .settling }
          timers := { k.timers with angle := none }
          outputs := { k.outputs with angleDrive := .stopped } } := by
  simp only [State.heldBy, Cradle.trippedBy, hs, State.onCradle, State.onGauge, reduceCtorEq, if_false]

theorem State.heldNotices_settling (hs : s.cradle.state = .settling) :
    s.heldNotices cause = [.turnHeld cause .settling 0 s.gauge.values] := by
  rw [State.heldNotices, hs]

theorem State.heldBy_parking (hs : s.cradle.state = .parking) (hd : s.cradle.drive = .moving) :
    s.heldBy cause =
      s.onCradle fun k =>
        { k with
          drive := .stopped cause, timers := { k.timers with angle := none }
          outputs := { k.outputs with angleDrive := .stopped, armDrive := .stopped, wandDrive := .stopped } } := by
  simp only [State.heldBy, Cradle.trippedBy, hs, hd, State.onCradle, State.onGauge, reduceCtorEq, if_false, if_true]

theorem State.heldNotices_parking (hs : s.cradle.state = .parking) (hd : s.cradle.drive = .moving) :
    s.heldNotices cause =
      if s.cradle.parked = none then [] else [.turnHeld cause .parking 0 s.gauge.values] := by
  rw [State.heldNotices, hs]
  by_cases hp : s.cradle.parked = none
  · rw [if_pos hp]; exact if_neg fun h => h.2 hp
  · rw [if_neg hp]; exact if_pos ⟨hd, hp⟩

/-- No work at the cradle that a trip stops. -/
def Cradle.still (k : Cradle) : Prop :=
  k.state = .parked ∨ k.state = .openReady ∨ k.state = .fault ∨ k.state = .recovering ∨ k.state = .holding ∨
    (k.state = .parking ∧ k.drive ≠ .moving)

theorem State.heldBy_still (h : s.cradle.still) (cause : StopCause) :
    s.heldBy cause = s ∧ s.heldNotices cause = [] := by
  rcases h with h | h | h | h | h | ⟨h, hd⟩
  all_goals simp only [State.heldBy, Cradle.trippedBy, State.heldNotices, h, State.onCradle, State.onGauge, reduceCtorEq,
    if_false, and_self]
  simp only [hd, false_and, if_false, and_self]

end dark

end Sys2Proof.Machine
end

section
/-! PROOFS. The guards: a curtain break, the stop key. -/

namespace Sys2Proof.Machine

/-! ### The curtain (R84, R85) -/

/-- The curtain BROKEN, its latch set (R84). -/
def State.curtainSet (s : State) : State := s.onGuards fun g => { g with curtainBroken := true, curtainLatch := true }

/-- GUARD TRIPPED of a curtain break that finds the latch clear (R85). -/
def State.curtainNotices (s : State) : List Notice :=
  if s.guards.curtainLatch then [] else [.guardTripped .curtain s.station.mode]

theorem State.curtainBreaks_eq (s : State) :
    s.curtainBreaks = (s.curtainSet.tripBy .guard).onOutbox (· ++ s.curtainNotices) := by
  obtain ⟨hstation, -⟩ := State.tripBy_only .guard s.curtainSet
  unfold State.curtainBreaks State.curtainNotices
  split
  · simp only [List.append_nil]
    rfl
  · rw [show s.station.mode = (s.curtainSet.tripBy .guard).station.mode by rw [hstation]; rfl]
    rfl

theorem State.curtainNotices_rank (s : State) : ∀ n ∈ s.curtainNotices, n.rank = 1 := by
  unfold State.curtainNotices
  split <;> simp [Notice.rank]

theorem State.exec_curtainBroken {s : State} (h : s.guards.curtainBroken = false) :
    ∃ f, exec .curtainBroken s = event f s ∧
      f s = (s.curtainSet.tripBy .guard).onOutbox (· ++ s.curtainNotices) :=
  ⟨_, (rfl : execCurtainBroken s = event _ s), (if_neg (ne_true_of_eq_false h)).trans s.curtainBreaks_eq⟩

/-- A curtain break in a dark station with no sweep (R68, R85). -/
theorem State.curtainBroken_dark {s : State} (hq : s.quiet) (h : s.guards.curtainBroken = false)
    (hw : s.walker.sweep.state = .idle) (hd : s.lights.dark) (hp : s.lights.preview = none) :
    exec .curtainBroken s =
      .next ((s.curtainSet.heldBy .guard).announced (s.curtainNotices ++ s.heldNotices .guard)) := by
  obtain ⟨f, he, hf⟩ := State.exec_curtainBroken h
  rw [State.tripBy_dark (s := s.curtainSet) hw hd hp] at hf
  have hposted : f s = (s.curtainSet.heldBy .guard).onOutbox fun _ => s.heldNotices .guard ++ s.curtainNotices := by
    rw [hf]
    show State.onOutbox (fun _ => (s.outbox ++ s.heldNotices .guard) ++ s.curtainNotices) _ = _
    rw [show s.outbox = [] from hq, List.nil_append]
    rfl
  refine (he.trans (event_announces f s _ _ hposted hq id)).trans (congrArg _ (State.announced_congr _ ?_))
  have horder := inOrderOfKind_trip (changed := []) (ended := []) (waiting := []) (List.forall_mem_nil _)
    (s.heldNotices_rank .guard) (List.forall_mem_nil _) (List.forall_mem_nil _) s.curtainNotices_rank
  simpa using horder

/-- Settles O44: dark, the work held and the notices; with light or a sweep, what every trip does. -/
theorem curtainBreakStopsWorkAndLight : Obligations.CurtainBreakStopsWorkAndLight := by
  unfold Obligations.CurtainBreakStopsWorkAndLight
  constructor
  · intro s k broken tripped hq
    refine ⟨?_, fun hb => ?_, fun hb hw hd hp => ?_⟩
    · change execCurtainClear s = _
      exact event_eq _ s _ rfl hq rfl
    · change execCurtainBroken s = _
      exact event_eq _ s s (if_pos hb) hq rfl
    have hdark := State.curtainBroken_dark hq hb hw hd hp
    refine ⟨fun r hs ht => ?_, fun hs => ?_, fun hs hmoving => ?_, fun hs => ?_⟩
    · rw [hdark, State.heldBy_turning (s := s.curtainSet) hs ht, State.heldNotices_turning hs ht]
      rfl
    · rw [hdark, State.heldBy_settling (s := s.curtainSet) hs, State.heldNotices_settling hs]
      rfl
    · rw [hdark, State.heldBy_parking (s := s.curtainSet) hs hmoving, State.heldNotices_parking hs hmoving]
      rfl
    · obtain ⟨hheld, -⟩ := State.heldBy_still (s := s.curtainSet) hs .guard
      rw [hdark, hheld, (State.heldBy_still (s := s) hs .guard).2, List.append_nil]
      rfl
  · intro s hq hsafe hb
    obtain ⟨f, he, hf⟩ := State.exec_curtainBroken hb
    obtain ⟨hstation, hsettings, hguards, -, hlinks, -⟩ := State.tripBy_only .guard s.curtainSet
    obtain ⟨u, hu, hsame, hnotified⟩ := event_outcome f s (by rw [hf]; exact hlinks)
    rw [hf] at hsame hnotified
    have hb : s.sameLight s.curtainSet := ⟨rfl, rfl, rfl, rfl⟩
    obtain ⟨ended, hout, hcapture, hrank⟩ := State.tripBy_posts hb rfl rfl .guard hsame.of_onOutbox
    refine ⟨u, he.trans hu, State.tripBy_tripped hsafe hb rfl rfl rfl rfl .guard hsame.of_onOutbox,
      hsame.guards.trans hguards, hsame.station.trans hstation, hsame.settings.trans hsettings, hnotified.congr ?_⟩
    have horder := inOrderOfKind_trip (changed := []) hrank (s.heldNotices_rank .guard)
      (State.framesWaiting_rank s (s.curtainSet.tripBy .guard)) (List.forall_mem_nil _) s.curtainNotices_rank
    rw [List.nil_append, List.append_nil, ← hcapture] at horder
    refine Eq.trans (congrArg inOrderOfKind ?_) horder
    show (s.curtainSet.tripBy .guard).outbox ++ s.curtainNotices ++ _ = _
    rw [hout, show s.curtainSet.outbox = [] from hq, List.nil_append]
    rfl

/-! ### The stop key (R87, R88) -/

/-- The stop key PRESSED, its latch set (R87). -/
def State.stopSet (s : State) : State := s.onGuards fun g => { g with stopPressed := true, stopLatch := true }

/-- GUARD TRIPPED of a press that finds the latch clear, with the mode after the press (R87). -/
def State.stopNotices (mode : Mode) (s : State) : List Notice :=
  if s.guards.stopLatch then [] else [.guardTripped .stopKey mode]

theorem State.stopNotices_rank (mode : Mode) (s : State) : ∀ n ∈ s.stopNotices mode, n.rank = 1 := by
  unfold State.stopNotices
  split <;> simp [Notice.rank]

theorem State.stopKeyPressed_other {s : State} (h : s.station.mode ≠ .ready) :
    s.stopKeyPressed = s.stopSet.onOutbox (· ++ s.stopNotices s.station.mode) := by
  unfold State.stopKeyPressed State.stopNotices
  simp only [if_neg h]
  split
  · simp only [List.append_nil]
    rfl
  · rfl

theorem State.stopKeyPressed_ready {s : State} (h : s.station.mode = .ready) :
    s.stopKeyPressed =
      ((s.stopSet.setMode .halted .stopKey).tripBy .halt).onOutbox (· ++ s.stopNotices .halted) := by
  obtain ⟨hstation, -⟩ := State.tripBy_only .halt (s.stopSet.setMode .halted .stopKey)
  have hmode : (s.stopSet.enterHalted .stopKey).station.mode = .halted := congrArg Station.mode hstation
  unfold State.stopKeyPressed State.stopNotices
  simp only [if_pos h]
  split
  · simp only [List.append_nil]
    rfl
  · refine (congrArg (fun m => (s.stopSet.enterHalted .stopKey).post (.guardTripped .stopKey m)) hmode).trans rfl

theorem State.exec_stopKeyPress {s : State} (h : s.guards.stopPressed = false) :
    ∃ f, exec .stopKeyPress s = event f s ∧ f s = s.stopKeyPressed :=
  ⟨_, (rfl : execStopKeyPress s = event _ s), if_neg (ne_true_of_eq_false h)⟩

/-- MODE CHANGED of the entry to HALTED from READY (R175, R178). -/
theorem State.setMode_outbox {s : State} (h : s.station.mode = .ready) (hq : s.outbox = []) (cause : ModeCause) :
    (s.setMode .halted cause).outbox = [.modeChanged .ready .halted cause] := by
  show s.outbox ++ [.modeChanged s.station.mode .halted cause] = _
  rw [hq, h]
  rfl

/-- Settles O45: a release, a press in each mode, dark or with light. -/
theorem stopKeyHaltsTheStation : Obligations.StopKeyHaltsTheStation := by
  unfold Obligations.StopKeyHaltsTheStation
  intro s hq pressed tripped
  have hchanged : ∀ n ∈ [Notice.modeChanged .ready .halted .stopKey], n.rank = 13 := by simp [Notice.rank]
  refine ⟨?_, fun hp => ?_, fun hp hmode => ?_, fun hp hmode hw hd hpreview hk => ?_, fun hp hmode hsafe => ?_⟩
  · change execStopKeyRelease s = _
    exact event_eq _ s _ rfl hq rfl
  · change execStopKeyPress s = _
    exact event_eq _ s s (if_pos hp) hq rfl
  · obtain ⟨f, he, hf⟩ := State.exec_stopKeyPress hp
    refine he.trans (event_announces f s s.stopSet _ ((hf.trans (State.stopKeyPressed_other hmode)).trans ?_) hq id)
    show State.onOutbox (fun _ => s.outbox ++ _) _ = _
    rw [show s.outbox = [] from hq, List.nil_append]
    rfl
  · obtain ⟨f, he, hf⟩ := State.exec_stopKeyPress hp
    let b := s.stopSet.setMode .halted .stopKey
    let x := s.stopSet.onStation fun x => { x with mode := .halted }
    have hout : b.outbox = [.modeChanged .ready .halted .stopKey] := State.setMode_outbox (s := s.stopSet) hmode hq _
    have hstill : b.cradle.still := hk.elim (fun h => .inr (.inl h)) .inl
    obtain ⟨hheld, hnotices⟩ := State.heldBy_still (s := b) hstill .halt
    have hposted : f s = x.onOutbox fun _ => [.modeChanged .ready .halted .stopKey] ++ s.stopNotices .halted := by
      rw [hf, State.stopKeyPressed_ready hmode, State.tripBy_dark (s := b) hw hd hpreview, hheld, hnotices, ← hout]
      show State.onOutbox (fun _ => (b.outbox ++ []) ++ _) b = _
      rw [List.append_nil]
      rfl
    refine (he.trans (event_announces f s x _ hposted hq id)).trans (congrArg _ (State.announced_congr _ ?_))
    have horder := inOrderOfKind_trip (ended := []) (held := []) (waiting := []) (List.forall_mem_nil _)
      (List.forall_mem_nil _) (List.forall_mem_nil _) hchanged (s.stopNotices_rank .halted)
    simp only [List.append_nil] at horder
    exact horder
  · obtain ⟨f, he, hf⟩ := State.exec_stopKeyPress hp
    let b := s.stopSet.setMode .halted .stopKey
    have hout : b.outbox = [.modeChanged .ready .halted .stopKey] := State.setMode_outbox (s := s.stopSet) hmode hq _
    have hf := hf.trans (State.stopKeyPressed_ready hmode)
    obtain ⟨hstation, hsettings, hguards, -, hlinks, -⟩ := State.tripBy_only .halt b
    obtain ⟨u, hu, hsame, hnotified⟩ := event_outcome f s (by rw [hf]; exact hlinks)
    rw [hf] at hsame hnotified
    have hb : s.sameLight b := ⟨rfl, rfl, rfl, rfl⟩
    obtain ⟨ended, hposted, hcapture, hrank⟩ := State.tripBy_posts hb rfl rfl .halt hsame.of_onOutbox
    refine ⟨u, he.trans hu, State.tripBy_tripped hsafe hb rfl rfl rfl rfl .halt hsame.of_onOutbox,
      hsame.station.trans hstation, hsame.settings.trans hsettings, hsame.guards.trans hguards, hnotified.congr ?_⟩
    have horder := inOrderOfKind_trip hrank (s.heldNotices_rank .halt)
      (State.framesWaiting_rank s (b.tripBy .halt)) hchanged (s.stopNotices_rank .halted)
    rw [← hcapture] at horder
    refine Eq.trans (congrArg inOrderOfKind ?_) horder
    show (b.tripBy .halt).outbox ++ s.stopNotices .halted ++ _ = _
    rw [hposted, hout]
    rfl

end Sys2Proof.Machine
end

section
/-! PROOFS. The settings store: the words, their use and their verification. -/

namespace Sys2Proof.Machine

/-! ### The range and the substitute of each word (R165, R166, R167) -/

theorem settingSigned_iff (index : Nat) :
    settingSigned index = true ↔ (32 ≤ index ∧ index < 64 ∧ (index % 4 = 1 ∨ index % 4 = 2)) := by
  simp [settingSigned, and_assoc]

section words
variable {c b j : Nat}

/-- The words of the four handling classes repeat. -/
theorem settingBounds_class (hc : c < 4) (hj : j < 8) : settingBounds (8 * c + j) = settingBounds j := by
  have hmod : (8 * c + j) % 8 = j % 8 := by omega
  unfold settingBounds
  rw [if_pos (show 8 * c + j < 32 by omega), if_pos (show j < 32 by omega), hmod]

theorem settingSubstitute_class (hc : c < 4) (hj : j < 8) : settingSubstitute (8 * c + j) = settingSubstitute j := by
  have hmod : (8 * c + j) % 8 = j % 8 := by omega
  unfold settingSubstitute
  rw [if_pos (show 8 * c + j < 32 by omega), if_pos (show j < 32 by omega), hmod]

theorem settingQuantity_unsigned {i : Nat} (h : ¬ (32 ≤ i ∧ i < 64 ∧ (i % 4 = 1 ∨ i % 4 = 2))) (w : Word) :
    settingQuantity i w = w.toNat :=
  if_neg (mt (settingSigned_iff i).1 h)

/-- The words of the eight banks repeat. -/
theorem settingBounds_bank (hb : b < 8) (hj : j < 4) : settingBounds (32 + 4 * b + j) = settingBounds (32 + j) := by
  have hmod : (32 + 4 * b + j) % 4 = (32 + j) % 4 := by omega
  unfold settingBounds
  rw [if_neg (show ¬ 32 + 4 * b + j < 32 by omega), if_pos (show 32 + 4 * b + j < 64 by omega),
    if_neg (show ¬ 32 + j < 32 by omega), if_pos (show 32 + j < 64 by omega), hmod]

theorem settingSubstitute_bank (hb : b < 8) (hj : j < 4) :
    settingSubstitute (32 + 4 * b + j) = settingSubstitute (32 + j) := by
  have hmod : (32 + 4 * b + j) % 4 = (32 + j) % 4 := by omega
  unfold settingSubstitute
  rw [if_neg (show ¬ 32 + 4 * b + j < 32 by omega), if_pos (show 32 + 4 * b + j < 64 by omega),
    if_neg (show ¬ 32 + j < 32 by omega), if_pos (show 32 + j < 64 by omega), hmod]

end words

/-- A word that carries the quantity `x`: in range within its bounds, used as held there and as its substitute
elsewhere. -/
theorem State.setting_used {s : State} {i : Nat} {x low high substitute : Int} (hx : settingQuantity i (s.word i) = x)
    (hb : settingBounds i = (low, high)) (hs : settingSubstitute i = substitute) :
    settingInRange i (s.word i) = decide (low ≤ x ∧ x ≤ high) ∧
      s.setting i = if low ≤ x ∧ x ≤ high then x else substitute := by
  have hin : settingInRange i (s.word i) = decide (low ≤ x ∧ x ≤ high) := by
    rw [settingInRange, hx, hb, Bool.decide_and]
  refine ⟨hin, ?_⟩
  rw [State.setting, settingUsed, hin, hx, hs]
  exact if_congr decide_eq_true_iff rfl rfl

section used
variable {c b j : Nat} {low high substitute : Int} {s : State}

theorem State.class_word_used (hc : c < 4) (hj : j < 8) (hb : settingBounds j = (low, high))
    (hs : settingSubstitute j = substitute) :
    settingInRange (8 * c + j) (s.word (8 * c + j)) =
        decide (low ≤ ((s.word (8 * c + j)).toNat : Int) ∧ ((s.word (8 * c + j)).toNat : Int) ≤ high) ∧
      s.setting (8 * c + j) =
        if low ≤ ((s.word (8 * c + j)).toNat : Int) ∧ ((s.word (8 * c + j)).toNat : Int) ≤ high then
          ((s.word (8 * c + j)).toNat : Int) else substitute :=
  State.setting_used (settingQuantity_unsigned (by omega) _) ((settingBounds_class hc hj).trans hb)
    ((settingSubstitute_class hc hj).trans hs)

theorem State.bank_unsigned_used (hb : b < 8) (hj : j = 0 ∨ j = 3) (hbounds : settingBounds (32 + j) = (low, high))
    (hs : settingSubstitute (32 + j) = substitute) :
    settingInRange (32 + 4 * b + j) (s.word (32 + 4 * b + j)) =
        decide (low ≤ ((s.word (32 + 4 * b + j)).toNat : Int) ∧ ((s.word (32 + 4 * b + j)).toNat : Int) ≤ high) ∧
      s.setting (32 + 4 * b + j) =
        if low ≤ ((s.word (32 + 4 * b + j)).toNat : Int) ∧ ((s.word (32 + 4 * b + j)).toNat : Int) ≤ high then
          ((s.word (32 + 4 * b + j)).toNat : Int) else substitute :=
  State.setting_used (settingQuantity_unsigned (by omega) _) ((settingBounds_bank hb (by omega)).trans hbounds)
    ((settingSubstitute_bank hb (by omega)).trans hs)

theorem State.bank_signed_used (hb : b < 8) (hj : j = 1 ∨ j = 2) (hbounds : settingBounds (32 + j) = (low, high))
    (hs : settingSubstitute (32 + j) = substitute) :
    settingInRange (32 + 4 * b + j) (s.word (32 + 4 * b + j)) =
        decide (low ≤ (s.word (32 + 4 * b + j)).toInt ∧ (s.word (32 + 4 * b + j)).toInt ≤ high) ∧
      s.setting (32 + 4 * b + j) =
        if low ≤ (s.word (32 + 4 * b + j)).toInt ∧ (s.word (32 + 4 * b + j)).toInt ≤ high then
          (s.word (32 + 4 * b + j)).toInt else substitute :=
  State.setting_used (if_pos ((settingSigned_iff _).2 (by omega))) ((settingBounds_bank hb (by omega)).trans hbounds)
    ((settingSubstitute_bank hb (by omega)).trans hs)

end used

/-- The check word takes every value (R166). -/
theorem settingInRange_check (w : Word) : settingInRange 69 w = true := by
  have hw : (w.toNat : Int) ≤ 4294967295 := by have := w.isLt; omega
  simp only [settingInRange, settingBounds, settingQuantity_unsigned (i := 69) (by omega) w]
  simpa using hw

/-! ### The verification (R170, R171, R172) -/

/-- The sum found in the store, and the settings state it shows. -/
def State.verified (sum : Nat) (state : SettingsState) (s : State) : State :=
  s.onSettings fun x => { x with lastSum := sum, state := state }

section verify
variable {s : State}

theorem State.exec_verification (s : State) : exec .verificationTimerExpiry s = event State.verify s := rfl

theorem State.verify_same (h : settingsSum s.settings.words = Config.goodSum ↔ s.settings.state = .good) :
    s.verify = s.onSettings fun x => { x with lastSum := settingsSum s.settings.words } := by
  unfold State.verify stateOfSum
  cases hs : s.settings.state with
  | good => simp only [if_pos (h.2 hs)]
  | fault => simp only [if_neg fun hg => by cases hs.symm.trans (h.1 hg)]

theorem State.verify_recovers (h : settingsSum s.settings.words = Config.goodSum) (hs : s.settings.state = .fault) :
    s.verify =
      (s.verified Config.goodSum .good).post (.settingsChanged .fault .good .periodic Config.goodSum) := by
  unfold State.verify stateOfSum
  rw [hs, h]
  exact if_pos hs

theorem State.verify_faults (h : settingsSum s.settings.words ≠ Config.goodSum) (hs : s.settings.state = .good) :
    s.verify =
      ((s.verified (settingsSum s.settings.words) .fault).tripBy .settings).post
        (.settingsChanged .good .fault .periodic (settingsSum s.settings.words)) := by
  unfold State.verify stateOfSum
  rw [hs]
  simp only [if_neg h]
  rfl

end verify

theorem State.heldNotices_inParking {s : State} {cause : StopCause} (h : s.cradle.state = .parking) :
    s.heldNotices cause =
      if s.cradle.drive = .moving ∧ s.cradle.parked ≠ none then [.turnHeld cause .parking 0 s.gauge.values] else [] := by
  rw [State.heldNotices, h]

/-- Nothing is lit outside READY (R92). -/
theorem State.LightSafe.dark_of_mode {s : State} (h : s.LightSafe) (hm : s.station.mode ≠ .ready) : s.lights.dark := by
  by_contra hd
  have := h.conditions (mt litBank_none.1 hd)
  rw [State.lightRefusal, if_pos hm] at this
  cases this

/-- Settles O57: the writes and the reads, the verification, and the words as they are used. -/
theorem settingsAreVerified : Obligations.SettingsAreVerified := by
  unfold Obligations.SettingsAreVerified
  intro o index value s written sum found signed state
  refine ⟨fun h => ?_, fun h => ?_, fun hq => ?_, fun hq hf => ?_, fun hq hf hs => ?_, fun hq hf hs hsafe => ?_,
    fun hq hf hs hmode hsafe hw hk => ?_, ?_⟩
  · exact check_answers h rfl rfl fun _ ht => answersWith_quiet h rfl ht h.1 rfl
  · have hsigned : flag (settingSigned index) = be 1 (if signed then 1 else 0) :=
      congrArg (be 1) (if_congr (settingSigned_iff index) rfl rfl)
    have hstate : settingsStateCode s.settings.state = state := by
      unfold state
      cases s.settings.state <;> rfl
    rw [← hsigned, ← hstate]
    exact onlyAnswers_of_take h rfl rfl
  · change execStoreUpset index value s = _
    exact event_eq _ s _ rfl hq rfl
  · exact s.exec_verification.trans (event_eq _ s _ (State.verify_same hf) hq rfl)
  · have hverify := State.verify_recovers hf hs
    rw [show found = Config.goodSum from hf]
    exact s.exec_verification.trans (event_posts _ s _ _ hverify hq id)
  · have hverify : s.verify = _ := State.verify_faults hf hs
    let b := s.verified found .fault
    let n : Notice := .settingsChanged .good .fault .periodic found
    obtain ⟨hstation, hsettings, hguards, -, hlinks, -⟩ := State.tripBy_only .settings b
    obtain ⟨u, hu, hsame, hnotified⟩ := event_outcome State.verify s (by rw [hverify]; exact hlinks)
    rw [hverify] at hsame hnotified
    have hb : s.sameLight b := ⟨rfl, rfl, rfl, rfl⟩
    have htrip : (b.tripBy .settings).sameBlocks u := hsame.of_onOutbox
    obtain ⟨ended, hposted, hcapture, hrank⟩ := State.tripBy_posts hb rfl rfl .settings htrip
    refine ⟨u, s.exec_verification.trans hu, State.tripBy_tripped hsafe hb rfl rfl rfl rfl .settings htrip,
      htrip.settings.trans hsettings, htrip.station.trans hstation, htrip.guards.trans hguards, hnotified.congr ?_⟩
    have horder := inOrderOfKind_settings hrank (s.heldNotices_rank .settings)
      (State.framesWaiting_rank s (b.tripBy .settings)) (settings := [n]) (by simp [n, Notice.rank])
    rw [← hcapture] at horder
    refine Eq.trans (congrArg inOrderOfKind ?_) horder
    show (b.tripBy .settings).outbox ++ [n] ++ _ = _
    rw [hposted, show b.outbox = [] from hq, List.nil_append]
    rfl
  · intro moving
    let b := s.verified found .fault
    let n : Notice := .settingsChanged .good .fault .periodic found
    have hd := hsafe.dark_of_mode (by rw [hmode]; nofun)
    have hverify : s.verify = (b.tripBy .settings).post n := State.verify_faults hf hs
    rw [State.tripBy_dark (s := b) hw hd (hsafe.dark_preview hd)] at hverify
    have hposted : s.verify = (b.heldBy .settings).onOutbox fun _ => s.heldNotices .settings ++ [n] := by
      rw [hverify]
      show State.onOutbox (fun _ => (s.outbox ++ s.heldNotices .settings) ++ [n]) _ = _
      rw [show s.outbox = [] from hq, List.nil_append]
      rfl
    have hexec : exec .verificationTimerExpiry s =
        .next ((b.heldBy .settings).announced ([n] ++ s.heldNotices .settings)) := by
      refine (s.exec_verification.trans (event_announces _ s _ _ hposted hq id)).trans
        (congrArg _ (State.announced_congr _ (inOrderOfKind_congr (filter_rank_swap fun a ha c hc => ?_))))
      rw [s.heldNotices_rank .settings a ha, List.mem_singleton.1 hc]
      nofun
    have hnotices : s.heldNotices .settings =
        if moving ∧ s.cradle.parked ≠ none then [.turnHeld .settings .parking 0 s.gauge.values] else [] := by
      rcases hk with hk | hk
      · rw [if_neg fun ⟨⟨hparking, _⟩, _⟩ => CradleState.noConfusion (hk.symm.trans hparking)]
        exact (State.heldBy_still (.inl hk) .settings).2
      · refine (State.heldNotices_inParking hk).trans ?_
        exact if_congr ⟨fun ⟨hdrive, hp⟩ => ⟨⟨hk, hdrive⟩, hp⟩, fun ⟨⟨_, hdrive⟩, hp⟩ => ⟨hdrive, hp⟩⟩ rfl rfl
    rw [hexec, hnotices]
    by_cases hm : moving
    · rw [State.heldBy_parking (s := b) hm.1 hm.2]
      simp only [if_pos hm]
      rfl
    · have hstill : b.cradle.still :=
        hk.elim .inl fun hk => .inr (.inr (.inr (.inr (.inr ⟨hk, fun hdrive => hm ⟨hk, hdrive⟩⟩))))
      rw [(State.heldBy_still (s := b) hstill .settings).1]
      simp only [if_neg hm]
      rfl
  · intro quantity unsigned twos
    refine ⟨fun c hc => ?_, fun b hb => ?_, ?_, ?_, ?_, ?_, ?_, settingInRange_check _, rfl, rfl, rfl, rfl, rfl⟩
    · exact ⟨State.class_word_used (j := 0) hc (by omega) rfl rfl, State.class_word_used hc (by omega) rfl rfl,
        State.class_word_used hc (by omega) rfl rfl, State.class_word_used hc (by omega) rfl rfl,
        State.class_word_used hc (by omega) rfl rfl, State.class_word_used hc (by omega) rfl rfl,
        State.class_word_used hc (by omega) rfl rfl, State.class_word_used hc (by omega) rfl rfl,
        rfl, rfl, rfl, rfl, rfl, rfl, rfl, rfl⟩
    · exact ⟨State.bank_unsigned_used (j := 0) hb (.inl rfl) rfl rfl, State.bank_signed_used hb (.inl rfl) rfl rfl,
        State.bank_signed_used hb (.inr rfl) rfl rfl, State.bank_unsigned_used hb (.inr rfl) rfl rfl,
        fun _ _ => rfl⟩
    all_goals exact State.setting_used (settingQuantity_unsigned (by omega) _) rfl rfl

end Sys2Proof.Machine
end

section
/-! PROOFS. The modes: ENTER READY, ENTER MAINTENANCE, HALT, CLEAR HALT. -/

namespace Sys2Proof.Machine

/-! ### ENTER READY (R173, R176) -/

theorem firstOutOfRange_some {s : State} {i : Nat} (hi : i < 70) (hout : settingInRange i (s.word i) = false)
    (hbefore : ∀ j, j < i → settingInRange j (s.word j) = true) : firstOutOfRange s.settings.words = some i := by
  refine List.find?_range_eq_some.2 ⟨?_, List.mem_range.2 hi, fun j hj => ?_⟩
  · rw [← State.word, hout]; rfl
  · rw [← State.word, hbefore j hj]; rfl

theorem firstOutOfRange_none {s : State} (h : ∀ i, i < 70 → settingInRange i (s.word i) = true) :
    firstOutOfRange s.settings.words = none := by
  refine List.find?_range_eq_none.2 fun i hi => ?_
  rw [← State.word, h i hi]; rfl

theorem Guards.clearStopLatch_eq (g : Guards) :
    g.clearStopLatch = { g with stopLatch := g.stopLatch && g.stopPressed } := by
  unfold Guards.clearStopLatch
  split
  · next hp => rw [hp, Bool.and_true]; rw [← hp]
  · next hp => rw [Bool.eq_false_iff.2 hp, Bool.and_false]

/-- The station READY, the settings GOOD by the sum found, the stop key's latch cleared while the key is RELEASED. -/
def State.readied (sum : Nat) (s : State) : State :=
  ((s.onSettings fun x => { x with state := .good, lastSum := sum }).onGuards fun x =>
    { x with stopLatch := x.stopLatch && x.stopPressed }).onStation fun x => { x with mode := .ready }

/-- SETTINGS CHANGED of a verification that ends a FAULT (R172). -/
def State.goodNotices (sum : Nat) (s : State) : List Notice :=
  if s.settings.state = .fault then [.settingsChanged .fault .good .enterReady sum] else []

section enterReady
variable {s : State}

theorem takeEnterReady_sum (hm : s.station.mode = .maintenance) (h : settingsSum s.settings.words ≠ Config.goodSum) :
    takeEnterReady s = refuse .settingsFault (be 1 0 ++ be 4 (settingsSum s.settings.words)) s :=
  (if_neg (not_not.2 hm)).trans (if_pos h)

theorem takeEnterReady_range {i : Nat} (hm : s.station.mode = .maintenance)
    (h : settingsSum s.settings.words = Config.goodSum) (hi : firstOutOfRange s.settings.words = some i) :
    takeEnterReady s = refuse .settingsFault (be 1 1 ++ be 4 i) s := by
  rw [takeEnterReady, if_neg (not_not.2 hm), if_neg (not_not.2 h), hi]

theorem takeEnterReady_ready (hm : s.station.mode = .maintenance) (hq : s.outbox = [])
    (h : settingsSum s.settings.words = Config.goodSum) (hr : firstOutOfRange s.settings.words = none) :
    takeEnterReady s =
      okay
        (be 1 1 ++ be 1 0 ++ be 4 Config.goodSum ++
          guardLevels { s.guards with stopLatch := s.guards.stopLatch && s.guards.stopPressed })
        ((s.readied Config.goodSum).onOutbox fun _ =>
          s.goodNotices Config.goodSum ++ [.modeChanged .maintenance .ready .enterReady]) := by
  have hgood : (s.settingsGood .enterReady Config.goodSum) =
      (s.onSettings fun x => { x with state := .good, lastSum := Config.goodSum }).onOutbox fun _ =>
        s.goodNotices Config.goodSum := by
    unfold State.settingsGood State.goodNotices
    split
    · show State.onOutbox (fun _ => s.outbox ++ _) _ = _
      rw [hq]
      rfl
    · rw [← hq]
      rfl
  rw [takeEnterReady, if_neg (not_not.2 hm), if_neg (not_not.2 h), hr, h]
  simp only [hgood, funext Guards.clearStopLatch_eq]
  rw [← hm]
  rfl

end enterReady

/-- Settles O58: the checks of each request, the mode it sets, and the trip of a HALT. -/
theorem modesChangeByRequest : Obligations.ModesChangeByRequest := by
  unfold Obligations.ModesChangeByRequest
  intro o s sum bit g latch guards
  refine ⟨fun h => ⟨fun hm => ?_, fun hm hs => ?_, fun i hm hs hi hout hbefore => ?_, fun hm hs hr => ?_⟩, fun h => ?_,
    fun h => ⟨fun hm => ?_, fun hm => ?_, fun hm hsafe => ?_⟩, fun h => ?_⟩
  · exact onlyAnswers_of_take h rfl (if_pos hm)
  · exact onlyAnswers_of_take h rfl (takeEnterReady_sum (s := s.heard o) hm hs)
  · exact onlyAnswers_of_take h rfl (takeEnterReady_range (s := s.heard o) hm hs (firstOutOfRange_some hi hout hbefore))
  · have ht := takeEnterReady_ready (s := s.heard o) hm h.1 hs (firstOutOfRange_none hr)
    rw [show sum = Config.goodSum from hs]
    refine answersWith_announces h rfl (ht.trans ?_) h.1 rfl
    rfl
  · exact check_answers h rfl rfl fun _ ht => check_answers h rfl ht fun _ ht => answersWith_posts h rfl ht h.1 rfl
  · refine onlyAnswers_of_take h rfl ?_
    rw [takeHalt, State.heard_station, hm]
    rfl
  · refine onlyAnswers_of_take h rfl ?_
    rw [takeHalt, State.heard_station, hm]
    rfl
  · let b := (s.heard o).setMode .halted .halt
    have ht : takeHalt (s.heard o) = okay (be 1 2) (b.tripBy .halt) := by
      rw [takeHalt, State.heard_station, hm]
      rfl
    have hout : b.outbox = [.modeChanged .ready .halted .halt] := State.setMode_outbox (s := s.heard o) hm h.1 _
    obtain ⟨hstation, hsettings, hguards, -, hlinks, -⟩ := State.tripBy_only .halt b
    obtain ⟨u, hu, hreq, hsame, hnotified⟩ := request_outcome h ht rfl hlinks
    have hb : s.sameLight b := ⟨rfl, rfl, rfl, rfl⟩
    obtain ⟨ended, hposted, hcapture, hrank⟩ := State.tripBy_posts hb rfl rfl .halt hsame
    refine ⟨u, hu, hreq, State.tripBy_tripped hsafe hb rfl rfl rfl rfl .halt hsame, hsame.station.trans hstation,
      hsame.guards.trans hguards, hsame.settings.trans hsettings, hnotified.congr ?_⟩
    have horder := inOrderOfKind_trip hrank (s.heldNotices_rank .halt)
      (State.framesWaiting_rank s (b.tripBy .halt)) (changed := [.modeChanged .ready .halted .halt]) (tripped := [])
      (by simp [Notice.rank]) (List.forall_mem_nil _)
    rw [← hcapture, List.nil_append, List.append_nil] at horder
    refine Eq.trans (congrArg inOrderOfKind ?_) horder
    rw [hposted, hout]
  · refine check_answers h rfl rfl fun hm ht => check_answers h rfl ht fun _ ht => check_answers h rfl ht fun _ ht => ?_
    refine answersWith_posts h rfl (ht.trans ?_) h.1 rfl
    rw [← not_ne_iff.1 hm]
    rfl

end Sys2Proof.Machine
end

section
/-! PROOFS. The guards: ACK GUARD. -/

namespace Sys2Proof.Machine

/-! ### ACK GUARD (R86) -/

/-- The levels in the reply of an ACK GUARD that cleared the latch: the curtain's are 0, the stop key's as they stand. -/
theorem guardLevels_acked {g : Guards} (h : g.curtainBroken = false) :
    guardLevels { g with curtainLatch := false } =
      flag false ++ flag false ++ flag g.stopPressed ++ flag g.stopLatch :=
  congrArg (fun curtain => flag curtain ++ flag false ++ flag g.stopPressed ++ flag g.stopLatch) h

/-- Settles O46: the refusal by the curtain's live level, then the curtain's latch cleared alone. -/
theorem ackGuardClearsTheLatch : Obligations.AckGuardClearsTheLatch := by
  unfold Obligations.AckGuardClearsTheLatch
  intro o s c g bit h
  refine check_answers h rfl rfl fun hb ht => answersWith_quiet h rfl (ht.trans ?_) h.1 rfl
  have hclear : s.guards.curtainBroken = false := eq_false_of_ne_true hb
  exact congrArg (fun levels => okay levels ((s.heard o).onGuards fun g => { g with curtainLatch := false }))
    (guardLevels_acked hclear)

end Sys2Proof.Machine
end

section
/-! PROOFS. PREVIEW ON and PREVIEW OFF. -/

namespace Sys2Proof.Machine

/-! ### PREVIEW ON (R97, R98) -/

theorem sideCode_eq (side : Side) : sideCode side = if side = .left then 0 else 1 := by
  cases side <;> rfl

section on
variable {o : Origin} {level slot : Nat} {s : State}

/-- With a volume in the slot the first face at its budget is sought by that volume's budget. -/
theorem State.faceAtBudget_mounted (hm : s.mountedSlot = some slot) :
    s.faceAtBudget = s.visible.find? fun v => decide ((s.entry slot).budget ≤ s.custody.doseOf (s.entry slot) v) := by
  rw [State.faceAtBudget, hm]

/-- The refusal body of a face at its budget. -/
theorem doseBudgetBytes_eq (slot : Nat) (v : VisibleFace) (s : State) :
    doseBudgetBytes slot v s =
      be 1 slot ++ be 2 v.leaf ++ be 1 (if v.side = .left then 0 else 1) ++
        be 4 (s.custody.doseOf (s.entry slot) v) ++ be 4 (s.entry slot).budget := by
  rw [doseBudgetBytes, sideCode_eq]

end on

/-! ### PREVIEW OFF (R99) -/

/-- The cause of the preview that ended last, after a request that ends a lit one. -/
theorem State.requestEnded_lastEnd (s : State) :
    opt1 ((s.endPreview .request).lights.lastEnd.map previewEndCode) =
      if s.lights.preview = none then opt1 (s.lights.lastEnd.map previewEndCode) else be 1 0 := by
  rw [(State.endPreview_preview .request s).2]
  split <;> rfl

theorem State.endPreview_accumulator (cause : PreviewEnd) (s : State) :
    (s.endPreview cause).meter.preview = s.meter.preview := by
  unfold State.endPreview
  split <;> simp

/-- The end report of a preview, its sides written out (R99, R115). -/
theorem previewReport_some (a : PreviewAccumulator) :
    previewReport (some a) =
      be 4 a.charged ++ be 4 a.dose ++ be 1 a.faces.length ++
        a.faces.flatMap fun v => be 1 a.volume.slot ++ be 2 v.leaf ++ be 1 (if v.side = .left then 0 else 1) := by
  simp only [previewReport, sideCode_eq]

/-- The reply of PREVIEW OFF. -/
theorem takePreviewOff_eq {s : State} (h : s.LightSafe) :
    takePreviewOff s =
      okay (be 1 (if s.lights.preview = none then 0 else 1) ++
        (if s.lights.preview = none then opt1 (s.lights.lastEnd.map previewEndCode) else be 1 0) ++
        previewReport s.meter.preview) (s.previewEnded .request) := by
  have hflag : flag s.lights.preview.isSome = be 1 (if s.lights.preview = none then 0 else 1) := by
    cases s.lights.preview <;> rfl
  rw [takePreviewOff, hflag, State.requestEnded_lastEnd, State.endPreview_accumulator,
    State.endPreview_eq .request h.preview_bank]

/-- Settles O47: the checks of PREVIEW ON in turn, then the light or its level; PREVIEW OFF and its report. -/
theorem previewIsLitUnderItsConditions : Obligations.PreviewIsLitUnderItsConditions := by
  unfold Obligations.PreviewIsLitUnderItsConditions
  intro o level s c lit
  refine ⟨fun h => ?_, fun h hsafe => ?_⟩
  · refine check_answers h rfl rfl fun _ ht => ?_
    cases hm : s.mountedSlot with
    | none =>
      rw [State.heard_mountedSlot, hm] at ht
      exact onlyAnswers_of_take h rfl ht
    | some slot =>
      rw [State.heard_mountedSlot, hm] at ht
      dsimp only
      rw [if_congr (Guards.clear_eq_false s.guards).symm rfl rfl]
      refine check_answers h rfl ht fun _ ht => check_answers h rfl ht fun _ ht => check_answers h rfl ht fun _ ht =>
        check_answers h rfl ht fun _ ht => ?_
      rw [← State.faceAtBudget_mounted hm]
      rw [State.heard_faceAtBudget] at ht
      cases hf : s.faceAtBudget with
      | some v =>
        rw [hf] at ht
        dsimp only
        rw [← doseBudgetBytes_eq]
        exact onlyAnswers_of_take h rfl ht
      | none =>
        rw [hf] at ht
        refine check_answers h rfl ht fun _ ht => ?_
        split
        · next hp => exact answersWith_quiet h rfl (ht.trans (congrArg (okay (be 2 level)) (if_pos hp))) h.1 rfl
        · next hp => exact answersWith_quiet h rfl (ht.trans (congrArg (okay (be 2 level)) (if_neg hp))) h.1 rfl
  · obtain ⟨hq, hf⟩ := State.previewEnded_keeps .request (s.heard o)
    have ht := takePreviewOff_eq (hsafe.heard o)
    rw [State.heard_meter] at ht
    cases hreport : s.meter.preview with
    | none =>
      rw [hreport] at ht
      exact answersWith_quiet h rfl ht (hq.trans h.1) hf
    | some a =>
      rw [hreport, previewReport_some] at ht
      exact answersWith_quiet h rfl ht (hq.trans h.1) hf

end Sys2Proof.Machine
end

section
/-! PROOFS. The light of a state, its records and its banks: what has to hold, and what keeps it. -/

namespace Sys2Proof.Machine

/-! ### The banks that descriptors and plan entries name (R90, R126, R140) -/

/-- Every descriptor and every plan entry names one of the eight banks. -/
def State.banksNamed (s : State) : Prop :=
  (∀ i, (s.frame i).bank < 8) ∧ ∀ i e, s.walker.planAt i = some e → e.bank < 8

/-- Every descriptor and every plan entry names the bank it named. -/
def State.sameBanks (s t : State) : Prop :=
  (∀ i, (t.frame i).bank = (s.frame i).bank) ∧ t.walker.plan = s.walker.plan

section banks
variable {s t u : State}

theorem State.sameBanks.trans (h : s.sameBanks t) (g : t.sameBanks u) : s.sameBanks u :=
  ⟨fun i => (g.1 i).trans (h.1 i), g.2.trans h.2⟩

theorem State.sameBanks.of_pool (hp : t.frames.pool = s.frames.pool) (hw : t.walker.plan = s.walker.plan) :
    s.sameBanks t := ⟨fun i => by rw [State.frame, hp]; rfl, hw⟩

theorem State.sameBanks.refl (s : State) : s.sameBanks s := .of_pool rfl rfl

theorem State.banksNamed.stand (h : s.banksNamed) (g : s.sameBanks t) : t.banksNamed := by
  refine ⟨fun i => by rw [g.1]; exact h.1 i, fun i e he => h.2 i e ?_⟩
  rwa [Walker.planAt, ← g.2]

theorem State.frame_onFrame (index : Nat) (f : Descriptor → Descriptor) (s : State) (i : Nat) :
    (s.onFrame index f).frame i = if index = i ∧ i < 256 then f (s.frame i) else s.frame i := by
  by_cases hi : i < 256
  · simp only [hi, and_true]
    exact Vec.at_edit _ _ _ _ _ hi
  · simp [State.frame, Vec.at, hi]

/-- What a rewrite keeps of every descriptor, it keeps of the descriptors of a list. -/
theorem State.onEach_keeps {Q : Descriptor → Prop} {f : Descriptor → Descriptor} (hf : ∀ d, Q d → Q (f d))
    (indices : List Nat) (s : State) (i : Nat) (h : Q (s.frame i)) : Q ((s.onEach indices f).frame i) := by
  unfold State.onEach
  induction indices generalizing s with
  | nil => exact h
  | cons j rest ih =>
    refine ih _ ?_
    rw [State.frame_onFrame]
    split
    · exact hf _ h
    · exact h

/-- What a rewrite makes of every descriptor, it makes of those of a list that the pool holds. -/
theorem State.onEach_makes {Q : Descriptor → Prop} {f : Descriptor → Descriptor} (hf : ∀ d, Q (f d))
    (indices : List Nat) (s : State) {i : Nat} (hi : i ∈ indices) (hlt : i < 256) :
    Q ((s.onEach indices f).frame i) := by
  induction indices generalizing s with
  | nil => cases hi
  | cons j rest ih =>
    rcases List.mem_cons.1 hi with rfl | hrest
    · refine State.onEach_keeps (fun d _ => hf d) rest (s.onFrame i f) i ?_
      rw [State.frame_onFrame, if_pos ⟨rfl, hlt⟩]
      exact hf _
    · exact ih _ hrest

theorem State.onEach_sameBanks {f : Descriptor → Descriptor} (hf : ∀ d, (f d).bank = d.bank) (indices : List Nat)
    (s : State) : s.sameBanks (s.onEach indices f) :=
  ⟨fun i => State.onEach_keeps (Q := fun d => d.bank = (s.frame i).bank) (fun d h => (hf d).trans h) indices s i rfl,
    by simp⟩

theorem State.onFrame_sameBanks {f : Descriptor → Descriptor} (hf : ∀ d, (f d).bank = d.bank) (index : Nat)
    (s : State) : s.sameBanks (s.onFrame index f) :=
  State.onEach_sameBanks hf [index] s

theorem State.onEachCamera_plan (cameras : List Camera) (f : CameraPort → CameraPort) (s : State) :
    (s.onEachCamera cameras f).walker.plan = s.walker.plan := by
  unfold State.onEachCamera
  induction cameras generalizing s with
  | nil => rfl
  | cons c rest ih => exact (ih _).trans (by cases c <;> rfl)

theorem State.fillSlot_sameBanks (s : State) : s.sameBanks s.fillSlot := by
  refine .of_pool ?_ (by simp)
  unfold State.fillSlot
  repeat' split
  all_goals rfl

theorem State.completeSlot_sameBanks (status : FrameStatus) (s : State) : s.sameBanks (s.completeSlot status) :=
  (State.onEach_sameBanks (f := fun d => { d with status := status }) (fun _ => rfl) _ s).trans (.of_pool rfl rfl)

theorem State.completeOne_sameBanks (index : Nat) (status : FrameStatus) (s : State) :
    s.sameBanks (s.completeOne index status) :=
  (State.onFrame_sameBanks (f := fun d => { d with status := status }) (fun _ => rfl) index s).trans
    (.of_pool rfl rfl)

theorem State.handMeasured_sameBanks (s : State) : s.sameBanks s.handMeasured :=
  State.onEach_sameBanks (f := fun d => { d with measured := s.meter.exposure.bind (·.measured) }) (fun _ => rfl) _ s

theorem State.putOut_sameBanks (s : State) : s.sameBanks s.putOut := .of_pool (by simp) (by simp)

theorem State.divert_sameBanks (s : State) : s.sameBanks s.divert :=
  (State.onEach_sameBanks (f := fun d => { d with status := .withdrawn }) (fun _ => rfl) s.frames.planned s).trans
    (.of_pool rfl rfl)

theorem State.tearSlot_sameBanks (s : State) : s.sameBanks s.tearSlot := by
  have torn (x : State) : x.sameBanks (x.lowerTriggers.stopCameraTimers.completeSlot .torn) :=
    (State.sameBanks.of_pool rfl rfl).trans (State.completeSlot_sameBanks .torn _)
  unfold State.tearSlot
  split
  · exact .refl s
  · refine State.sameBanks.trans ?_ (.of_pool rfl rfl)
    dsimp only
    split
    · exact (s.handMeasured_sameBanks.trans (State.putOut_sameBanks _)).trans (torn _)
    · exact torn s

theorem State.endSweep_sameBanks (reason : SweepEnd) (s : State) : s.sameBanks (s.endSweep reason) := by
  unfold State.endSweep
  refine State.sameBanks.trans ?_ (.of_pool rfl rfl)
  split
  · exact s.tearSlot_sameBanks.trans (State.divert_sameBanks _)
  · exact s.divert_sameBanks

theorem State.sweepTrip_sameBanks (reason : SweepEnd) (s : State) : s.sameBanks (s.sweepTrip reason) := by
  unfold State.sweepTrip
  split
  · exact .refl s
  · exact s.endSweep_sameBanks reason

/-- A take from FREE writes the bank of its plan entry (R130). -/
theorem State.banksNamed.takeFromFree (h : s.banksNamed) {e : PlanEntry} (he : e.bank < 8) (volume : VolumeName)
    (opening : Nat) (camera : Camera) (face : Face) (entry : Nat) :
    (s.takeFromFree volume opening camera face entry e).banksNamed := by
  have hplan : (s.takeFromFree volume opening camera face entry e).walker.plan = s.walker.plan := by
    unfold State.takeFromFree
    split
    · rfl
    · simp [State.onCounts, State.onSweep]
  refine ⟨fun i => ?_, fun i p hp => h.2 i p (by rwa [Walker.planAt, ← hplan])⟩
  unfold State.takeFromFree
  split
  · exact h.1 i
  · next index rest _ =>
    simp only [State.frame, State.onCounts_only, State.bookFrame_only, State.onFrames_frames]
    exact State.onEach_keeps (Q := fun d => d.bank < 8) (f := fun d => _) (fun _ _ => he) [index] s i (h.1 i)

theorem State.banksNamed.takeAll (h : s.banksNamed) (v : VolumeName) (n l : Nat) {jobs : List BuildJob}
    (hjobs : ∀ job ∈ jobs, job.2.1.bank < 8) : (s.takeAll v n l jobs).banksNamed := by
  unfold State.takeAll
  induction jobs generalizing s with
  | nil => exact h
  | cons job rest ih =>
    obtain ⟨hjob, hrest⟩ := List.forall_mem_cons.1 hjobs
    exact ih (h.takeFromFree hjob ..) hrest

/-- A build is a list of takes, each of the plan entry built. -/
theorem State.buildEntry_takes (index : Nat) (s : State) : ∃ (v : VolumeName) (n l : Nat) (jobs : List BuildJob),
    s.buildEntry index = s.takeAll v n l jobs ∧ ∀ job ∈ jobs, s.walker.planAt index = some job.2.1 := by
  unfold State.buildEntry
  split
  · next v e _ he =>
    refine ⟨v, s.cradle.opening, (s.entry v.slot).leafCount,
      (cameraSetList e.cameras).map fun camera => (index, e, camera), ?_, fun job hj => ?_⟩
    · rw [State.takeAll, List.foldl_map]
    · obtain ⟨camera, -, rfl⟩ := List.mem_map.1 hj
      exact he
  · exact ⟨⟨0, 0⟩, 0, 0, [], rfl, nofun⟩

theorem State.banksNamed.buildEntry (h : s.banksNamed) (index : Nat) : (s.buildEntry index).banksNamed := by
  obtain ⟨v, n, l, jobs, heq, hjobs⟩ := s.buildEntry_takes index
  rw [heq]
  exact h.takeAll v n l fun job hj => h.2 index _ (hjobs job hj)

/-- Of the walker a build moves the count of descriptors built alone. -/
theorem State.buildEntry_walker (index : Nat) (s : State) : ∃ counts,
    (s.buildEntry index).walker = { s.walker with sweep := { s.walker.sweep with counts := counts } } := by
  obtain ⟨v, n, l, jobs, heq, -⟩ := s.buildEntry_takes index
  rw [heq]
  exact s.takeAll_walker jobs

end banks

/-! ### The conditions of a light request (R92) -/

theorem State.lightRefusal_none_iff (s : State) : s.lightRefusal = none ↔
    s.station.mode = .ready ∧ s.mountedSlot ≠ none ∧ s.settings.state = .good ∧ s.cradle.state = .openReady ∧
      s.guards.clear = true ∧ s.faceAtBudget = none := by
  unfold State.lightRefusal
  repeat' split
  all_goals simp_all

/-- A light request that was granted is granted still where what its conditions read stands; the guards may clear. -/
theorem State.lightRefusal_keeps {s t : State} (hmode : t.station.mode = s.station.mode)
    (hsettings : t.settings.state = s.settings.state) (hcustody : t.custody = s.custody)
    (hstate : t.cradle.state = s.cradle.state) (hopening : t.cradle.opening = s.cradle.opening)
    (hclear : s.guards.clear = true → t.guards.clear = true) (hs : s.lightRefusal = none) : t.lightRefusal = none := by
  have hentry (i : Nat) : t.entry i = s.entry i := by rw [State.entry, hcustody]; rfl
  have hm : t.mountedSlot = s.mountedSlot := State.mountedSlot_congr fun i _ => by rw [hentry]
  have hv : t.visible = s.visible := by simp only [State.visible, hm, hentry, hopening]
  have hface : t.faceAtBudget = s.faceAtBudget := by
    simp only [State.faceAtBudget, hcustody, hm, hv, hentry]
  rw [State.lightRefusal_none_iff] at hs ⊢
  obtain ⟨hready, hmounted, hgood, hopen, hguards, hnone⟩ := hs
  exact ⟨hmode.trans hready, hm.trans_ne hmounted, hsettings.trans hgood, hstate.trans hopen, hclear hguards,
    hface.trans hnone⟩

/-- No face in view has come nearer its budget: the MOUNTED entries are those before with budget and extent as they were,
and no dose has risen. -/
structure State.spares (s t : State) : Prop where
  mounted : ∀ i, i < 8 → ((t.entry i).state = .mounted ↔ (s.entry i).state = .mounted)
  volume : ∀ i, i < 8 → (s.entry i).state = .mounted → (t.entry i).budget = (s.entry i).budget ∧
    (t.entry i).extentBase = (s.entry i).extentBase ∧ (t.entry i).leafCount = (s.entry i).leafCount
  doses : ∀ k side, (((LeafStore.get t.custody.leaves k).getD .fresh).sideOf side).dose ≤
    (((LeafStore.get s.custody.leaves k).getD .fresh).sideOf side).dose

section spares
variable {s t : State}

theorem State.spares.mountedSlot (h : s.spares t) : t.mountedSlot = s.mountedSlot := State.mountedSlot_congr h.mounted

/-- A light request that was granted is granted still, the other blocks it reads as they were. -/
theorem State.spares.lightRefusal (h : s.spares t) (hstation : t.station = s.station)
    (hsettings : t.settings = s.settings) (hcradle : t.cradle = s.cradle) (hguards : t.guards = s.guards)
    (hs : s.lightRefusal = none) : t.lightRefusal = none := by
  rw [State.lightRefusal_none_iff] at hs ⊢
  obtain ⟨hmode, hm, hgood, hopen, hclear, hface⟩ := hs
  rw [hstation, hsettings, hcradle, hguards, h.mountedSlot]
  refine ⟨hmode, hm, hgood, hopen, hclear, ?_⟩
  obtain ⟨slot, hslot⟩ := Option.ne_none_iff_exists'.1 hm
  obtain ⟨hlt, hmounted, -⟩ := State.mountedSlot_some.1 hslot
  obtain ⟨hb, he, hl⟩ := h.volume slot hlt hmounted
  have hv : t.visible = s.visible := by simp only [State.visible, h.mountedSlot, hslot, hl, hcradle]
  simp only [State.faceAtBudget, hslot, List.find?_eq_none, decide_eq_true_eq, not_le] at hface
  simp only [State.faceAtBudget, h.mountedSlot, hslot, hv, List.find?_eq_none, decide_eq_true_eq, not_le]
  intro v hmem
  refine lt_of_le_of_lt ?_ (hb ▸ hface v hmem)
  simp only [Custody.doseOf, Custody.leafOf, he]
  exact h.doses _ _

/-- A rewrite of an entry that keeps its life state, budget and extent. -/
theorem State.spares.onEntry {slot : Nat} {f : CustodyEntry → CustodyEntry}
    (hm : (f (s.entry slot)).state = .mounted ↔ (s.entry slot).state = .mounted)
    (hv : (s.entry slot).state = .mounted → (f (s.entry slot)).budget = (s.entry slot).budget ∧
      (f (s.entry slot)).extentBase = (s.entry slot).extentBase ∧
      (f (s.entry slot)).leafCount = (s.entry slot).leafCount) : s.spares (s.onEntry slot f) := by
  have at_ (i : Nat) (hi : i < 8) : (s.onEntry slot f).entry i = if slot = i then f (s.entry i) else s.entry i :=
    State.entry_onEntry _ _ _ _ hi
  refine ⟨fun i hi => ?_, fun i hi hmi => ?_, fun _ _ => le_rfl⟩
  · rw [at_ i hi]
    split
    · next h => subst h; exact hm
    · rfl
  · rw [at_ i hi]
    split
    · next h => subst h; exact hv hmi
    · exact ⟨rfl, rfl, rfl⟩

/-- A rewrite of a leaf record that raises no dose. -/
theorem State.spares.onLeaf (slot leaf : Nat) {f : LeafRecord → LeafRecord}
    (hf : ∀ r side, ((f r).sideOf side).dose ≤ (r.sideOf side).dose) : s.spares (s.onLeaf slot leaf f) := by
  refine ⟨fun _ _ => .rfl, fun _ _ _ => ⟨rfl, rfl, rfl⟩, fun k side => ?_⟩
  rw [State.onLeaf, State.onLeaves, State.onCustody_custody, LeafStore.get_edit]
  split
  · cases LeafStore.get s.custody.leaves k with
    | none => exact le_rfl
    | some r => exact hf r side
  · exact le_rfl

end spares

/-! ### The light, and the station dark -/

/-- What `State.LightSafe` says but for the entries MOUNTED and the requests that wait to be taken. -/
structure State.LightSound (s : State) : Prop where
  one : s.lights.oneLit
  preview : s.lights.previewAgrees
  conditions : litBank s.lights.banks ≠ none → s.lightRefusal = none
  metered : s.meter.running = (litBank s.lights.banks).map fun b => { bank := b.1, owner := b.2.2 }
  exposing : s.lightOwner = some .exposure →
    s.walker.sweep.state ≠ .idle ∧ s.walker.sweep.stage = some .exposing ∧ s.frames.slot ≠ [] ∧
      ∀ i ∈ s.frames.slot, (s.frame i).status ≠ .confirming
  framing : s.lightOwner = some .preview → s.walker.sweep.state = .idle
  idle : s.walker.sweep.state = .idle →
    s.walker.sweep.stage = none ∧ s.walker.sweep.buildPending = false ∧ s.frames.slot = [] ∧ s.frames.planned = []
  waiting : s.walker.sweep.buildPending = true →
    s.walker.sweep.state = .walking ∧ s.walker.sweep.stage = none ∧ s.frames.slot = []
  banks : s.banksNamed

/-- Every request that waits to be taken has passed the link-level checks (R187). -/
def State.requestsChecked (s : State) : Prop :=
  ∀ link c, (s.port link).request = some (.untaken c) → linkRangeOk c = true

theorem State.lightSafe_iff (s : State) : s.LightSafe ↔ s.LightSound ∧ s.oneMounted ∧ s.requestsChecked :=
  ⟨fun h => ⟨⟨h.one, h.preview, h.conditions, h.metered, h.exposing, h.framing, h.idle, h.waiting, h.banks⟩,
      h.oneMounted, h.checked⟩,
    fun ⟨h, hone, hchecked⟩ => ⟨h.one, h.preview, h.conditions, h.metered, h.exposing, h.framing, h.idle, h.waiting,
      hone, h.banks, hchecked⟩⟩

theorem State.LightSafe.sound {s : State} (h : s.LightSafe) : s.LightSound := (s.lightSafe_iff.1 h).1

theorem State.lightSound_undisturbed : Undisturbed State.LightSound where
  links _ _ h := ⟨h.one, h.preview, h.conditions, h.metered, h.exposing, h.framing, h.idle, h.waiting, h.banks⟩
  outbox _ _ h := ⟨h.one, h.preview, h.conditions, h.metered, h.exposing, h.framing, h.idle, h.waiting, h.banks⟩
  pending _ _ h := ⟨h.one, h.preview, h.conditions, h.metered, h.exposing, h.framing, h.idle, h.waiting, h.banks⟩

/-- The station is dark, no preview is ON and metering is IDLE. -/
structure State.unlit (s : State) : Prop where
  dark : s.lights.dark
  preview : s.lights.preview = none
  running : s.meter.running = none

section light
variable {s t : State}

theorem State.unlit.stand (h : s.unlit) (hl : t.lights = s.lights) (hm : t.meter.running = s.meter.running) :
    t.unlit := ⟨by rw [hl]; exact h.dark, by rw [hl]; exact h.preview, by rw [hm]; exact h.running⟩

/-- In a dark station the light is sound where the records of the sweep are in order (R132). -/
theorem State.unlit.sound (h : s.unlit)
    (hidle : s.walker.sweep.state = .idle →
      s.walker.sweep.stage = none ∧ s.walker.sweep.buildPending = false ∧ s.frames.slot = [] ∧ s.frames.planned = [])
    (hwaiting : s.walker.sweep.buildPending = true →
      s.walker.sweep.state = .walking ∧ s.walker.sweep.stage = none ∧ s.frames.slot = [])
    (hbanks : s.banksNamed) : s.LightSound := by
  have hnone := litBank_none.2 h.dark
  have howner := State.lightOwner_dark h.dark
  refine ⟨Lights.dark_one h.dark, ⟨fun level => ?_, fun i hi level hl => ?_⟩, fun hn => absurd hnone hn, ?_, ?_, ?_,
    hidle, hwaiting, hbanks⟩
  · rw [h.preview, h.dark 0 (by omega)]
    exact ⟨nofun, nofun⟩
  · rw [h.dark i hi] at hl
    cases hl
  · rw [hnone, h.running]
    rfl
  · rw [howner]; nofun
  · rw [howner]; nofun

/-- The light is sound still where its records and the meter's stand, the slot as it was or its descriptors rewritten, and
a lit bank keeps its conditions. -/
theorem State.LightSound.stand (h : s.LightSound) (hl : t.lights = s.lights)
    (hm : t.meter.running = s.meter.running) (hw : t.walker.sweep = s.walker.sweep)
    (hslot : t.frames.slot = s.frames.slot) (hplanned : t.frames.planned = s.frames.planned)
    (hframe : ∀ i, t.frame i = s.frame i) (hbanks : t.banksNamed)
    (hr : s.lightRefusal = none → litBank s.lights.banks ≠ none → t.lightRefusal = none) : t.LightSound where
  one := by rw [hl]; exact h.one
  preview := by rw [hl]; exact h.preview
  conditions hlit := by rw [hl] at hlit; exact hr (h.conditions hlit) hlit
  metered := by rw [hl, hm]; exact h.metered
  exposing ho := by
    rw [State.lightOwner, hl] at ho
    simp only [hw, hslot, hframe]
    exact h.exposing ho
  framing ho := by
    rw [State.lightOwner, hl] at ho
    rw [hw]
    exact h.framing ho
  idle := by rw [hw, hslot, hplanned]; exact h.idle
  waiting := by rw [hw, hslot]; exact h.waiting
  banks := hbanks

/-- The same where frames and walker stand too. -/
theorem State.LightSound.blocks (h : s.LightSound) (hl : t.lights = s.lights)
    (hm : t.meter.running = s.meter.running) (hf : t.frames = s.frames) (hw : t.walker = s.walker)
    (hr : s.lightRefusal = none → litBank s.lights.banks ≠ none → t.lightRefusal = none) : t.LightSound :=
  h.stand hl hm (by rw [hw]) (by rw [hf]) (by rw [hf]) (fun i => by rw [State.frame, hf]; rfl)
    (h.banks.stand (.of_pool (by rw [hf]) (by rw [hw]))) hr

theorem State.LightSound.dark_of_refusal (h : s.LightSound) (hr : s.lightRefusal ≠ none) : s.lights.dark :=
  litBank_none.1 (by_contra fun hlit => hr (h.conditions hlit))

/-- A dark station has no preview ON and no metering running (R96, R110). -/
theorem State.LightSound.unlit (h : s.LightSound) (hd : s.lights.dark) : s.unlit := by
  refine ⟨hd, Option.eq_none_iff_forall_not_mem.2 fun level hl => ?_, ?_⟩
  · have := (h.preview.1 level).1 hl
    rw [hd 0 (by omega)] at this
    cases this
  · rw [h.metered, litBank_none.2 hd]
    rfl

/-- A light that is neither an exposure's nor a preview's is none. -/
theorem State.dark_of_not_owner (he : s.lightOwner ≠ some .exposure) (hp : s.lightOwner ≠ some .preview) :
    s.lights.dark := by
  refine State.dark_of_owner ?_
  rcases ho : s.lightOwner with _ | _ | _
  · rfl
  · exact absurd ho he
  · exact absurd ho hp

/-- An active sweep whose slot is not EXPOSING runs in the dark. -/
theorem State.LightSound.unlit_of_stage (h : s.LightSound) (hs : s.walker.sweep.state ≠ .idle)
    (hstage : s.walker.sweep.stage ≠ some .exposing) : s.unlit :=
  h.unlit (State.dark_of_not_owner
    (fun ho =>
      have ⟨_, hexposing, _⟩ := h.exposing ho
      hstage hexposing)
    fun ho => hs (h.framing ho))

/-- No build is pending while the slot is taken. -/
theorem State.LightSound.built (h : s.LightSound) (hs : s.frames.slot ≠ []) :
    s.walker.sweep.buildPending = false :=
  eq_false_of_ne_true fun hb =>
    have ⟨_, _, hslot⟩ := h.waiting hb
    hs hslot

theorem State.LightSound.active (h : s.LightSound) (hs : s.frames.slot ≠ []) : s.walker.sweep.state ≠ .idle :=
  fun hi =>
    have ⟨_, _, hslot, _⟩ := h.idle hi
    hs hslot

/-- A put-out of a preview leaves the station dark (R95, R96). -/
theorem State.endPreview_unlit (cause : PreviewEnd) (h1 : s.lights.oneLit) (hp : s.lights.preview ≠ none)
    (ho : s.lightOwner ≠ none) : (s.endPreview cause).unlit := by
  refine ⟨State.endPreview_dark cause s hp h1, (State.endPreview_preview cause s).1, ?_⟩
  rw [State.endPreview, if_neg hp, State.onLights_meter]
  exact (State.putOut_meter ho).1

theorem State.LightSound.owner (h : s.LightSound) (hp : s.lights.preview ≠ none) : s.lightOwner = some .preview := by
  obtain ⟨level, hl⟩ := Option.ne_none_iff_exists'.1 hp
  rw [State.lightOwner, litBank_of_one h.one (by omega) ((h.preview.1 level).1 hl)]
  rfl

theorem State.LightSound.preview_on (h : s.LightSound) (ho : s.lightOwner = some .preview) :
    s.lights.preview ≠ none := by
  simp only [State.lightOwner, Option.map_eq_some_iff] at ho
  obtain ⟨⟨bank, level, owner⟩, hl, rfl⟩ := ho
  obtain ⟨hb, hv⟩ := litBank_lit hl
  obtain rfl := h.preview.2 bank hb level hv
  rw [(h.preview.1 level).2 hv]
  nofun

/-- While the sweep is IDLE the end of the preview leaves the station dark. -/
theorem State.LightSound.endPreview_idle (h : s.LightSound) (hi : s.walker.sweep.state = .idle) (cause : PreviewEnd) :
    (s.endPreview cause).unlit := by
  by_cases hp : s.lights.preview = none
  · rw [State.endPreview_none _ _ hp]
    exact h.unlit (State.dark_of_not_owner (fun ho => (h.exposing ho).1 hi) fun ho => h.preview_on ho hp)
  · exact State.endPreview_unlit cause h.one hp (by rw [h.owner hp]; nofun)

/-- The end of a lit preview leaves the light sound in every state with that light, those frames and that walker. -/
theorem State.LightSound.previewEnds (h : s.LightSound) (ho : s.lightOwner = some .preview)
    (hl : t.lights = s.lights) (hf : t.frames = s.frames) (hw : t.walker = s.walker) (cause : PreviewEnd) :
    (t.endPreview cause).LightSound := by
  have hunlit : (t.endPreview cause).unlit :=
    State.endPreview_unlit cause (by rw [hl]; exact h.one) (by rw [hl]; exact h.preview_on ho)
      (by rw [State.lightOwner, hl]; exact ho.trans_ne nofun)
  obtain ⟨-, -, -, -, -, -, hframes, hwalker, -⟩ := State.endPreview_only cause t
  rw [hf] at hframes
  rw [hw] at hwalker
  refine hunlit.sound ?_ ?_ (h.banks.stand (.of_pool (by rw [hframes]) (by rw [hwalker])))
  · rw [hframes, hwalker]; exact h.idle
  · rw [hframes, hwalker]; exact h.waiting

/-- The end of a preview keeps the light sound. -/
theorem State.LightSound.endPreview (h : s.LightSound) (cause : PreviewEnd) : (s.endPreview cause).LightSound := by
  by_cases hp : s.lights.preview = none
  · rwa [State.endPreview_none _ _ hp]
  · exact h.previewEnds (h.owner hp) rfl rfl rfl cause

end light

end Sys2Proof.Machine
end

section
/-! PROOFS. The walker at work in the dark: it leaves the light sound, whether it lights an exposure or none. -/

namespace Sys2Proof.Machine

/-- A sweep goes on with the station dark. -/
structure State.sweepsDark (s : State) : Prop where
  unlit : s.unlit
  active : s.walker.sweep.state ≠ .idle
  banks : s.banksNamed

section sweeps
variable {s t : State}

theorem State.sweepsDark.step (h : s.sweepsDark) (hl : t.lights = s.lights)
    (hm : t.meter.running = s.meter.running) (ha : t.walker.sweep.state ≠ .idle) (hb : s.sameBanks t) :
    t.sweepsDark :=
  ⟨h.unlit.stand hl hm, ha, h.banks.stand hb⟩

/-- With no build pending a dark sweep is sound. -/
theorem State.sweepsDark.sound (h : s.sweepsDark) (hbuilt : s.walker.sweep.buildPending = false) : s.LightSound :=
  h.unlit.sound (fun hi => absurd hi h.active) (fun hb => by rw [hbuilt] at hb; cases hb) h.banks

/-- A step of the sweep's own record. -/
theorem State.sweepsDark.onSweep (h : s.sweepsDark) {f : Sweep → Sweep} (ha : (f s.walker.sweep).state ≠ .idle) :
    (s.onSweep f).sweepsDark :=
  h.step rfl rfl ha (.of_pool rfl rfl)

theorem State.sweepsDark.onCounts (h : s.sweepsDark) (f : SweepCounts → SweepCounts) : (s.onCounts f).sweepsDark :=
  h.onSweep (f := fun w => { w with counts := f w.counts }) h.active

theorem State.sweepsDark.countStart (h : s.sweepsDark) (lit : Bool) : (s.countStart lit).sweepsDark := by
  unfold State.countStart
  split
  · exact h
  · exact h.onSweep h.active

theorem State.sweepsDark.fillSlot (h : s.sweepsDark) : s.fillSlot.sweepsDark :=
  h.step (by simp) (by simp) (by simpa using h.active) s.fillSlot_sameBanks

theorem State.sweepsDark.completeSlot (h : s.sweepsDark) (status : FrameStatus) : (s.completeSlot status).sweepsDark :=
  h.step (by simp) (by simp) (by simpa using h.active) (s.completeSlot_sameBanks status)

theorem State.sweepsDark.refuseSlot (h : s.sweepsDark) : s.refuseSlot.sweepsDark :=
  (h.completeSlot .refused).onCounts fun c => { c with refused := count32 c.refused s.frames.slot.length }

theorem State.refuseSlot_buildPending (s : State) :
    s.refuseSlot.walker.sweep.buildPending = s.walker.sweep.buildPending := by
  simp [State.refuseSlot, State.onCounts, State.onSweep]

theorem State.sweepsDark.toStage (h : s.sweepsDark) (stage : SlotStage) {state : SweepState} (hs : state ≠ .idle) :
    (s.toStage stage state).sweepsDark :=
  h.onSweep (State.toStage_sweepState stage state hs s)

theorem State.sweepsDark.onCameras (h : s.sweepsDark) (f : CameraPort → CameraPort) : (s.onCameras f).sweepsDark :=
  h.step rfl rfl h.active (.of_pool rfl rfl)

theorem State.sweepsDark.onEachCamera (h : s.sweepsDark) (cameras : List Camera) (f : CameraPort → CameraPort) :
    (s.onEachCamera cameras f).sweepsDark :=
  h.step (by simp) (by simp) (by rw [State.onEachCamera_sweep]; exact h.active)
    (.of_pool (by simp) (s.onEachCamera_plan cameras f))

theorem State.sweepsDark.buildEntry (h : s.sweepsDark) (index : Nat) : (s.buildEntry index).sweepsDark := by
  obtain ⟨counts, hwalker⟩ := s.buildEntry_walker index
  obtain ⟨hlights, hmeter, -⟩ := State.buildEntry_only index s
  exact ⟨h.unlit.stand hlights (by rw [hmeter]), by rw [hwalker]; exact h.active, h.banks.buildEntry index⟩

/-! ### The end of a sweep (R155 to R157) -/

/-- An end that does not tear comes over an empty slot and leaves the light sound. -/
theorem State.endSweep_sound {reason : SweepEnd} (hr : reason.tears = false) (h : s.unlit) (hs : s.frames.slot = [])
    (hb : s.banksNamed) : (s.endSweep reason).LightSound := by
  obtain ⟨hslot, hplanned⟩ := s.endSweep_empties reason (.inr hs)
  have hlights : (s.endSweep reason).lights = s.lights := by simp [State.endSweep, hr]
  have hmeter : (s.endSweep reason).meter = s.meter := by simp [State.endSweep, hr]
  exact (h.stand hlights (by rw [hmeter])).sound (fun _ => ⟨rfl, rfl, hslot, hplanned⟩) (fun hp => by cases hp)
    (hb.stand (s.endSweep_sameBanks reason))

theorem State.runOut_sound {reason : SweepEnd} (hr : reason.tears = false) (h : s.sweepsDark)
    (hs : s.frames.slot = []) : (s.runOut reason).LightSound := by
  unfold State.runOut
  split
  · exact State.endSweep_sound rfl h.unlit hs h.banks
  · exact State.endSweep_sound hr h.unlit hs h.banks

/-! ### Going on (R147, R155, R156) -/

/-- What is asked of the start of an exposure: begun in the dark with no build pending it leaves the light sound. -/
def startsSound (start : State → State) : Prop :=
  ∀ s : State, s.sweepsDark → s.walker.sweep.buildPending = false → (start s).LightSound

variable {start : State → State}

theorem State.nextBuild_sound (hstart : startsSound start) (h : s.sweepsDark) (hs : s.frames.slot = []) :
    (s.nextBuild start).LightSound := by
  unfold State.nextBuild
  dsimp only
  split
  · have hbuild := h.buildEntry s.walker.sweep.nextEntry
    exact hstart _ (hbuild.onSweep hbuild.active) rfl
  · exact (h.onSweep (f := fun w => { w with buildPending := true, state := .walking, stage := none }) nofun).unlit.sound
      nofun (fun _ => ⟨rfl, rfl, hs⟩) (h.banks.stand (.of_pool rfl rfl))

theorem State.buildOrEnd_sound (hstart : startsSound start) (h : s.sweepsDark) (hs : s.frames.slot = []) :
    (s.buildOrEnd start).LightSound := by
  unfold State.buildOrEnd
  split
  · exact State.runOut_sound rfl h hs
  · exact State.nextBuild_sound hstart h hs

theorem State.goOnByMode_sound (hstart : startsSound start) (h : s.sweepsDark) (hs : s.frames.slot = [])
    (hbuilt : s.walker.sweep.buildPending = false) (lit : Bool) : (s.goOnByMode start lit).LightSound := by
  have hcount := h.countStart lit
  have hslot : (s.countStart lit).frames.slot = [] := by simpa using hs
  unfold State.goOnByMode
  split
  · split
    · exact State.runOut_sound rfl h hs
    · exact hstart s h hbuilt
  · split
    · exact State.endSweep_sound rfl hcount.unlit hslot hcount.banks
    · exact State.buildOrEnd_sound hstart hcount hslot
  · exact State.buildOrEnd_sound hstart hcount hslot

theorem State.goOn_sound (hstart : startsSound start) (h : s.sweepsDark) (hs : s.frames.slot = [])
    (hbuilt : s.walker.sweep.buildPending = false) (lit : Bool) : (s.goOn start lit).LightSound := by
  unfold State.goOn
  split
  · exact State.endSweep_sound rfl h.unlit hs h.banks
  · have hwalking := h.onSweep (f := fun w => { w with state := .walking, stage := none }) nofun
    exact State.goOnByMode_sound hstart hwalking hs hbuilt lit

/-! ### The light request of the exposure in the slot (R94, R150) -/

theorem Lights.oneLit_of_only {l : Lights} {bank : Nat} (h : ∀ i, i < 8 → i ≠ bank → Vec.at l.banks i .off = .off) :
    l.oneLit := by
  have only (i : Nat) (hi : i < 8) (hl : (Vec.at l.banks i .off).isLit = true) : i = bank := by
    by_contra hne
    rw [h i hi hne] at hl
    cases hl
  exact fun i hi j hj hli hlj => (only i hi hli).trans (only j hj hlj).symm

theorem State.grantLight_stage (d : Descriptor) (s : State) : (s.grantLight d).walker.sweep.state ≠ .idle ∧
    (s.grantLight d).walker.sweep.stage = some .exposing ∧
    (s.grantLight d).walker.sweep.buildPending = s.walker.sweep.buildPending := by
  rw [State.grantLight_eq]
  refine ⟨State.toStage_sweepState .exposing .exposing nofun _, rfl, ?_⟩
  simp [State.lit, State.toStage, State.onSweep, State.onEachCamera_sweep]

theorem State.grantLight_sameBanks (d : Descriptor) (s : State) : s.sameBanks (s.grantLight d) := by
  refine State.sameBanks.trans (State.onEach_sameBanks (f := fun d => { d with status := .exposing }) (fun _ => rfl)
    s.frames.slot s) (.of_pool (by rw [State.grantLight_frames]) ?_)
  rw [State.grantLight_eq]
  simp [State.lit, State.toStage, State.onSweep, State.onEachCamera_plan]

/-- Of an exposure that the light is granted to no descriptor is CONFIRMING. -/
theorem State.grantLight_status (d : Descriptor) (s : State) {i : Nat} (hi : i ∈ s.frames.slot) :
    ((s.grantLight d).frame i).status ≠ .confirming := by
  rw [State.frame, State.grantLight_frames]
  by_cases hlt : i < 256
  · have := State.onEach_makes (Q := fun d => d.status ≠ .confirming) (f := fun d => { d with status := .exposing })
      (fun _ => nofun) s.frames.slot s hi hlt
    exact this
  · simp [Vec.at, hlt, Descriptor.initial]

/-- A granted request lights the one bank of its descriptor, its exposure EXPOSING in the slot. -/
theorem State.grantLight_sound {d : Descriptor} (h : s.sweepsDark) (hbuilt : s.walker.sweep.buildPending = false)
    (hd : d.bank < 8) (hs : s.frames.slot ≠ []) (hr : s.lightRefusal = none) : (s.grantLight d).LightSound := by
  have hlights := s.grantLight_lights d
  have hmeter := s.grantLight_meter d
  have hframes := s.grantLight_frames d
  obtain ⟨hstation, hsettings, hcustody, hcradle, -, hguards, -⟩ := State.grantLight_only d s
  have hat (i : Nat) (hi : i < 8) : Vec.at (s.grantLight d).lights.banks i .off =
      if d.bank = i then .lit d.level .exposure else .off := by
    rw [hlights, Vec.at_put _ _ _ _ _ hi, h.unlit.dark i hi]
  have hpreview : (s.grantLight d).lights.preview = none := by rw [hlights]; exact h.unlit.preview
  have hone : (s.grantLight d).lights.oneLit :=
    Lights.oneLit_of_only fun i hi hne => by rw [hat i hi, if_neg hne.symm]
  have hlit : litBank (s.grantLight d).lights.banks = some (d.bank, d.level, .exposure) :=
    litBank_of_one hone hd (by rw [hat _ hd, if_pos rfl])
  have howner : (s.grantLight d).lightOwner = some .exposure := by rw [State.lightOwner, hlit]; rfl
  have hslot : (s.grantLight d).frames.slot = s.frames.slot := by rw [hframes]; simp
  obtain ⟨hstate, hstage, hpending⟩ := s.grantLight_stage d
  refine ⟨hone, ⟨fun level => ?_, fun i hi level hl => ?_⟩, fun _ => ?_, ?_, fun _ => ?_, fun ho => ?_,
    fun hi => absurd hi hstate, fun hp => ?_, ?_⟩
  · rw [hpreview, hat 0 (by omega)]
    split <;> exact ⟨nofun, nofun⟩
  · rw [hat i hi] at hl
    split at hl <;> cases hl
  · exact State.lightRefusal_keeps (by rw [hstation]) (by rw [hsettings]) hcustody (by rw [hcradle]) (by rw [hcradle])
      (by rw [hguards]; exact id) hr
  · rw [hlit, hmeter]
    rfl
  · refine ⟨hstate, hstage, by rwa [hslot], fun i hi => s.grantLight_status d ?_⟩
    rwa [hslot] at hi
  · rw [howner] at ho
    cases ho
  · rw [hpending, hbuilt] at hp
    cases hp
  · exact h.banks.stand (s.grantLight_sameBanks d)

/-- What is asked of the walker going on: over an empty slot, in the dark with no build pending, it leaves the light
sound. -/
def goesOnSound (next : State → State) : Prop :=
  ∀ s : State, s.sweepsDark → s.frames.slot = [] → s.walker.sweep.buildPending = false → (next s).LightSound

theorem State.requestLight_sound {next : State → State} (hnext : goesOnSound next) (h : s.sweepsDark)
    (hbuilt : s.walker.sweep.buildPending = false) : (s.requestLight next).LightSound := by
  have hcameras := h.onCameras fun p => { p with readyTimer := none }
  unfold State.requestLight
  dsimp only
  split
  · exact hcameras.sound hbuilt
  · next a rest heq =>
    split
    · next hr => exact State.grantLight_sound hcameras hbuilt (hcameras.banks.1 a) (by rw [heq]; nofun) hr
    · refine hnext _ hcameras.refuseSlot rfl ?_
      rw [State.refuseSlot_buildPending]
      exact hbuilt

theorem State.awaitCameras_sound {next : State → State} (hnext : goesOnSound next) (h : s.sweepsDark)
    (hbuilt : s.walker.sweep.buildPending = false) : (s.awaitCameras next).LightSound := by
  have hwait := h.toStage .waitCamera (state := .waitCamera) nofun
  unfold State.awaitCameras
  dsimp only
  split
  · exact State.requestLight_sound hnext hwait hbuilt
  · refine (hwait.onEachCamera _ _).sound ?_
    rw [State.onEachCamera_sweep]
    exact hbuilt

theorem State.startExposure_sound (bound : Nat) : startsSound (State.startExposure bound) := by
  induction bound with
  | zero => exact fun s h hbuilt => h.sound hbuilt
  | succ bound ih =>
    intro s h hbuilt
    have hnext : goesOnSound (State.goOn (State.startExposure bound) false) :=
      fun _ h hs hb => State.goOn_sound ih h hs hb false
    have hfill : s.fillSlot.walker.sweep.buildPending = false := by simpa using hbuilt
    unfold State.startExposure
    dsimp only
    split
    · exact h.fillSlot.sound hfill
    · split
      · exact State.awaitCameras_sound hnext h.fillSlot hfill
      · exact hnext _ h.fillSlot.refuseSlot rfl (by rw [State.refuseSlot_buildPending]; exact hfill)

theorem State.start_sound : startsSound State.start := fun _ h hbuilt => State.startExposure_sound _ _ h hbuilt

theorem State.slotEmptied_sound (h : s.sweepsDark) (hs : s.frames.slot = [])
    (hbuilt : s.walker.sweep.buildPending = false) (lit : Bool) : (s.slotEmptied lit).LightSound :=
  State.goOn_sound State.start_sound h hs hbuilt lit

theorem State.goOnIfEmpty_sound (h : s.sweepsDark) (hbuilt : s.walker.sweep.buildPending = false) :
    s.goOnIfEmpty.LightSound := by
  unfold State.goOnIfEmpty
  split
  · next hs => exact State.slotEmptied_sound h hs hbuilt true
  · exact h.sound hbuilt

/-- An active sweep whose slot is not EXPOSING sweeps in the dark. -/
theorem State.LightSound.sweepsDark (h : s.LightSound) (hs : s.walker.sweep.state ≠ .idle)
    (hstage : s.walker.sweep.stage ≠ some .exposing) : s.sweepsDark :=
  ⟨h.unlit_of_stage hs hstage, hs, h.banks⟩

theorem State.LightSound.tryPendingBuild (h : s.LightSound) : s.tryPendingBuild.LightSound := by
  unfold State.tryPendingBuild
  split
  · next hb =>
    obtain ⟨hstate, hstage, hslot⟩ := h.waiting hb
    exact State.nextBuild_sound State.start_sound (h.sweepsDark (by rw [hstate]; nofun) (by rw [hstage]; nofun)) hslot
  · exact h

/-! ### The end of an exposure (R151, R154) -/

/-- A bank is lit for the exposure in the slot of an active sweep, with no build pending. -/
structure State.exposes (s : State) : Prop where
  one : s.lights.oneLit
  owner : s.lightOwner = some .exposure
  preview : s.lights.preview = none
  active : s.walker.sweep.state ≠ .idle
  built : s.walker.sweep.buildPending = false
  banks : s.banksNamed

theorem State.LightSound.exposes (h : s.LightSound) (ho : s.lightOwner = some .exposure) : s.exposes := by
  obtain ⟨hactive, -, hslot, -⟩ := h.exposing ho
  refine ⟨h.one, ho, by_contra fun hp => ?_, hactive, h.built hslot, h.banks⟩
  rw [h.owner hp] at ho
  cases ho

theorem State.exposes.stand (h : s.exposes) (hl : t.lights = s.lights) (hf : t.frames = s.frames)
    (hw : t.walker = s.walker) : t.exposes where
  one := by rw [hl]; exact h.one
  owner := by rw [State.lightOwner, hl]; exact h.owner
  preview := by rw [hl]; exact h.preview
  active := by rw [hw]; exact h.active
  built := by rw [hw]; exact h.built
  banks := h.banks.stand (.of_pool (by rw [hf]) (by rw [hw]))

/-- The put-out of an exposure leaves the sweep in the dark (R151, R154). -/
theorem State.exposes.putOut (h : s.exposes) : s.handMeasured.putOut.lowerTriggers.sweepsDark ∧
    s.handMeasured.putOut.lowerTriggers.walker.sweep.buildPending = false := by
  have howner : s.handMeasured.lightOwner ≠ none := by
    have : s.handMeasured.lightOwner = s.lightOwner := by simp [State.lightOwner]
    rw [this, h.owner]
    nofun
  have hunlit : s.handMeasured.putOut.unlit := by
    refine ⟨State.putOut_dark _ (by simpa using h.one), ?_, (State.putOut_meter howner).1⟩
    simpa using h.preview
  refine ⟨⟨hunlit.stand (by simp) (by simp), by simpa [State.lowerTriggers, State.onCameras] using h.active, ?_⟩,
    by simpa [State.lowerTriggers, State.onCameras] using h.built⟩
  exact h.banks.stand ((s.handMeasured_sameBanks.trans (State.putOut_sameBanks _)).trans (.of_pool rfl rfl))

theorem State.exposes.pulseEnd (h : s.exposes) : s.pulseEnd.LightSound := by
  obtain ⟨hdark, hbuilt⟩ := h.putOut
  unfold State.pulseEnd
  dsimp only
  refine State.sweepsDark.sound ?_ ?_
  · refine State.sweepsDark.toStage (.onEachCamera ?_ _ _) _ nofun
    exact hdark.step (by simp) (by simp) (by simpa using hdark.active)
      (State.onEach_sameBanks (f := fun d => { d with status := .confirming }) (fun _ => rfl) _ _)
  · simpa [State.toStage, State.onSweep, State.onEachCamera_sweep] using hbuilt

theorem State.exposes.cutExposure (h : s.exposes) : s.cutExposure.LightSound := by
  obtain ⟨hdark, hbuilt⟩ := h.putOut
  have hcut := hdark.completeSlot .cut
  unfold State.cutExposure
  dsimp only
  refine State.slotEmptied_sound (hcut.onCounts _) rfl ?_ true
  simpa [State.onCounts, State.onSweep] using hbuilt

end sweeps

end Sys2Proof.Machine
end

section
/-! PROOFS. What a request and an event keep of the light, and of the requests that wait. -/

namespace Sys2Proof.Machine

/-- The light is sound in `t`, and the requests that wait are those that waited in `s`. -/
structure State.keepsLight (s t : State) : Prop where
  sound : t.LightSound
  requests : ∀ link, (t.port link).request = (s.port link).request

/-- The light is sound, and what waits to be taken is in range. -/
def State.lightHeld (s : State) : Prop := s.LightSound ∧ s.requestsChecked

theorem State.LightSafe.held {s : State} (h : s.LightSafe) : s.lightHeld := ⟨h.sound, h.checked⟩

section keeps
variable {s t : State}

theorem State.keepsLight.of_links (h : t.LightSound) (hl : t.links = s.links) : s.keepsLight t :=
  ⟨h, fun link => by rw [State.port, hl]; rfl⟩

theorem State.keepsLight.refl (h : s.LightSound) : s.keepsLight s := .of_links h rfl

/-- An event that is taken only when something changes. -/
theorem State.keepsLight.change (hs : s.LightSound) {p : Prop} [Decidable p] (h : ¬ p → s.keepsLight t) :
    s.keepsLight (if p then s else t) := by
  split
  · exact .refl hs
  · next hp => exact h hp

/-- A check of a request: what is past it decides. -/
theorem State.keepsLight.check (hs : s.LightSound) {p : Prop} [Decidable p] {result : Result} {body : List Byte}
    {past : Served} (h : ¬ p → s.keepsLight past.state) :
    s.keepsLight (if p then refuse result body s else past).state := by
  split
  · exact .refl hs
  · next hp => exact h hp

/-- The checks of the requests that name a volume (R3): past them it is in custody. -/
theorem State.keepsLight.named (hs : s.LightSound) {slot generation : Nat} {act : CustodyEntry → Served}
    (h : s.keepsLight (act (s.entry slot)).state) : s.keepsLight (s.named slot generation act).state :=
  .check hs fun _ => .check hs fun _ => h

/-! ### Requests and events -/

theorem State.lightHeld.onPort (h : s.lightHeld) {link : Link} {f : Port → Port}
    (hf : ∀ c, (f (s.port link)).request = some (.untaken c) → linkRangeOk c = true) : (s.onPort link f).lightHeld := by
  refine ⟨State.lightSound_undisturbed.onPort link f s h.1, fun other c hc => ?_⟩
  rw [State.port_onPort] at hc
  split at hc
  · next heq => subst heq; exact hf c hc
  · exact h.2 other c hc

theorem State.lightHeld.reply (h : s.lightHeld) (link : Link) (tag code : Byte) (result : Result) (body : List Byte) :
    (s.reply link tag code result body).lightHeld :=
  h.onPort nofun

theorem State.lightHeld.receiving (h : s.lightHeld) (link : Link) (reception : Reception) :
    (s.receiving link reception).lightHeld :=
  h.onPort (h.2 link)

/-- A frame that completes: LINK_BUSY, nothing, or what its check does. -/
theorem State.lightHeld.arrive (h : s.lightHeld) {link : Link} {tag code : Byte} {check : State → State}
    (hc : (check s).lightHeld) : (s.arrive link tag code check).lightHeld := by
  unfold State.arrive
  split
  · refine h.onPort fun c hp => h.2 link c ?_
    cases hb : (s.port link).busy <;> simpa [hb] using hp
  split
  · exact h
  · exact hc

theorem State.lightHeld.finish (s : State) (h : t.lightHeld) : (s.finish t).lightHeld := by
  refine ⟨State.lightSound_undisturbed.finish s t h.1, fun link c hc => h.2 link c ?_⟩
  rwa [State.finish_request] at hc

theorem State.keepsLight.held (h : s.keepsLight t) (hs : s.requestsChecked) : t.lightHeld :=
  ⟨h.sound, fun link c hc => hs link c (by rwa [h.requests] at hc)⟩

theorem request_lightHeld {c : Instr} {o : Origin} {take : State → Served}
    (h : s.LightSafe) (hr : request c o take s = .next t)
    (ht : ∀ u : State, u.LightSafe → linkRangeOk c = true → u.keepsLight (take u).state) : t.lightHeld := by
  have answer (u : State) (hu : u.LightSafe) (hc : linkRangeOk c = true) : (u.answer c o take).lightHeld :=
    ((ht u hu hc).held hu.checked).reply ..
  obtain rfl : s.finish (s.serve c o take) = t := Host.Outcome.next.inj hr
  refine .finish s ?_
  unfold State.serve
  split
  · next hc => exact answer s h (h.checked o.link c (by simpa [State.holdsRequest] using hc))
  split
  · exact h.held
  · have heard := (h.heard o).held
    refine heard.arrive ?_
    unfold State.vet
    split
    · exact heard.reply ..
    split
    · exact heard.reply ..
    · next hc => exact answer _ (h.heard o) (by simpa using hc)

theorem event_lightHeld {f : State → State} (hr : event f s = .next t) (hf : (f s).lightHeld) : t.lightHeld := by
  obtain rfl : s.finish (f s) = t := Host.Outcome.next.inj hr
  exact .finish s hf

/-- An event that leaves the requests that wait alone. -/
theorem event_keepsLight {f : State → State} (h : s.LightSafe) (hr : event f s = .next t) (hf : s.keepsLight (f s)) :
    t.lightHeld :=
  event_lightHeld hr (hf.held h.checked)

/-! ### Steps in the dark -/

/-- In a dark station the light is sound as long as its records and those of the frames and the walker stand. -/
theorem State.LightSound.inDark (h : s.LightSound) (hd : s.lights.dark) (ht : s.sameLight t) : t.LightSound := by
  obtain ⟨hl, hm, hf, hw⟩ := ht
  exact h.blocks hl (by rw [hm]) hf hw fun _ hlit => absurd (litBank_none.2 hd) hlit

/-- The motions of the cradle touch neither the light nor the links. -/
theorem State.motionFrame.keepsLight (m : s.motionFrame t) (h : s.LightSound) (hd : s.lights.dark) :
    s.keepsLight t := by
  obtain ⟨-, -, -, hlights, hmeter, hframes, hwalker, hlinks, -⟩ := m
  exact .of_links (h.inDark hd ⟨hlights, hmeter, hframes, hwalker⟩) hlinks

/-- The station is dark unless the cradle is OPEN_READY (R92). -/
theorem State.LightSound.dark_of_cradle (h : s.LightSound) (hc : s.cradle.state ≠ .openReady) : s.lights.dark :=
  h.dark_of_refusal fun hr =>
    have ⟨_, _, _, hopen, _⟩ := s.lightRefusal_none_iff.1 hr
    hc hopen

/-- The station is dark unless it is READY (R92). -/
theorem State.LightSound.dark_of_mode (h : s.LightSound) (hm : s.station.mode ≠ .ready) : s.lights.dark :=
  h.dark_of_refusal fun hr =>
    have ⟨hready, _⟩ := s.lightRefusal_none_iff.1 hr
    hm hready

/-- The station is dark unless a volume is MOUNTED (R92). -/
theorem State.LightSound.dark_of_unmounted (h : s.LightSound) (hm : s.mountedSlot = none) : s.lights.dark :=
  h.dark_of_refusal fun hr =>
    have ⟨_, hmounted, _⟩ := s.lightRefusal_none_iff.1 hr
    hmounted hm

/-- The station is dark unless the settings are GOOD (R92). -/
theorem State.LightSound.dark_of_settings (h : s.LightSound) (hg : s.settings.state ≠ .good) : s.lights.dark :=
  h.dark_of_refusal fun hr =>
    have ⟨_, _, hgood, _⟩ := s.lightRefusal_none_iff.1 hr
    hg hgood

/-- A rewrite of the bookings, no face nearer its budget. -/
theorem State.LightSound.spares (h : s.LightSound) (hs : s.spares t) (ht : s.sameLight t)
    (hstation : t.station = s.station) (hsettings : t.settings = s.settings) (hcradle : t.cradle = s.cradle)
    (hguards : t.guards = s.guards) : t.LightSound := by
  obtain ⟨hl, hm, hf, hw⟩ := ht
  exact h.blocks hl (by rw [hm]) hf hw fun hr _ => hs.lightRefusal hstation hsettings hcradle hguards hr

/-- What stops light and sweep leaves them at rest (R100, R157, R159). -/
theorem State.LightSafe.stopped (h : s.LightSafe) {reason : SweepEnd} (hr : reason.tears = true) {cause : PreviewEnd}
    (ht : ((s.sweepTrip reason).endPreview cause).sameLight t) : t.LightSound := by
  obtain ⟨hl, hm, hf, hw⟩ := ht
  obtain ⟨-, -, -, -, -, -, hframes, hwalker, -⟩ := State.endPreview_only cause (s.sweepTrip reason)
  rw [hframes] at hf
  rw [hwalker] at hw
  have hunlit : t.unlit :=
    ⟨by rw [hl]; exact s.stopped_dark h reason hr cause, by rw [hl]; exact (State.endPreview_preview cause _).1,
      by rw [hm]; exact s.stopped_running h reason hr cause⟩
  have hrest : (s.sweepTrip reason).walker.sweep.stage = none ∧ (s.sweepTrip reason).walker.sweep.buildPending = false ∧
      (s.sweepTrip reason).frames.slot = [] ∧ (s.sweepTrip reason).frames.planned = [] := by
    unfold State.sweepTrip
    split
    · next hi => exact h.idle hi
    · exact ⟨rfl, rfl, s.endSweep_empties reason (.inl hr)⟩
  refine hunlit.sound (fun _ => by rw [hf, hw]; exact hrest) (fun hb => ?_)
    (h.sound.banks.stand ((s.sweepTrip_sameBanks reason).trans (.of_pool (by rw [hf]) (by rw [hw]))))
  rw [hw, hrest.2.1] at hb
  cases hb

end keeps

end Sys2Proof.Machine
end

section
/-! PROOFS. The light under the requests of the custody table and of the leaf register. -/

namespace Sys2Proof.Machine

section custody
variable {s t u : State} {slot generation : Nat}

theorem State.keepsLight.trans (h : s.keepsLight t) (g : t.keepsLight u) : s.keepsLight u :=
  ⟨g.sound, fun link => (g.requests link).trans (h.requests link)⟩

theorem State.keepsLight.post (h : s.keepsLight t) (n : Notice) : s.keepsLight (t.post n) :=
  ⟨State.lightSound_undisturbed.outbox _ _ h.sound, h.requests⟩

/-- A slot in use is one of the eight. -/
theorem State.slot_lt (h : (s.entry slot).state ≠ .free) : slot < 8 := by
  by_contra hge
  exact h (by simp [State.entry, Vec.at, hge, CustodyEntry.free])

/-! ### The bookings -/

/-- A rewrite of the custody table that brings no face nearer its budget. -/
theorem State.LightSound.onCustody (h : s.LightSound) {f : Custody → Custody} (hs : s.spares (s.onCustody f)) :
    s.keepsLight (s.onCustody f) :=
  .of_links (h.spares hs ⟨rfl, rfl, rfl, rfl⟩ rfl rfl rfl rfl) rfl

/-- A rewrite of an entry that keeps its life state, budget and extent. -/
theorem State.LightSound.onEntry (h : s.LightSound) {f : CustodyEntry → CustodyEntry}
    (hm : (f (s.entry slot)).state = .mounted ↔ (s.entry slot).state = .mounted)
    (hv : (s.entry slot).state = .mounted → (f (s.entry slot)).budget = (s.entry slot).budget ∧
      (f (s.entry slot)).extentBase = (s.entry slot).extentBase ∧
      (f (s.entry slot)).leafCount = (s.entry slot).leafCount) : s.keepsLight (s.onEntry slot f) :=
  h.onCustody (.onEntry hm hv)

/-- A rewrite of a leaf record that raises no dose. -/
theorem State.LightSound.onLeaf (h : s.LightSound) (slot leaf : Nat) {f : LeafRecord → LeafRecord}
    (hf : ∀ r side, ((f r).sideOf side).dose ≤ (r.sideOf side).dose) : s.keepsLight (s.onLeaf slot leaf f) :=
  .of_links (h.spares (.onLeaf slot leaf hf) ⟨rfl, rfl, rfl, rfl⟩ rfl rfl rfl rfl) rfl

/-- A rewrite of a face record that keeps its dose. -/
theorem State.LightSound.onFace (h : s.LightSound) (slot : Nat) (face : Face) {f : FaceRecord → FaceRecord}
    (hf : ∀ r, (f r).dose = r.dose) : s.keepsLight (s.onFace slot face f) := by
  have side (side : Side) (r : LeafRecord) (side' : Side) := (LeafRecord.dose_onSide side side' f hf r).le
  cases face with
  | verso leaf => exact h.onLeaf slot leaf (side .left)
  | recto leaf => exact h.onLeaf slot leaf (side .right)
  | board => exact .refl h

theorem State.LightSound.setMark (h : s.LightSound) (slot leaf : Nat) (mark : LeafMark) :
    s.keepsLight (s.setMark slot leaf mark) := by
  have marked := h.onLeaf slot leaf (f := fun r => { r with mark := mark })
    fun r side => by cases side <;> exact le_rfl
  exact marked.trans (marked.sound.onEntry .rfl fun _ => ⟨rfl, rfl, rfl⟩)

/-- A volume that is not MOUNTED comes into custody or leaves it. -/
theorem State.spares.of_others (hs : (s.entry slot).state ≠ .mounted) (ht : (t.entry slot).state ≠ .mounted)
    (ho : s.othersStand slot t)
    (hd : ∀ k side, (((LeafStore.get t.custody.leaves k).getD .fresh).sideOf side).dose ≤
      (((LeafStore.get s.custody.leaves k).getD .fresh).sideOf side).dose) : s.spares t := by
  refine ⟨fun i hi => ?_, fun i hi hm => ?_, hd⟩
  · by_cases hne : i = slot
    · subst hne
      exact iff_of_false ht hs
    · rw [ho i hi hne]
  · have hne : i ≠ slot := fun he => hs (he ▸ hm)
    rw [ho i hi hne]
    exact ⟨rfl, rfl, rfl⟩

/-! ### CHECK IN, RELEASE -/

theorem takeCheckIn_keepsLight (shelfMark : List Byte) (designation : Option (List Byte)) (accession leafCount : Nat)
    (h : s.LightSound) : s.keepsLight (takeCheckIn shelfMark designation accession leafCount s).state := by
  unfold takeCheckIn
  split
  · exact .refl h
  · exact .refl h
  · exact .refl h
  · next slot base _ hfree _ =>
    simp only [State.lowestFree, List.find?_range_eq_some, beq_iff_eq, List.mem_range] at hfree
    obtain ⟨hstate, hslot, -⟩ := hfree
    have entry (i : Nat) (hi : i < 8) := Vec.at_edit s.custody.entries slot i
      (fun _ => CustodyEntry.staged (wrapSucc 256 (s.entry slot).generation) s.custody.nextSequence shelfMark
        designation accession leafCount base) (.free 0) hi
    refine State.keepsLight.post (h.onCustody (.of_others (slot := slot) ?_ ?_ ?_ ?_)) _
    · rw [hstate]; nofun
    · exact (congrArg CustodyEntry.state ((entry slot hslot).trans (if_pos rfl))).trans_ne nofun
    · exact fun i hi hne => (entry i hi).trans (if_neg hne.symm)
    · intro k side
      change (((LeafStore.get (LeafStore.allocate base leafCount s.custody.leaves) k).getD .fresh).sideOf side).dose ≤ _
      rw [LeafStore.get_allocate]
      split
      · cases side <;> exact Nat.zero_le _
      · exact le_rfl

theorem takeRelease_keepsLight (h : s.LightSound) : s.keepsLight (takeRelease slot generation s).state := by
  refine .check h fun _ => .check h fun hstaged => .check h fun _ => .check h fun _ => .check h fun _ => ?_
  rw [Decidable.not_not] at hstaged
  have entry (i : Nat) (hi : i < 8) := Vec.at_edit s.custody.entries slot i (fun e => .free e.generation) (.free 0) hi
  refine State.keepsLight.post (h.onCustody (.of_others (slot := slot) ?_ ?_ ?_ ?_)) _
  · rw [hstaged]; nofun
  · have hslot := State.slot_lt (by rw [hstaged]; nofun)
    exact (congrArg CustodyEntry.state ((entry slot hslot).trans (if_pos rfl))).trans_ne nofun
  · exact fun i hi hne => (entry i hi).trans (if_neg hne.symm)
  · intro k side
    change (((LeafStore.get (LeafStore.release (s.entry slot).extentBase (s.entry slot).leafCount s.custody.leaves)
      k).getD .fresh).sideOf side).dose ≤ _
    rw [LeafStore.get_release]
    split
    · cases side <;> exact Nat.zero_le _
    · exact le_rfl

/-! ### The entry's own fields -/

theorem takeSetHandling_keepsLight (handlingClass angleLimit faceBudget : Nat) (h : s.LightSound) :
    s.keepsLight (takeSetHandling slot generation handlingClass angleLimit faceBudget s).state :=
  .check h fun _ => .check h fun hstaged =>
    h.onEntry .rfl fun hm => absurd (hm.symm.trans (Decidable.not_not.1 hstaged)) nofun

theorem takeHold_keepsLight (h : s.LightSound) : s.keepsLight (takeHold slot generation s).state :=
  .named h (h.onEntry .rfl fun _ => ⟨rfl, rfl, rfl⟩)

theorem takeUnhold_keepsLight (h : s.LightSound) : s.keepsLight (takeUnhold slot generation s).state :=
  .named h (h.onEntry .rfl fun _ => ⟨rfl, rfl, rfl⟩)

theorem takeWaive_keepsLight (reason : Nat) (h : s.LightSound) :
    s.keepsLight (takeWaive slot generation reason s).state :=
  .named h (h.onEntry .rfl fun _ => ⟨rfl, rfl, rfl⟩)

theorem takeClearReference_keepsLight (h : s.LightSound) :
    s.keepsLight (takeClearReference slot generation s).state :=
  .named h (h.onEntry .rfl fun _ => ⟨rfl, rfl, rfl⟩)

theorem takeSetRequirement_keepsLight (bands : BandSet) (h : s.LightSound) :
    s.keepsLight (takeSetRequirement slot generation bands s).state :=
  .named h (h.onEntry .rfl fun _ => ⟨rfl, rfl, rfl⟩)

theorem takeMarkLeaf_keepsLight (leaf : Nat) (mark : LeafMark) (h : s.LightSound) :
    s.keepsLight (takeMarkLeaf slot generation leaf mark s).state :=
  .named h (.check h fun _ => .check h fun _ => h.setMark slot leaf mark)

/-! ### SET BUDGET (R9, R120) -/

/-- While a bank is lit the faces that the new budget has reached put it out (R120). -/
theorem State.LightSound.budgetChanged (h : s.LightSound) (ht : s.sameLight t) (hstation : t.station = s.station)
    (hsettings : t.settings = s.settings) (hcradle : t.cradle = s.cradle) (hguards : t.guards = s.guards)
    (hm : t.mountedSlot = some slot) : (t.budgetChanged slot).LightSound := by
  have ⟨hl, hmeter, hf, hw⟩ := ht
  by_cases hreached : t.reached slot (t.entry slot).budget = []
  · rw [State.budgetChanged_below hreached]
    refine h.blocks hl (by rw [hmeter]) hf hw fun hr _ => ?_
    rw [State.lightRefusal_none_iff] at hr ⊢
    obtain ⟨hmode, -, hgood, hopen, hclear, -⟩ := hr
    rw [hstation, hsettings, hcradle, hguards, hm, State.faceAtBudget_mounted hm]
    refine ⟨hmode, nofun, hgood, hopen, hclear, ?_⟩
    simpa [State.reached, List.filter_eq_nil_iff] using hreached
  · have howner := ht.owner
    rcases ho : s.lightOwner with _ | _ | _ <;> rw [ho] at howner
    · rw [State.budgetChanged_dark howner]
      exact h.inDark (State.dark_of_owner ho) ht
    · rw [State.budgetChanged_exposure howner hreached]
      exact ((h.exposes ho).stand (t := t.onOutbox _) hl hf hw).cutExposure
    · have hends : t.budgetChanged slot =
          (t.postBudget slot (t.reached slot (t.entry slot).budget) .setBudget .preview .budget).endPreview .budget := by
        rw [State.budgetChanged, howner]
        exact if_neg hreached
      rw [hends, State.postBudget_eq]
      exact h.previewEnds (t := t.onOutbox _) ho hl hf hw .budget

theorem takeSetBudget_keepsLight (faceBudget : Nat) (h : s.LightSafe) :
    s.keepsLight (takeSetBudget slot generation faceBudget s).state := by
  have hs := h.sound
  refine .named hs (.check hs fun _ => ?_)
  dsimp only [okay]
  split
  · next hmounted =>
    have hslot := State.slot_lt (by rw [hmounted]; nofun)
    have hm := (State.withBudget_mountedSlot (faceBudget := faceBudget) slot).trans
      (State.mountedSlot_of_one h.oneMounted hslot hmounted)
    exact .of_links (hs.budgetChanged ⟨rfl, rfl, rfl, rfl⟩ rfl rfl rfl rfl hm) (by simp)
  · next hm => exact hs.onEntry .rfl fun hmounted => absurd hmounted hm

/-! ### MOUNT, DISMOUNT -/

/-- MOUNT is granted only while no volume is MOUNTED, so in the dark (R14, R92). -/
theorem takeMount_keepsLight (opening : Nat) (h : s.LightSound) :
    s.keepsLight (takeMount slot generation opening s).state := by
  refine .check h fun _ => .check h fun _ => .check h fun _ => .check h fun _ => .check h fun _ => .check h fun hm =>
    .check h fun _ => .check h fun _ => .check h fun _ => .of_links (h.inDark ?_ ⟨?_, ?_, ?_, ?_⟩) ?_
  · exact h.dark_of_unmounted (Decidable.not_not.1 hm)
  all_goals simp [accepted, State.mountAt]

theorem takeDismount_keepsLight (h : s.LightSafe) : s.keepsLight (takeDismount slot generation s).state := by
  have hs := h.sound
  refine .check hs fun _ => .check hs fun _ => .check hs fun _ => .check hs fun _ => ?_
  obtain ⟨hlights, hmeter, hframes, hwalker⟩ := s.dismount_stopped slot
  obtain ⟨-, -, -, -, -, hlinks⟩ := s.dismount_keeps slot
  refine .of_links (h.stopped (reason := .dismounted) rfl ⟨hlights, hmeter, ?_, ?_⟩) hlinks
  · exact hframes.trans (by simp)
  · exact hwalker.trans (by simp)

end custody

end Sys2Proof.Machine
end

section
/-! PROOFS. The light under the requests and the events of the cradle, and under the guards that trip nothing. -/

namespace Sys2Proof.Machine

section cradle
variable {s t : State}

/-! ### The requests of the cradle -/

/-- TURN is granted only while the sweep is IDLE; it ends the preview and so begins in the dark (R54, R55). -/
theorem State.LightSound.beginTurn (h : s.LightSound) (hi : s.walker.sweep.state = .idle) (direction : Direction)
    (count effectiveClass : Nat) : s.keepsLight (s.beginTurn direction count effectiveClass) := by
  have hended : s.keepsLight (s.endPreview .turn) := .of_links (h.endPreview .turn) (by simp)
  have hmotion : (s.endPreview .turn).motionFrame (s.beginTurn direction count effectiveClass) :=
    (State.onCradle_keeps _ _).trans (State.startLeaf_keeps _)
  exact hended.trans (hmotion.keepsLight hended.sound (h.endPreview_idle hi .turn).dark)

theorem takeTurn_keepsLight (direction : Direction) (count requestedClass : Nat) (h : s.LightSound) :
    s.keepsLight (takeTurn direction count requestedClass s).state := by
  refine .check h fun _ => ?_
  split
  · exact .refl h
  · exact .check h fun _ => .check h fun _ => .check h fun _ => .check h fun hi => .check h fun _ => .check h fun _ =>
      h.beginTurn (Decidable.not_not.1 hi) ..

/-- The approval slot is read by no condition of the light. -/
theorem takeApproveTurn_keepsLight (slot generation leaf : Nat) (h : s.LightSound) :
    s.keepsLight (takeApproveTurn slot generation leaf s).state :=
  .named h (.check h fun _ => .of_links
    (h.blocks rfl rfl rfl rfl fun hr _ => State.lightRefusal_keeps rfl rfl rfl rfl rfl id hr) rfl)

theorem takeResume_keepsLight (h : s.LightSound) : s.keepsLight (takeResume s).state := by
  refine .check h fun hwork => .check h fun _ => .check h fun _ => .check h fun _ => ?_
  refine (State.resumeWork_keeps s).keepsLight h (h.dark_of_cradle fun hc => hwork ?_)
  simp [Cradle.resumable, hc]

theorem takeRecoverTurn_keepsLight (opening : Nat) (h : s.LightSound) :
    s.keepsLight (takeRecoverTurn opening s).state := by
  refine .check h fun hwork => .check h fun _ => .check h fun _ => ?_
  have hdark : s.lights.dark := h.dark_of_cradle fun hc => hwork (by simp [Cradle.recoverable, hc])
  refine State.motionFrame.keepsLight ?_ h hdark
  show s.motionFrame (s.recoverTo opening)
  unfold State.recoverTo
  split
  · exact (State.onCradle_keeps _ _).trans (State.beginSettling_keeps _)
  · exact State.beginRecovery_keeps opening s

/-- A pick is confirmed or rejected while the cradle is TURNING, so in the dark (R81, R82). -/
theorem State.keepsLight.picked (h : s.LightSound) {slot leaf : Nat} {act : Served}
    (ha : s.lights.dark → s.keepsLight act.state) : s.keepsLight (s.picked slot leaf act).state :=
  .check h fun hpick => .check h fun _ =>
    ha (h.dark_of_cradle fun hc => hpick (by simp [Cradle.inPickConfirm, hc]))

theorem takeConfirmPick_keepsLight (slot leaf : Nat) (h : s.LightSound) :
    s.keepsLight (takeConfirmPick slot leaf s).state := by
  refine .picked h fun hdark => ?_
  have kept : s.keepsLight (s.onEntry slot fun e => { e with reference := s.gauge.delta }) :=
    h.onEntry .rfl fun _ => ⟨rfl, rfl, rfl⟩
  exact kept.trans ((State.enterCarry_keeps _).keepsLight kept.sound hdark)

theorem takeRejectPick_keepsLight (slot leaf : Nat) (h : s.LightSound) :
    s.keepsLight (takeRejectPick slot leaf s).state :=
  .picked h fun hdark => (State.enterDrop_keeps .rejected s).keepsLight h hdark

/-! ### The guards -/

/-- The guards change and are clear where they were. -/
theorem State.LightSound.onGuards (h : s.LightSound) {f : Guards → Guards}
    (hf : s.guards.clear = true → (f s.guards).clear = true) : s.keepsLight (s.onGuards f) :=
  .of_links (h.blocks rfl rfl rfl rfl fun hr _ => State.lightRefusal_keeps (s := s) rfl rfl rfl rfl rfl hf hr) rfl

theorem Guards.clear_of {g k : Guards} (hb : k.curtainBroken = true → g.curtainBroken = true)
    (hl : k.curtainLatch = true → g.curtainLatch = true) (h : g.clear = true) : k.clear = true := by
  rw [Guards.clear_iff] at h ⊢
  obtain ⟨hbroken, hlatch⟩ := h
  exact ⟨eq_false_of_ne_true fun hk => by simp [hb hk] at hbroken,
    eq_false_of_ne_true fun hk => by simp [hl hk] at hlatch⟩

theorem takeAckGuard_keepsLight (h : s.LightSound) : s.keepsLight (takeAckGuard s).state :=
  .check h fun _ => h.onGuards (f := fun g => { g with curtainLatch := false }) (Guards.clear_of id nofun)

/-! ### The events of the cradle -/

/-- An event of a motion moves nothing while the cradle is OPEN_READY, and the station is dark otherwise. -/
theorem State.LightSound.motion (h : s.LightSound) (hm : s.motionFrame t) (ht : s.cradle.state = .openReady → t = s) :
    s.keepsLight t := by
  by_cases hc : s.cradle.state = .openReady
  · rw [ht hc]
    exact .refl h
  · exact hm.keepsLight h (h.dark_of_cradle hc)

/-- The levels of the sensors are read by no condition of the light. -/
theorem State.LightSound.onSensors (h : s.LightSound) (f : Sensors → Sensors) : s.keepsLight (s.onSensors f) :=
  .of_links (h.blocks rfl rfl rfl rfl fun hr _ => State.lightRefusal_keeps rfl rfl rfl rfl rfl id hr) rfl

/-- The gauge is read by no condition of the light. -/
theorem State.LightSound.onGauge (h : s.LightSound) (f : Gauge → Gauge) : s.keepsLight (s.onGauge f) :=
  .of_links (h.blocks rfl rfl rfl rfl fun hr _ => State.lightRefusal_keeps rfl rfl rfl rfl rfl id hr) rfl

/-- A sensor changes: a motion takes it, or it is only noted. -/
theorem State.LightSound.sensor (h : s.LightSound) {p : Prop} [Decidable p] {f : Sensors → Sensors}
    {take : State → State} (hm : ∀ u : State, u.motionFrame (take u))
    (ht : ∀ u : State, u.cradle.state = .openReady → take u = u) :
    s.keepsLight (if p then s else take (s.onSensors f)) :=
  .change h fun _ => (h.onSensors f).trans ((h.onSensors f).sound.motion (hm _) (ht _))

theorem State.angleTaken_openReady (u : State) (h : u.cradle.state = .openReady) : u.angleTaken = u := by
  simp only [State.angleTaken, h]

theorem Cradle.turningStep_openReady {k : Cradle} (h : k.state = .openReady) : k.turningStep = none :=
  Cradle.turningStep_none (by rw [h]; nofun)

theorem State.wandDownTaken_openReady (level : Bool) (u : State) (h : u.cradle.state = .openReady) :
    u.wandDownTaken level = u := by
  simp only [State.wandDownTaken, h, Cradle.turningStep_openReady h]

theorem State.vacuumHeldTaken_openReady (level : Bool) (u : State) (h : u.cradle.state = .openReady) :
    u.vacuumHeldTaken level = u := by
  simp [State.vacuumHeldTaken, h, Cradle.turningStep_openReady h]

theorem State.armFarTaken_openReady (level : Bool) (u : State) (h : u.cradle.state = .openReady) :
    u.armFarTaken level = u := by
  simp only [State.armFarTaken, Cradle.turningStep_openReady h]

theorem State.armRestTaken_openReady (u : State) (h : u.cradle.state = .openReady) : u.armRestTaken = u := by
  simp only [State.armRestTaken, h, Cradle.turningStep_openReady h]

theorem State.LightSound.angleTimeout (h : s.LightSound) : s.keepsLight s.angleTimeout :=
  h.motion s.angleTimeout_keeps fun hc => by simp [State.angleTimeout, hc]

theorem State.LightSound.recoveryTimeout (h : s.LightSound) : s.keepsLight s.recoveryTimeout :=
  h.motion s.recoveryTimeout_keeps fun hc => by simp [State.recoveryTimeout, hc]

theorem State.LightSound.gateEnd (h : s.LightSound) : s.keepsLight s.gateEnd :=
  h.motion s.gateEnd_keeps fun hc => by simp [State.gateEnd, hc]

/-- An expiry of a timer of a turn acts in TURNING alone. -/
theorem State.LightSound.turnExpiry (h : s.LightSound) {running : CradleTimers → Option Nat} {act : State → State}
    (hm : s.motionFrame (act s)) : s.keepsLight (s.turnExpiry running act) := by
  unfold State.turnExpiry
  split
  · next hc => exact hm.keepsLight h (h.dark_of_cradle (by rw [hc.1]; nofun))
  · exact .refl h

end cradle

end Sys2Proof.Machine
end

section
/-! PROOFS. The light under PREVIEW ON and PREVIEW OFF, and under the metering. -/

namespace Sys2Proof.Machine

section lighting
variable {s t : State} {slot level : Nat}

/-! ### PREVIEW ON, PREVIEW OFF -/

/-- While the sweep is IDLE no bank but that of the preview is lit (R96). -/
theorem State.LightSound.only_preview (h : s.LightSound) (hi : s.walker.sweep.state = .idle) {i : Nat} (hlt : i < 8)
    (hne : i ≠ 0) : Vec.at s.lights.banks i .off = .off := by
  by_cases hp : s.lights.preview = none
  · exact State.dark_of_not_owner (fun ho => (h.exposing ho).1 hi) (fun ho => h.preview_on ho hp) i hlt
  · obtain ⟨level, hl⟩ := Option.ne_none_iff_exists'.1 hp
    have hlit := (h.preview.1 level).1 hl
    rcases hv : Vec.at s.lights.banks i .off with _ | ⟨l, owner⟩
    · rfl
    · exact absurd (h.one i hlt 0 (by omega) (by rw [hv]; rfl) (by rw [hlit]; rfl)) hne

/-- A preview granted at a level under the conditions of R92, its metering begun or going on. -/
theorem State.LightSound.previewAt (h : s.LightSound) (hi : s.walker.sweep.state = .idle)
    (hl : t.lights = s.lights.previewAt level) (hm : t.meter.running = some { bank := 0, owner := .preview })
    (hf : t.frames = s.frames) (hw : t.walker = s.walker) (hr : t.lightRefusal = none) : t.LightSound := by
  have hat (i : Nat) (hlt : i < 8) : Vec.at t.lights.banks i .off = if 0 = i then .lit level .preview else .off := by
    rw [hl]
    refine (Vec.at_put _ _ _ _ _ hlt).trans ?_
    split
    · rfl
    · next hne => exact h.only_preview hi hlt (Ne.symm hne)
  have hone : t.lights.oneLit := Lights.oneLit_of_only fun i hlt hne => by rw [hat i hlt, if_neg hne.symm]
  have hlit : litBank t.lights.banks = some (0, level, .preview) := litBank_of_one hone (by omega) (hat 0 (by omega))
  have howner : t.lightOwner = some .preview := by rw [State.lightOwner, hlit]; rfl
  have hrest := h.idle hi
  refine ⟨hone, ⟨fun l => ?_, fun i hlt l hv => ?_⟩, fun _ => hr, by rw [hm, hlit]; rfl, fun ho => ?_,
    fun _ => by rw [hw]; exact hi, fun _ => by rw [hw, hf]; exact hrest, by rw [hw, hf]; exact h.waiting,
    h.banks.stand (.of_pool (by rw [hf]) (by rw [hw]))⟩
  · rw [hat 0 (by omega), if_pos rfl, hl]
    simp [Lights.previewAt]
  · by_contra hne
    rw [hat i hlt, if_neg (Ne.symm hne)] at hv
    cases hv
  · rw [howner] at ho
    cases ho

theorem State.LightSound.grantPreview (h : s.LightSound) (hi : s.walker.sweep.state = .idle)
    (hr : s.lightRefusal = none) : s.keepsLight (s.grantPreview slot level) := by
  unfold State.grantPreview
  split
  · exact .of_links (h.previewAt hi (level := level) rfl rfl rfl rfl
      (State.lightRefusal_keeps (s := s) rfl rfl rfl rfl rfl id hr)) rfl
  · next hp =>
    have hrunning : s.meter.running = some { bank := 0, owner := .preview } := by
      obtain ⟨l, hl⟩ := Option.ne_none_iff_exists'.1 hp
      rw [h.metered, litBank_of_one h.one (by omega) ((h.preview.1 l).1 hl)]
      rfl
    exact .of_links (h.previewAt hi (level := level) rfl hrunning rfl rfl
      (State.lightRefusal_keeps (s := s) rfl rfl rfl rfl rfl id hr)) rfl

theorem takePreviewOn_keepsLight (level : Nat) (h : s.LightSound) : s.keepsLight (takePreviewOn level s).state := by
  refine .check h fun hmode => ?_
  split
  · exact .refl h
  · next slot hm =>
    refine .check h fun hgood => .check h fun hopen => .check h fun hi => .check h fun hclear => ?_
    split
    · exact .refl h
    · next hface =>
      refine .check h fun _ => h.grantPreview (Decidable.not_not.1 hi) (s.lightRefusal_none_iff.2 ?_)
      exact ⟨Decidable.not_not.1 hmode, by rw [hm]; nofun, Decidable.not_not.1 hgood, Decidable.not_not.1 hopen,
        by simpa using hclear, hface⟩

theorem takePreviewOff_keepsLight (h : s.LightSound) : s.keepsLight (takePreviewOff s).state :=
  .of_links (h.endPreview .request) (by simp [takePreviewOff, okay])

/-! ### The metering interval (R109 to R114, R120) -/

theorem Meter.add_running (owner : LightOwner) (charge irradiance : Nat) (m : Meter) :
    (m.add owner charge irradiance).running = m.running := by
  cases owner <;> rfl

/-- A charge moves no volume to the cradle and none from it. -/
theorem State.mountedSlot_of_skeleton (h : t.custody.skeleton = s.custody.skeleton) :
    t.mountedSlot = s.mountedSlot :=
  State.mountedSlot_congr fun i hi => ⟨State.mountsNone_of_skeleton h i hi, State.mountsNone_of_skeleton h.symm i hi⟩

/-- A charge claimed: the light and its metering as they were, the doses risen (R111, R114). -/
def State.charged (charge irradiance : Nat) (owner : LightOwner) (s : State) : State :=
  (s.chargeFaces charge).onMeter (Meter.add owner charge irradiance)

section charged
variable (charge irradiance : Nat) (owner : LightOwner) (s : State)

theorem State.charged_light : (s.charged charge irradiance owner).lights = s.lights ∧
    (s.charged charge irradiance owner).frames = s.frames ∧
    (s.charged charge irradiance owner).walker = s.walker := by
  simp [State.charged]

/-- Below the budgets the light stands through a charge. -/
theorem State.LightSound.charged {s : State} (h : s.LightSound)
    (hface : (s.charged charge irradiance owner).faceAtBudget = none) : (s.charged charge irradiance owner).LightSound := by
  obtain ⟨hlights, hframes, hwalker⟩ := s.charged_light charge irradiance owner
  obtain ⟨hstation, hsettings, hcradle, -, hguards, -, -, hskeleton⟩ := State.chargeFaces_captures charge s
  have hmeter : (s.charged charge irradiance owner).meter.running = s.meter.running := by
    simp [State.charged, Meter.add_running]
  refine h.blocks hlights hmeter hframes hwalker fun hr _ => ?_
  rw [State.lightRefusal_none_iff] at hr ⊢
  obtain ⟨hmode, hm, hgood, hopen, hclear, -⟩ := hr
  have hmounted : (s.charged charge irradiance owner).mountedSlot = s.mountedSlot :=
    State.mountedSlot_of_skeleton hskeleton
  simp only [State.charged, State.onMeter_station, State.onMeter_settings, State.onMeter_cradle, State.onMeter_guards,
    hstation, hsettings, hcradle, hguards]
  exact ⟨hmode, hmounted.trans_ne hm, hgood, hopen, hclear, hface⟩

end charged

theorem State.LightSound.meterExpiry (h : s.LightSound) (raw : Nat) : s.keepsLight (s.meterExpiry raw) := by
  refine .of_links ?_ (by simp)
  unfold State.meterExpiry
  split
  · exact h
  · exact h
  · next run slot hrun _ =>
    have howner : s.lightOwner = some run.owner := by
      rw [h.metered, Option.map_eq_some_iff] at hrun
      obtain ⟨lit, hlit, rfl⟩ := hrun
      rw [State.lightOwner, hlit]
      rfl
    extract_lets irradiance charge budget below s1 crossed reached
    obtain ⟨hlights, hframes, hwalker⟩ := s.charged_light charge irradiance run.owner
    have stands (hr : ¬ reached) : s1.LightSound := h.charged charge irradiance run.owner (Decidable.not_not.1 hr)
    split
    · next ho =>
      have hexposes := h.exposes (howner.trans (congrArg some ho))
      split
      · rw [State.postBudget_eq]
        exact (hexposes.stand (t := s1.onOutbox _) hlights hframes hwalker).pulseEnd
      split
      · rw [State.postBudget_eq]
        exact (hexposes.stand (t := s1.onOutbox _) hlights hframes hwalker).cutExposure
      · next hr => exact stands hr
    · next ho =>
      split
      · rw [State.postBudget_eq]
        exact h.previewEnds (t := s1.onOutbox _) (howner.trans (congrArg some ho)) hlights hframes hwalker .budget
      · next hr => exact stands hr

end lighting

end Sys2Proof.Machine
end

section
/-! PROOFS. The light under the requests of the frames, the plan and the sweep, and under the events of the cameras. -/

namespace Sys2Proof.Machine

section sweep
variable {s t : State}

/-! ### The frames and their verdicts -/

/-- The queues outside slot and PLANNED are read by nothing of the light. -/
theorem State.LightSound.onFrames (h : s.LightSound) {f : Frames → Frames} (hp : (f s.frames).pool = s.frames.pool)
    (hs : (f s.frames).slot = s.frames.slot) (hplanned : (f s.frames).planned = s.frames.planned) :
    s.keepsLight (s.onFrames f) := by
  refine .of_links (h.stand rfl rfl rfl hs hplanned (fun i => ?_) (h.banks.stand (.of_pool hp rfl)) fun hr _ => ?_) rfl
  · rw [State.frame, State.onFrames_frames, hp]
    rfl
  · exact State.lightRefusal_keeps (s := s) rfl rfl rfl rfl rfl id hr

theorem takeTakeFrames_keepsLight (largest : Nat) (h : s.LightSound) :
    s.keepsLight (takeTakeFrames largest s).state :=
  h.onFrames (f := fun q =>
    { q with completed := q.completed.drop largest, verdict := q.verdict ++ q.completed.take largest }) rfl rfl rfl

theorem State.LightSound.bookCoverage (h : s.LightSound) (slot : Nat) (face : Face) (band : Nat) :
    s.keepsLight (s.bookCoverage slot face band).2 := by
  unfold State.bookCoverage
  split
  · split
    · exact .refl h
    · have covered := h.onFace slot face (f := fun r => { r with coverage := r.coverage ||| BitVec.ofNat 8 (2 ^ band) })
        fun _ => rfl
      exact covered.trans (covered.sound.onEntry .rfl fun _ => ⟨rfl, rfl, rfl⟩)
  · exact .refl h

theorem State.LightSound.releaseFrame (h : s.LightSound) (slot : Nat) (face : Face) :
    s.keepsLight (s.releaseFrame slot face) := by
  have released := h.onEntry (slot := slot) (f := fun e => { e with framesOpen := e.framesOpen - 1 }) .rfl
    fun _ => ⟨rfl, rfl, rfl⟩
  exact released.trans (released.sound.onFace slot face (f := fun r => { r with framesOpen := r.framesOpen - 1 })
    fun _ => rfl)

/-- A verdict returns its descriptor to FREE, and a build that waits for it may light the next exposure (R131, R147). -/
theorem State.LightSound.freeByVerdict (h : s.LightSound) (index : Nat) : s.keepsLight (s.freeByVerdict index) := by
  have moved : s.keepsLight (s.onFrames fun q =>
      { q with verdict := q.verdict.filter (· ≠ index), free := q.free ++ [index] }) := h.onFrames rfl rfl rfl
  have returned : s.keepsLight (s.returnToFree index) := moved.trans (moved.sound.releaseFrame ..)
  exact returned.trans (.of_links returned.sound.tryPendingBuild (by simp [State.freeByVerdict]))

theorem takeAcceptFrame_keepsLight (index generation : Nat) (h : s.LightSound) :
    s.keepsLight (takeAcceptFrame index generation s).state := by
  refine .check h fun _ => .check h fun _ => .check h fun _ => ?_
  have booked := h.bookCoverage (s.frame index).volume.slot (s.frame index).face (s.frame index).bank
  exact booked.trans (booked.sound.freeByVerdict index)

theorem takeRejectFrame_keepsLight (index generation : Nat) (h : s.LightSound) :
    s.keepsLight (takeRejectFrame index generation s).state :=
  .check h fun _ => .check h fun _ => h.freeByVerdict index

/-! ### The plan -/

/-- The plan changes: its entries name one of the eight banks still. -/
theorem State.LightSound.onPlan (h : s.LightSound) {f : Walker → Walker} (hw : (f s.walker).sweep = s.walker.sweep)
    (hb : ∀ i e, (f s.walker).planAt i = some e → e.bank < 8) : s.keepsLight (s.onWalker f) :=
  .of_links (h.stand rfl rfl hw rfl rfl (fun _ => rfl) ⟨h.banks.1, hb⟩ fun hr _ =>
    State.lightRefusal_keeps (s := s) rfl rfl rfl rfl rfl id hr) rfl

theorem takeSetPlanEntry_keepsLight (index : Nat) (cameras : CameraSet) {bank : Nat} (level duration : Nat)
    (hbank : bank < 8) (h : s.LightSound) :
    s.keepsLight (takeSetPlanEntry index cameras bank level duration s).state := by
  let entry : PlanEntry := { cameras := cameras, bank := bank, level := level, duration := duration }
  refine .check h fun _ => h.onPlan (f := fun w => { w with plan := Vec.put w.plan index (some entry) })
    rfl fun i e he => ?_
  by_cases hi : i < 32
  · rw [Walker.planAt, Vec.at_put _ _ _ _ _ hi] at he
    split at he
    · cases he
      exact hbank
    · exact h.banks.2 i e he
  · simp [Walker.planAt, Vec.at, hi] at he

theorem takeSetPlanLength_keepsLight (length : Nat) (h : s.LightSound) :
    s.keepsLight (takeSetPlanLength length s).state := by
  refine .check h fun _ => ?_
  split
  · exact .refl h
  · exact h.onPlan (f := fun w => { w with planLength := length }) rfl h.banks.2

/-! ### CAPTURE OPENING -/

theorem State.sweepsDark.firstBuild (h : s.sweepsDark) (hbuilt : s.walker.sweep.buildPending = false)
    (mode : SweepMode) :
    (s.firstBuild mode).sweepsDark ∧ (s.firstBuild mode).walker.sweep.buildPending = false := by
  have build (s : State) (h : s.sweepsDark ∧ s.walker.sweep.buildPending = false) (index : Nat) :
      (s.buildEntry index).sweepsDark ∧ (s.buildEntry index).walker.sweep.buildPending = false := by
    obtain ⟨counts, hwalker⟩ := s.buildEntry_walker index
    exact ⟨h.1.buildEntry index, by rw [hwalker]; exact h.2⟩
  have first : ((s.buildEntry 0).onSweep fun w =>
      { w with nextEntry := if s.walker.planLength = 1 then 0 else 1 }).sweepsDark ∧
      (s.buildEntry 0).walker.sweep.buildPending = false :=
    ⟨(build s ⟨h, hbuilt⟩ 0).1.onSweep (build s ⟨h, hbuilt⟩ 0).1.active, (build s ⟨h, hbuilt⟩ 0).2⟩
  cases mode with
  | pass =>
    have fold (indices : List Nat) (s : State) (h : s.sweepsDark ∧ s.walker.sweep.buildPending = false) :
        (indices.foldl (fun s i => s.buildEntry i) s).sweepsDark ∧
          (indices.foldl (fun s i => s.buildEntry i) s).walker.sweep.buildPending = false := by
      induction indices generalizing s with
      | nil => exact h
      | cons i rest ih => exact ih _ (build s h i)
    exact fold _ s ⟨h, hbuilt⟩
  | count _ => exact first
  | opened => exact first

theorem State.firstBuild_links (mode : SweepMode) (s : State) : (s.firstBuild mode).links = s.links := by
  cases mode with
  | pass =>
    unfold State.firstBuild
    generalize List.range s.walker.planLength = indices
    induction indices generalizing s with
    | nil => rfl
    | cons i rest ih => exact (ih _).trans (by simp)
  | count _ => simp [State.firstBuild]
  | opened => simp [State.firstBuild]

/-- CAPTURE OPENING ends the preview, so its first exposure is started in the dark (R146). -/
theorem State.LightSound.openSweep (h : s.LightSound) (hi : s.walker.sweep.state = .idle) (mode : SweepMode)
    (volume : VolumeName) : s.keepsLight (s.openSweep mode volume).start := by
  have ended := h.endPreview .capture
  have opened : ((s.endPreview .capture).onSweep fun _ => .opened mode volume s.cradle.opening).sweepsDark :=
    ⟨(h.endPreview_idle hi .capture).stand rfl rfl, nofun, ended.banks.stand (.of_pool rfl rfl)⟩
  obtain ⟨hdark, hbuilt⟩ := opened.firstBuild rfl mode
  refine .of_links (State.start_sound _ hdark hbuilt) ?_
  simp [State.openSweep, State.firstBuild_links]

theorem takeCaptureOpening_keepsLight (mode : SweepMode) (h : s.LightSound) :
    s.keepsLight (takeCaptureOpening mode s).state := by
  refine .check h fun _ => ?_
  split
  · exact .refl h
  · exact .check h fun _ => .check h fun _ => .check h fun _ => .check h fun hi => .check h fun _ => .check h fun _ =>
      .check h fun _ => h.openSweep (Decidable.not_not.1 hi) ..

/-! ### CLOSE OPENING, STOP SWEEP -/

/-- The exposure in the slot goes on while the sweep drains (R160). -/
theorem State.LightSound.drain (h : s.LightSound) (hi : s.walker.sweep.state ≠ .idle) (hs : s.frames.slot ≠ []) :
    (s.divert.onSweep fun w => { w with state := .draining }).LightSound where
  one := by simpa using h.one
  preview := by simpa using h.preview
  conditions hlit := by
    refine State.lightRefusal_keeps (s := s) ?_ ?_ ?_ ?_ ?_ ?_ (h.conditions (by simpa using hlit))
    all_goals simp
  metered := by simpa using h.metered
  exposing ho := by
    obtain ⟨-, hstage, -, hstatus⟩ := h.exposing (by simpa [State.lightOwner] using ho)
    refine ⟨nofun, ?_, ?_, fun i hmem => ?_⟩
    · simpa [State.divert, State.onCounts, State.onSweep] using hstage
    · simpa [State.divert] using hs
    · have hin : i ∈ s.frames.slot := by simpa [State.divert] using hmem
      exact State.onEach_keeps (Q := fun d => d.status ≠ .confirming) (f := fun d => { d with status := .withdrawn })
        (fun _ _ => nofun) s.frames.planned s i (hstatus i hin)
  framing ho := absurd (h.framing (by simpa [State.lightOwner] using ho)) hi
  idle := nofun
  waiting hb := by
    have hbuilt : s.walker.sweep.buildPending = true := by
      simpa [State.divert, State.onCounts, State.onSweep] using hb
    rw [h.built hs] at hbuilt
    cases hbuilt
  banks := h.banks.stand (s.divert_sameBanks.trans (.of_pool rfl rfl))

theorem State.LightSound.closeSweep (h : s.LightSound) (hi : s.walker.sweep.state ≠ .idle) :
    s.keepsLight s.closeSweep := by
  unfold State.closeSweep
  dsimp only
  split
  · next hs =>
    have hunexposed : s.lightOwner ≠ some .exposure := fun ho =>
      have ⟨_, _, hslot, _⟩ := h.exposing ho
      hslot hs
    have hunlit : s.unlit := h.unlit (State.dark_of_not_owner hunexposed fun ho => hi (h.framing ho))
    exact .of_links (State.endSweep_sound rfl (hunlit.stand (by simp) (by simp)) (by simpa [State.divert] using hs)
      (h.banks.stand s.divert_sameBanks)) (by simp)
  · next hs => exact .of_links (h.drain hi hs) (by simp)

theorem takeCloseOpening_keepsLight (h : s.LightSound) : s.keepsLight (takeCloseOpening s).state := by
  refine .check h fun hi => ?_
  split
  · exact .refl h
  · exact h.closeSweep hi

theorem takeStopSweep_keepsLight (h : s.LightSafe) : s.keepsLight (takeStopSweep s).state := by
  refine .check h.sound fun hi => .of_links (h.stopped (reason := .stopped) rfl (cause := .capture) ?_) (by simp [okay])
  have hp : s.lights.preview = none := by_contra fun hp => hi (h.sound.framing (h.sound.owner hp))
  have hkept := (s.sweepTrip_preview h.one .stopped rfl).1.trans hp
  rw [State.endPreview_none _ _ hkept, State.sweepTrip, if_neg hi]
  exact ⟨rfl, rfl, rfl, rfl⟩

/-! ### The cameras (R149, R152, R153) -/

/-- What a camera port holds is read by nothing of the light. -/
theorem State.LightSound.onCamera (h : s.LightSound) (camera : Camera) (f : CameraPort → CameraPort) :
    s.keepsLight (s.onCamera camera f) := by
  cases camera
  · exact h.onPlan (f := fun w => { w with left := f w.left }) rfl h.banks.2
  · exact h.onPlan (f := fun w => { w with right := f w.right }) rfl h.banks.2

/-- In WAIT_CAMERA a sweep goes on in the dark with no build pending. -/
theorem State.LightSound.waits (h : s.LightSound) (hstage : s.walker.sweep.stage = some .waitCamera) :
    s.sweepsDark ∧ s.walker.sweep.buildPending = false := by
  refine ⟨h.sweepsDark (fun hi => ?_) (by rw [hstage]; nofun), eq_false_of_ne_true fun hb => ?_⟩
  · rw [(h.idle hi).1] at hstage
    cases hstage
  · rw [(h.waiting hb).2.1] at hstage
    cases hstage

theorem State.LightSound.readyTaken (h : s.LightSound) (camera : Camera) : (s.readyTaken camera).LightSound := by
  unfold State.readyTaken
  split
  · next hc =>
    obtain ⟨hdark, hbuilt⟩ := h.waits hc.1
    exact State.requestLight_sound (fun _ h hs hb => State.slotEmptied_sound h hs hb false) hdark hbuilt
  · exact h

theorem State.LightSound.cameraReady (h : s.LightSound) (camera : Camera) (level : Bool) :
    s.keepsLight ((s.onCamera camera fun p => { p with ready := level }).readyTaken camera) :=
  .of_links ((h.onCamera camera fun p => { p with ready := level }).sound.readyTaken camera) (by simp)

theorem State.LightSound.readyTimeout (h : s.LightSound) (camera : Camera) : (s.readyTimeout camera).LightSound := by
  unfold State.readyTimeout
  split
  · next hc =>
    obtain ⟨hdark, hbuilt⟩ := h.waits hc.2
    have hcompleted := (hdark.onCameras fun p => { p with readyTimer := none }).completeSlot .cameraNotReady
    refine State.slotEmptied_sound (hcompleted.onCounts _) rfl ?_ false
    simpa [State.onCounts, State.onSweep, State.onCameras] using hbuilt
  · exact h

/-- While a descriptor of the slot is CONFIRMING the sweep goes on in the dark with no build pending. -/
theorem State.LightSound.confirms (h : s.LightSound) {camera : Camera} {index : Nat}
    (hc : s.confirming camera = some index) : s.sweepsDark ∧ s.walker.sweep.buildPending = false := by
  have hmem := List.mem_of_find?_eq_some hc
  have hstatus : (s.frame index).status = .confirming := by
    have := List.find?_some hc
    simp only [Bool.and_eq_true, beq_iff_eq] at this
    exact this.2
  have hslot := List.ne_nil_of_mem hmem
  have hactive := h.active hslot
  refine ⟨⟨h.unlit (State.dark_of_not_owner (fun ho => ?_) fun ho => hactive (h.framing ho)), hactive, h.banks⟩,
    h.built hslot⟩
  obtain ⟨-, -, -, hnone⟩ := h.exposing ho
  exact hnone index hmem hstatus

theorem State.sweepsDark.onCamera (h : s.sweepsDark) (camera : Camera) (f : CameraPort → CameraPort) :
    (s.onCamera camera f).sweepsDark :=
  h.onEachCamera [camera] f

theorem State.sweepsDark.completeOne (h : s.sweepsDark) (index : Nat) (status : FrameStatus) :
    (s.completeOne index status).sweepsDark :=
  h.step (by simp) (by simp) (by simpa using h.active) (s.completeOne_sameBanks index status)

theorem State.sweepsDark.onFrame (h : s.sweepsDark) (index : Nat) {f : Descriptor → Descriptor}
    (hf : ∀ d, (f d).bank = d.bank) : (s.onFrame index f).sweepsDark :=
  h.step (by simp) (by simp) (by simpa using h.active) (State.onFrame_sameBanks hf index s)

theorem State.LightSound.confirmTimeout (h : s.LightSound) (camera : Camera) :
    (s.confirmTimeout camera).LightSound := by
  unfold State.confirmTimeout
  split
  · exact h
  · have stopped := (h.onCamera camera fun p => { p with confirmTimer := none }).sound
    dsimp only
    split
    · exact stopped
    · next index hc =>
      obtain ⟨hdark, hbuilt⟩ := stopped.confirms hc
      refine State.goOnIfEmpty_sound ((hdark.completeOne index .unconfirmed).onCounts _) ?_
      simpa [State.onCounts, State.onSweep] using hbuilt

theorem State.LightSound.doneTaken (h : s.LightSound) (camera : Camera) : (s.doneTaken camera).LightSound := by
  have counted := (h.onCamera camera fun p => { p with counter := wrapSucc 65536 p.counter }).sound
  unfold State.doneTaken
  dsimp only
  split
  · exact counted
  · next index hc =>
    obtain ⟨hdark, hbuilt⟩ := counted.confirms hc
    have hstopped := hdark.onCamera camera fun p => { p with confirmTimer := none }
    have hnumbered (number : Nat) :=
      hstopped.onFrame index (f := fun d => { d with frameNumber := some number }) fun _ => rfl
    refine State.goOnIfEmpty_sound (((hnumbered _).completeOne index .taken).onCounts _) ?_
    have hsweep (camera : Camera) (f : CameraPort → CameraPort) (s : State) :
        (s.onCamera camera f).walker.sweep = s.walker.sweep := by cases camera <;> rfl
    simpa [State.onCounts, State.onSweep, hsweep] using hbuilt

end sweep

end Sys2Proof.Machine
end

section
/-! PROOFS. The light under trips, modes and settings, a RESTART, a device reset and the frames of the links. -/

namespace Sys2Proof.Machine

section station
variable {s b t : State}

/-! ### Trips (R85, R171, R178) -/

/-- A trip that begins with the light, the frames and the walker of `s`. -/
theorem State.LightSafe.tripBy (h : s.LightSafe) (hb : s.sameLight b) (cause : StopCause) :
    (b.tripBy cause).LightSound := by
  have hr := cause.sweepEnd_tears
  have hdark := State.stopped_dark s h _ hr cause.previewEnd
  have hstop := ((hb.sweepTrip cause.sweepEnd).endPreview cause.previewEnd).putOut
  rw [State.putOut_of_dark _ hdark] at hstop
  obtain ⟨hl, hm, hf, hw⟩ := hstop
  obtain ⟨-, -, -, hlights, hmeter, hframes, hwalker, -⟩ :=
    (b.stopLightAndSweep cause.sweepEnd cause.previewEnd).cradleTrip_keeps cause
  exact h.stopped hr ⟨hlights.trans hl, hmeter.trans hm, hframes.trans hf, hwalker.trans hw⟩

/-- The same, with the links of `s`. -/
theorem State.LightSafe.tripped (h : s.LightSafe) (hb : s.sameLight b) (hl : b.links = s.links) (cause : StopCause) :
    s.keepsLight (b.tripBy cause) := by
  obtain ⟨-, -, -, -, hlinks, -⟩ := State.tripBy_only cause b
  exact .of_links (h.tripBy hb cause) (hlinks.trans hl)

theorem State.keepsLight.onOutbox (h : s.keepsLight t) (f : List Notice → List Notice) : s.keepsLight (t.onOutbox f) :=
  ⟨State.lightSound_undisturbed.outbox _ _ h.sound, h.requests⟩

theorem State.LightSafe.curtainBreaks (h : s.LightSafe) : s.keepsLight s.curtainBreaks := by
  rw [State.curtainBreaks_eq]
  exact (h.tripped (b := s.curtainSet) ⟨rfl, rfl, rfl, rfl⟩ rfl .guard).onOutbox _

theorem State.LightSafe.stopKeyPressed (h : s.LightSafe) : s.keepsLight s.stopKeyPressed := by
  by_cases hm : s.station.mode = .ready
  · rw [State.stopKeyPressed_ready hm]
    exact (h.tripped (b := s.stopSet.setMode .halted .stopKey) ⟨rfl, rfl, rfl, rfl⟩ rfl .halt).onOutbox _
  · rw [State.stopKeyPressed_other hm]
    exact (h.sound.onGuards (f := fun g => { g with stopPressed := true, stopLatch := true }) id).onOutbox _

theorem takeHalt_keepsLight (h : s.LightSafe) : s.keepsLight (takeHalt s).state := by
  unfold takeHalt
  split
  · exact .refl h.sound
  · exact .refl h.sound
  · exact h.tripped (b := s.setMode .halted .halt) ⟨rfl, rfl, rfl, rfl⟩ rfl .halt

/-! ### The settings (R168, R170 to R172) -/

/-- The settings change and stay GOOD or in FAULT. -/
theorem State.LightSound.onSettings (h : s.LightSound) {f : Settings → Settings}
    (hf : (f s.settings).state = s.settings.state) : s.keepsLight (s.onSettings f) :=
  .of_links (h.blocks rfl rfl rfl rfl fun hr _ => State.lightRefusal_keeps (s := s) rfl hf rfl rfl rfl id hr) rfl

theorem takeSetSetting_keepsLight (index : Nat) (value : Word) (h : s.LightSound) :
    s.keepsLight (takeSetSetting index value s).state :=
  .check h fun _ => h.onSettings (f := fun t => { t with words := Vec.put s.settings.words index value }) rfl

theorem State.LightSafe.verify (h : s.LightSafe) : s.keepsLight s.verify := by
  by_cases hsum : settingsSum s.settings.words = Config.goodSum <;> cases hstate : s.settings.state
  case pos.good =>
    rw [State.verify_same (iff_of_true hsum hstate)]
    exact h.sound.onSettings (f := fun x => { x with lastSum := settingsSum s.settings.words }) rfl
  case pos.fault =>
    rw [State.verify_recovers hsum hstate]
    have hdark := h.sound.dark_of_settings (by rw [hstate]; nofun)
    have passed : s.keepsLight (s.verified Config.goodSum .good) :=
      .of_links (h.sound.inDark hdark ⟨rfl, rfl, rfl, rfl⟩) rfl
    exact passed.post _
  case neg.good =>
    rw [State.verify_faults hsum hstate]
    exact (h.tripped (b := s.verified _ .fault) ⟨rfl, rfl, rfl, rfl⟩ rfl .settings).post _
  case neg.fault =>
    rw [State.verify_same (iff_of_false hsum (by rw [hstate]; nofun))]
    exact h.sound.onSettings (f := fun x => { x with lastSum := settingsSum s.settings.words }) rfl

/-! ### The modes (R176 to R179) -/

/-- Outside READY the station is dark, and so is the station that becomes READY. -/
theorem takeEnterReady_keepsLight (h : s.LightSound) : s.keepsLight (takeEnterReady s).state := by
  refine .check h fun hmode => .check h fun _ => ?_
  split
  · exact .refl h
  · have hdark := h.dark_of_mode (by rw [Decidable.not_not.1 hmode]; nofun)
    have hgood (source : SettingsSource) (sum : Nat) : s.sameLight (s.settingsGood source sum) ∧
        (s.settingsGood source sum).links = s.links := by
      unfold State.settingsGood
      dsimp only
      split <;> exact ⟨⟨rfl, rfl, rfl, rfl⟩, rfl⟩
    obtain ⟨hlight, hlinks⟩ := hgood .enterReady (settingsSum s.settings.words)
    exact .of_links (h.inDark hdark hlight) hlinks

theorem takeEnterMaintenance_keepsLight (h : s.LightSound) : s.keepsLight (takeEnterMaintenance s).state :=
  .check h fun _ => .check h fun hm =>
    .of_links (h.inDark (h.dark_of_unmounted (Decidable.not_not.1 hm)) ⟨rfl, rfl, rfl, rfl⟩) rfl

theorem takeClearHalt_keepsLight (h : s.LightSound) : s.keepsLight (takeClearHalt s).state :=
  .check h fun hmode => .check h fun _ => .check h fun _ =>
    .of_links (h.inDark (h.dark_of_mode (by rw [Decidable.not_not.1 hmode]; nofun)) ⟨rfl, rfl, rfl, rfl⟩) rfl

/-! ### RESTART and the device reset -/

theorem State.LightSafe.restart (h : s.LightSafe) : s.keepsLight s.restart := by
  obtain ⟨-, -, -, -, hlights, hmeter, hframes, hwalker, hlinks⟩ := s.restart_blocks
  have hunlit : s.restart.unlit := by
    refine ⟨by rw [hlights]; exact h.restart_dark, ?_, by rw [hmeter]⟩
    rw [hlights, (State.putOut_preview _).1]
    exact (State.endPreview_preview _ _).1
  refine ⟨hunlit.sound (fun _ => ?_) (fun hb => ?_) ?_, fun link => ?_⟩
  · rw [hwalker, hframes]
    exact ⟨rfl, rfl, rfl, rfl⟩
  · rw [hwalker] at hb
    cases hb
  · exact h.sound.banks.stand (.of_pool (by rw [hframes]; rfl) (by rw [hwalker]; rfl))
  · rw [State.port, hlinks]
    cases link <;> rfl

theorem takeRestart_keepsLight (h : s.LightSafe) : s.keepsLight (takeRestart s).state :=
  .check h.sound fun _ => h.restart

/-- The blocks of the reset state carry the light, the frames and the plan; no request waits (R175). -/
theorem State.deviceReset_lightHeld (s : State) : (s.cleared.beginParking 1 none).lightHeld := by
  obtain ⟨-, -, -, -, -, -, light⟩ := invariantsHoldAtReset
  have cleared : s.cleared.LightSound :=
    light.sound.stand rfl rfl rfl rfl rfl (fun _ => rfl) (light.sound.banks.stand (.of_pool rfl rfl))
      fun _ hlit => absurd (litBank_none.2 State.reset_dark) hlit
  have parking := (s.cleared.beginParking_keeps 1 none).keepsLight cleared State.reset_dark
  refine parking.held fun link c hc => ?_
  cases link <;> cases hc

/-! ### The frames of the links (R185 to R187) -/

/-- A request is held for its owning block once it has passed the link-level checks (R187). -/
theorem State.lightHeld.checkFrame (h : s.lightHeld) (link : Link) (tag code : Byte) (body : List Byte)
    (check : Byte) : (s.checkFrame link tag code body check).lightHeld := by
  unfold State.checkFrame
  split
  · exact h.reply ..
  split
  · exact h.reply ..
  split
  · exact h.reply ..
  split
  · exact h.reply ..
  · next c hdecode =>
    refine h.onPort fun d hd => ?_
    obtain rfl : c = d := by cases hd; rfl
    exact (Option.filter_eq_some_iff.1 hdecode).2

theorem State.lightHeld.takeFrame (h : s.lightHeld) (link : Link) (frame : Frame) :
    (s.takeFrame link frame).lightHeld := by
  cases frame with
  | whole tag code body check => exact (h.receiving link .outside).arrive ((h.receiving link .outside).checkFrame ..)
  | overlong tag code _ => exact (h.receiving link .discarding).arrive ((h.receiving link .discarding).reply ..)

/-- A reply that has gone leaves no request that was not there (R186). -/
theorem State.lightHeld.replySent (h : s.lightHeld) (link : Link) : (s.onPort link Port.replySent).lightHeld := by
  refine h.onPort fun c hc => h.2 link c ?_
  unfold Port.replySent at hc
  split at hc
  · exact hc
  · cases hc
  · exact hc

/-- A port is rewritten, its request as it was. -/
theorem State.LightSound.onPort (h : s.LightSound) (link : Link) {f : Port → Port}
    (hf : ∀ p, (f p).request = p.request) : s.keepsLight (s.onPort link f) := by
  refine ⟨State.lightSound_undisturbed.onPort link f s h, fun other => ?_⟩
  rw [State.port_onPort]
  split
  · exact hf _
  · rfl

theorem takeNotices_keepsLight (link : Link) (largest : Nat) (h : s.LightSound) :
    s.keepsLight (takeNotices link largest s).state :=
  h.onPort link (f := fun p =>
    { p with notices := p.notices.drop (noticesTaken largest noticeRoom (s.port link).notices), lost := false })
    fun _ => rfl

end station

end Sys2Proof.Machine
end

section
/-! PROOFS. Every command keeps the light safe. -/

namespace Sys2Proof.Machine

/-- A SET PLAN ENTRY in range names one of the eight banks (R140, R141). -/
theorem linkRangeOk_setPlanEntry {o : Origin} {index : Nat} {cameras : CameraSet} {bank level duration : Nat}
    (h : linkRangeOk (.setPlanEntry o index cameras bank level duration) = true) : bank < 8 := by
  simp only [linkRangeOk, within, Bool.and_eq_true, decide_eq_true_eq] at h
  omega

/-- Every command keeps the light sound, and what waits to be taken in range. -/
theorem exec_lightHeld : ∀ (c : Instr) (s t : State), s.LightSafe → exec c s = .next t → t.lightHeld
  | .deviceReset, s, t, _, hr => by
    obtain rfl : s.cleared.beginParking 1 none = t := Host.Outcome.next.inj hr
    exact s.deviceReset_lightHeld
  | .requestFrameComplete link frame, s, t, h, hr =>
    event_lightHeld (show execRequestFrameComplete link frame s = .next t from hr)
      (by split; exacts [h.held, h.held.takeFrame link frame])
  | .replySent link, s, t, h, hr =>
    event_lightHeld (show execReplySent link s = .next t from hr) (h.held.replySent link)
  | .linkIdleTimeout link, s, t, h, hr =>
    event_lightHeld (show execLinkIdleTimeout link s = .next t from hr) (h.held.receiving link .outside)
  | .startByte link, s, t, h, hr =>
    event_lightHeld (show execStartByte link s = .next t from hr)
      (by split; exacts [h.held.receiving link .inFrame, h.held])
  | .checkIn .., _, _, h, hr => request_lightHeld h hr fun _ h _ => takeCheckIn_keepsLight _ _ _ _ h.sound
  | .setHandling .., _, _, h, hr => request_lightHeld h hr fun _ h _ => takeSetHandling_keepsLight _ _ _ h.sound
  | .setBudget .., _, _, h, hr => request_lightHeld h hr fun _ h _ => takeSetBudget_keepsLight _ h
  | .hold .., _, _, h, hr => request_lightHeld h hr fun _ h _ => takeHold_keepsLight h.sound
  | .unhold .., _, _, h, hr => request_lightHeld h hr fun _ h _ => takeUnhold_keepsLight h.sound
  | .waive .., _, _, h, hr => request_lightHeld h hr fun _ h _ => takeWaive_keepsLight _ h.sound
  | .mount .., _, _, h, hr => request_lightHeld h hr fun _ h _ => takeMount_keepsLight _ h.sound
  | .dismount .., _, _, h, hr => request_lightHeld h hr fun _ h _ => takeDismount_keepsLight h
  | .release .., _, _, h, hr => request_lightHeld h hr fun _ h _ => takeRelease_keepsLight h.sound
  | .listCustody .., _, _, h, hr => request_lightHeld h hr fun _ h _ => .refl h.sound
  | .readCustody .., _, _, h, hr => request_lightHeld h hr fun _ h _ => .refl h.sound
  | .markLeaf .., _, _, h, hr => request_lightHeld h hr fun _ h _ => takeMarkLeaf_keepsLight _ _ h.sound
  | .setRequirement .., _, _, h, hr => request_lightHeld h hr fun _ h _ => takeSetRequirement_keepsLight _ h.sound
  | .readLeaf _ slot leaf, _, _, h, hr =>
    request_lightHeld h hr fun _ h _ => (takeReadLeaf_state slot leaf _).symm ▸ .refl h.sound
  | .turn .., _, _, h, hr => request_lightHeld h hr fun _ h _ => takeTurn_keepsLight _ _ _ h.sound
  | .approveTurn .., _, _, h, hr => request_lightHeld h hr fun _ h _ => takeApproveTurn_keepsLight _ _ _ h.sound
  | .resume _, _, _, h, hr => request_lightHeld h hr fun _ h _ => takeResume_keepsLight h.sound
  | .recoverTurn .., _, _, h, hr => request_lightHeld h hr fun _ h _ => takeRecoverTurn_keepsLight _ h.sound
  | .clearReference .., _, _, h, hr => request_lightHeld h hr fun _ h _ => takeClearReference_keepsLight h.sound
  | .confirmPick .., _, _, h, hr => request_lightHeld h hr fun _ h _ => takeConfirmPick_keepsLight _ _ h.sound
  | .rejectPick .., _, _, h, hr => request_lightHeld h hr fun _ h _ => takeRejectPick_keepsLight _ _ h.sound
  | .ackGuard _, _, _, h, hr => request_lightHeld h hr fun _ h _ => takeAckGuard_keepsLight h.sound
  | .previewOn .., _, _, h, hr => request_lightHeld h hr fun _ h _ => takePreviewOn_keepsLight _ h.sound
  | .previewOff _, _, _, h, hr => request_lightHeld h hr fun _ h _ => takePreviewOff_keepsLight h.sound
  | .takeFrames .., _, _, h, hr => request_lightHeld h hr fun _ h _ => takeTakeFrames_keepsLight _ h.sound
  | .acceptFrame .., _, _, h, hr => request_lightHeld h hr fun _ h _ => takeAcceptFrame_keepsLight _ _ h.sound
  | .rejectFrame .., _, _, h, hr => request_lightHeld h hr fun _ h _ => takeRejectFrame_keepsLight _ _ h.sound
  | .setPlanEntry .., _, _, h, hr =>
    request_lightHeld h hr fun _ h hc => takeSetPlanEntry_keepsLight _ _ _ _ (linkRangeOk_setPlanEntry hc) h.sound
  | .setPlanLength .., _, _, h, hr => request_lightHeld h hr fun _ h _ => takeSetPlanLength_keepsLight _ h.sound
  | .readPlan .., _, _, h, hr => request_lightHeld h hr fun _ h _ => .refl h.sound
  | .captureOpening .., _, _, h, hr => request_lightHeld h hr fun _ h _ => takeCaptureOpening_keepsLight _ h.sound
  | .closeOpening _, _, _, h, hr => request_lightHeld h hr fun _ h _ => takeCloseOpening_keepsLight h.sound
  | .stopSweep _, _, _, h, hr => request_lightHeld h hr fun _ h _ => takeStopSweep_keepsLight h
  | .setSetting .., _, _, h, hr => request_lightHeld h hr fun _ h _ => takeSetSetting_keepsLight _ _ h.sound
  | .readSetting .., _, _, h, hr => request_lightHeld h hr fun _ h _ => .refl h.sound
  | .enterReady _, _, _, h, hr => request_lightHeld h hr fun _ h _ => takeEnterReady_keepsLight h.sound
  | .enterMaintenance _, _, _, h, hr =>
    request_lightHeld h hr fun _ h _ => takeEnterMaintenance_keepsLight h.sound
  | .halt _, _, _, h, hr => request_lightHeld h hr fun _ h _ => takeHalt_keepsLight h
  | .clearHalt _, _, _, h, hr => request_lightHeld h hr fun _ h _ => takeClearHalt_keepsLight h.sound
  | .restart _, _, _, h, hr => request_lightHeld h hr fun _ h _ => takeRestart_keepsLight h
  | .readStatus _, _, _, h, hr => request_lightHeld h hr fun _ h _ => .refl h.sound
  | .takeNotices .., _, _, h, hr => request_lightHeld h hr fun _ h _ => takeNotices_keepsLight _ _ h.sound
  | .curtainBroken, s, t, h, hr =>
    event_keepsLight h (show execCurtainBroken s = .next t from hr) (.change h.sound fun _ => h.curtainBreaks)
  | .curtainClear, s, t, h, hr =>
    event_keepsLight h (show execCurtainClear s = .next t from hr) (h.sound.onGuards (Guards.clear_of nofun id))
  | .stopKeyPress, s, t, h, hr =>
    event_keepsLight h (show execStopKeyPress s = .next t from hr) (.change h.sound fun _ => h.stopKeyPressed)
  | .stopKeyRelease, s, t, h, hr =>
    event_keepsLight h (show execStopKeyRelease s = .next t from hr)
      (h.sound.onGuards (f := fun g => { g with stopPressed := false }) id)
  | .angleChange degrees, s, t, h, hr =>
    event_keepsLight h (show execAngleChange degrees s = .next t from hr)
      (h.sound.sensor State.angleTaken_keeps State.angleTaken_openReady)
  | .wandDownChange level, s, t, h, hr =>
    event_keepsLight h (show execWandDownChange level s = .next t from hr)
      (h.sound.sensor (State.wandDownTaken_keeps level) (State.wandDownTaken_openReady level))
  | .vacuumHeldChange level, s, t, h, hr =>
    event_keepsLight h (show execVacuumHeldChange level s = .next t from hr)
      (h.sound.sensor (State.vacuumHeldTaken_keeps level) (State.vacuumHeldTaken_openReady level))
  | .armFarChange level, s, t, h, hr =>
    event_keepsLight h (show execArmFarChange level s = .next t from hr)
      (h.sound.sensor (State.armFarTaken_keeps level) (State.armFarTaken_openReady level))
  | .armRestChange level, s, t, h, hr =>
    event_keepsLight h (show execArmRestChange level s = .next t from hr)
      (h.sound.sensor State.armRestTaken_keeps State.armRestTaken_openReady)
  | .cameraReadyChange camera level, s, t, h, hr =>
    event_keepsLight h (show execCameraReadyChange camera level s = .next t from hr)
      (.change h.sound fun _ => h.sound.cameraReady camera level)
  | .doneEdge camera, s, t, h, hr =>
    event_keepsLight h (show execDoneEdge camera s = .next t from hr) (.of_links (h.sound.doneTaken camera) (by simp))
  | .storeUpset index value, s, t, h, hr =>
    event_keepsLight h (show execStoreUpset index value s = .next t from hr) (h.sound.onSettings rfl)
  | .angleTimerExpiry, s, t, h, hr =>
    event_keepsLight h (show execAngleTimerExpiry s = .next t from hr) h.sound.angleTimeout
  | .liftTimeout, s, t, h, hr =>
    event_keepsLight h (show execLiftTimeout s = .next t from hr) (h.sound.turnExpiry (s.turnFault_keeps _ _))
  | .carryTimeout, s, t, h, hr =>
    event_keepsLight h (show execCarryTimeout s = .next t from hr) (h.sound.turnExpiry (s.turnFault_keeps _ _))
  | .layTimeout, s, t, h, hr =>
    event_keepsLight h (show execLayTimeout s = .next t from hr) (h.sound.turnExpiry (s.turnFault_keeps _ _))
  | .settleTimerExpiry, s, t, h, hr =>
    event_keepsLight h (show execSettleTimerExpiry s = .next t from hr) (h.sound.turnExpiry s.settleEnd_keeps)
  | .pickConfirmTimeout, s, t, h, hr =>
    event_keepsLight h (show execPickConfirmTimeout s = .next t from hr)
      (h.sound.turnExpiry (s.enterDrop_keeps .unconfirmed))
  | .recoveryTimerExpiry, s, t, h, hr =>
    event_keepsLight h (show execRecoveryTimerExpiry s = .next t from hr) h.sound.recoveryTimeout
  | .gaugeGateExpiry, s, t, h, hr =>
    event_keepsLight h (show execGaugeGateExpiry s = .next t from hr) h.sound.gateEnd
  | .meteringIntervalExpiry raw, s, t, h, hr =>
    event_keepsLight h (show execMeteringIntervalExpiry raw s = .next t from hr) (h.sound.meterExpiry raw.toNat)
  | .cameraReadyTimeout camera, s, t, h, hr =>
    event_keepsLight h (show execCameraReadyTimeout camera s = .next t from hr)
      (.of_links (h.sound.readyTimeout camera) (by simp))
  | .cameraConfirmTimeout camera, s, t, h, hr =>
    event_keepsLight h (show execCameraConfirmTimeout camera s = .next t from hr)
      (.of_links (h.sound.confirmTimeout camera) (by simp))
  | .verificationTimerExpiry, s, t, h, hr =>
    event_keepsLight h (show execVerificationTimerExpiry s = .next t from hr) h.verify
  | .pendingBuild, s, t, h, hr =>
    event_keepsLight h (show execPendingBuild s = .next t from hr) (.of_links h.sound.tryPendingBuild (by simp))
  | .oscillatorCycle, s, t, h, hr =>
    event_keepsLight h (show execOscillatorCycle s = .next t from hr) (h.sound.onGauge _)

/-- The queue of commands says nothing of the light. -/
theorem State.LightSafe.withPending {s : State} (h : s.LightSafe) (q : List Instr) : (s.withPending q).LightSafe :=
  (State.lightSafe_iff _).2 ⟨State.lightSound_undisturbed.pending q s h.sound,
    State.oneMounted_undisturbed.pending q s h.oneMounted, h.checked⟩

/-- Settles O10: the light and its records through every command, with at most one volume MOUNTED and every waiting request
in range. -/
theorem lightStaysSafe : Obligations.LightStaysSafe := by
  unfold Obligations.LightStaysSafe
  intro s t h hstep
  unfold step at hstep
  split at hstep
  · cases hstep
    exact h
  · next c rest _ =>
    have hbegun := h.withPending rest
    obtain ⟨hsound, hchecked⟩ := exec_lightHeld c _ t hbegun hstep
    exact (State.lightSafe_iff t).2 ⟨hsound, exec_oneMounted c _ t hbegun.oneMounted hstep, hchecked⟩

end Sys2Proof.Machine
end

section
/-! PROOFS. The charge of a metering interval, face by face (R109, R111). -/

namespace Sys2Proof.Machine

/-! ### A charge booked to faces of one volume (R111) -/

/-- A face record with a charge booked to it. -/
def FaceRecord.charged (charge : Nat) (r : FaceRecord) : FaceRecord := { r with dose := r.dose + charge }

/-- A charge booked to the faces of a list, one after the other. -/
def State.chargeAll (slot charge : Nat) (faces : List VisibleFace) (s : State) : State :=
  faces.foldl (fun s v => s.onLeaf slot v.leaf (LeafRecord.onSide v.side (FaceRecord.charged charge))) s

theorem LeafRecord.sideOf_onSide (side side' : Side) (f : FaceRecord → FaceRecord) (r : LeafRecord) :
    (r.onSide side f).sideOf side' = if side = side' then f (r.sideOf side') else r.sideOf side' := by
  cases side <;> cases side' <;> rfl

section chargeFaces
variable {slot charge : Nat} {s : State}

theorem State.chargeFaces_eq (hm : s.mountedSlot = some slot) :
    s.chargeFaces charge = (s.chargeAll slot charge s.visible).onEntry slot fun e =>
      { e with doseTotal := e.doseTotal + charge * s.visible.length } := by
  unfold State.chargeFaces
  rw [hm]
  rfl

/-- A charge of faces moves no entry. -/
theorem State.entry_chargeAll (faces : List VisibleFace) (s : State) (i : Nat) :
    (s.chargeAll slot charge faces).entry i = s.entry i := by
  unfold State.chargeAll
  induction faces generalizing s with
  | nil => rfl
  | cons v rest ih => exact ih _

/-- One face of a record of the store: charged as often as the list names it. -/
theorem State.side_chargeAll (faces : List VisibleFace) (s : State) (k : Nat) (side : Side) :
    (LeafStore.get (s.chargeAll slot charge faces).custody.leaves k).map (fun r => r.sideOf side) =
      (LeafStore.get s.custody.leaves k).map fun r => (r.sideOf side).charged
        (charge * faces.countP fun v => decide ((s.entry slot).extentBase + v.leaf = k) && decide (v.side = side)) := by
  unfold State.chargeAll
  induction faces generalizing s with
  | nil => rfl
  | cons v rest ih =>
    rw [List.foldl_cons, ih, List.countP_cons]
    have hentry : (s.onLeaf slot v.leaf (LeafRecord.onSide v.side (FaceRecord.charged charge))).entry slot =
        s.entry slot := rfl
    rw [hentry, State.onLeaf, State.onLeaves, State.onCustody_custody, LeafStore.get_edit]
    by_cases hk : (s.entry slot).extentBase + v.leaf = k
    · by_cases hside : v.side = side
      · simp [hk, hside, LeafRecord.sideOf_onSide, FaceRecord.charged, Function.comp_def, Nat.mul_add, Nat.add_assoc,
          Nat.add_comm, Nat.add_left_comm]
      · simp [hk, hside, LeafRecord.sideOf_onSide, Function.comp_def]
    · simp [hk]

theorem State.entry_chargeFaces (hm : s.mountedSlot = some slot) {i : Nat} (hi : i < 8) :
    (s.chargeFaces charge).entry i =
      if slot = i then { s.entry i with doseTotal := (s.entry i).doseTotal + charge * s.visible.length }
      else s.entry i := by
  rw [State.chargeFaces_eq hm, State.entry_onEntry _ _ _ _ hi, State.entry_chargeAll]

/-! ### The visible faces (R35) -/

theorem State.visible_eq (hm : s.mountedSlot = some slot) :
    s.visible = visibleAt (s.entry slot).leafCount s.cradle.opening := by
  rw [State.visible, hm]

/-- The visible faces are faces of leaves of the volume. -/
theorem visibleAt_leaf_lt {l n : Nat} (hn : n ≤ l) {v : VisibleFace} (hv : v ∈ visibleAt l n) : v.leaf < l := by
  unfold visibleAt at hv
  rcases List.mem_append.1 hv with hv | hv
  · split at hv <;> simp at hv
    subst hv
    show n - 1 < l
    omega
  · split at hv <;> simp at hv
    subst hv
    assumption

theorem visibleAt_nodup (l n : Nat) : (visibleAt l n).Nodup := by
  unfold visibleAt
  split <;> split <;> simp

/-- A face of a volume in custody after a charge: charged when it is in view, else as it was (R111). -/
theorem State.side_chargeFaces (hx : s.extentsShareStore) (hm : s.mountedSlot = some slot)
    (hn : s.cradle.opening ≤ (s.entry slot).leafCount) {i leaf : Nat} (hi : i < 8) (hu : s.inUse i)
    (hl : leaf < (s.entry i).leafCount) (side : Side) :
    ((s.chargeFaces charge).leaf i leaf).sideOf side =
      if i = slot ∧ (⟨leaf, side⟩ : VisibleFace) ∈ s.visible then ((s.leaf i leaf).sideOf side).charged charge
      else (s.leaf i leaf).sideOf side := by
  obtain ⟨hs, hmounted, -⟩ := State.mountedSlot_some.1 hm
  have hin : s.inUse slot := by rw [State.inUse, hmounted]; nofun
  obtain ⟨r, hr⟩ := Option.ne_none_iff_exists'.1 (hx.record hi hu hl)
  have hbase : ((s.chargeFaces charge).entry i).extentBase = (s.entry i).extentBase := by
    rw [State.entry_chargeFaces hm hi]
    split <;> rfl
  have hcount : (s.visible.countP fun v => decide ((s.entry slot).extentBase + v.leaf = (s.entry i).extentBase + leaf) &&
      decide (v.side = side)) = if i = slot ∧ (⟨leaf, side⟩ : VisibleFace) ∈ s.visible then 1 else 0 := by
    by_cases hslot : i = slot
    · subst hslot
      have hnodup : s.visible.Nodup := by rw [State.visible_eq hm]; exact visibleAt_nodup _ _
      refine Eq.trans ?_ ((hnodup.count (a := ⟨leaf, side⟩)).trans (by simp))
      refine List.countP_congr fun v _ => ?_
      obtain ⟨leaf', side'⟩ := v
      simp
    · rw [if_neg fun h => hslot h.1, List.countP_eq_zero]
      intro v hv hc
      rw [State.visible_eq hm] at hv
      have hlt := visibleAt_leaf_lt hn hv
      simp only [Bool.and_eq_true, decide_eq_true_eq] at hc
      exact hx.apart i hi slot hs hslot hu hin _ (Nat.le_add_right _ leaf) (by omega) (by omega)
  have hside := State.side_chargeAll (slot := slot) (charge := charge) s.visible s ((s.entry i).extentBase + leaf) side
  rw [hcount, hr] at hside
  have hleaves : (s.chargeFaces charge).custody.leaves = (s.chargeAll slot charge s.visible).custody.leaves := by
    rw [State.chargeFaces_eq hm, State.onEntry_leaves]
  rw [State.leaf, State.leaf, Custody.leafOf, Custody.leafOf, hbase, hleaves, hr]
  obtain ⟨r', hr', hrecord⟩ := Option.map_eq_some_iff.1 hside
  rw [hr', Option.getD_some, Option.getD_some, hrecord]
  split <;> simp [FaceRecord.charged]

end chargeFaces

end Sys2Proof.Machine
end

section
/-! PROOFS. A metering interval charged, and the PULSE_END (R109 to R116, R151). -/

namespace Sys2Proof.Machine

/-! ### The interval charged (R109, R111, R114, R115) -/

/-- The calibrated irradiance of a raw reading under a bank (R109). -/
def State.irradianceOf (raw bank : Nat) (s : State) : Nat := calibrated raw (s.calibration bank 1) (s.calibration bank 2)

/-- The charge of an interval with a raw reading under a bank (R111). -/
def State.intervalCharge (raw bank : Nat) (s : State) : Nat :=
  chargeOf (s.irradianceOf raw bank) (s.calibration bank 3).toNat

/-- The faces that a charge brings to the budget (R113). -/
def State.crossed (slot charge : Nat) (s : State) : List VisibleFace :=
  s.visible.filter fun v => decide (s.custody.doseOf (s.entry slot) v < (s.entry slot).budget) &&
    decide ((s.entry slot).budget ≤ s.custody.doseOf (s.entry slot) v + charge)

/-- BUDGET REACHED of the faces that a charge brings to the budget (R113). -/
def State.crossedNotices (slot charge : Nat) (owner : LightOwner) (ending : LightEnd) (s : State) : List Notice :=
  (s.crossed slot charge).map fun v =>
    .budgetReached slot (s.entry slot).generation v.leaf v.side (s.custody.doseOf (s.entry slot) v + charge)
      (s.entry slot).budget .metering owner ending

section charged
variable {slot charge irradiance : Nat} {owner : LightOwner} {s : State}

theorem State.charged_mountedSlot : (s.charged charge irradiance owner).mountedSlot = s.mountedSlot :=
  State.mountedSlot_of_skeleton (State.chargeFaces_captures charge s).2.2.2.2.2.2.2

theorem State.charged_entry (hm : s.mountedSlot = some slot) {i : Nat} (hi : i < 8) :
    (s.charged charge irradiance owner).entry i =
      if slot = i then { s.entry i with doseTotal := (s.entry i).doseTotal + charge * s.visible.length }
      else s.entry i :=
  State.entry_chargeFaces hm hi

/-- What a charge leaves of the MOUNTED entry: all but its dose total. -/
theorem State.charged_mounted (hm : s.mountedSlot = some slot) :
    (s.charged charge irradiance owner).entry slot =
      { s.entry slot with doseTotal := (s.entry slot).doseTotal + charge * s.visible.length } :=
  (State.charged_entry hm (State.mountedSlot_some.1 hm).1).trans (if_pos rfl)

theorem State.charged_budget (hm : s.mountedSlot = some slot) :
    ((s.charged charge irradiance owner).entry slot).budget = (s.entry slot).budget := by
  rw [State.charged_mounted hm]
  rfl

theorem State.charged_visible (hm : s.mountedSlot = some slot) :
    (s.charged charge irradiance owner).visible = s.visible := by
  have hcradle : (s.charged charge irradiance owner).cradle = s.cradle :=
    (State.chargeFaces_captures charge s).2.2.1
  rw [State.visible_eq (State.charged_mountedSlot.trans hm), State.charged_mounted hm, hcradle, State.visible_eq hm]

/-- The recorded dose of a visible face after a charge. -/
theorem State.charged_dose (hx : s.extentsShareStore) (hm : s.mountedSlot = some slot)
    (hn : s.cradle.opening ≤ (s.entry slot).leafCount) {v : VisibleFace} (hv : v ∈ s.visible) :
    (s.charged charge irradiance owner).custody.doseOf ((s.charged charge irradiance owner).entry slot) v =
      s.custody.doseOf (s.entry slot) v + charge := by
  obtain ⟨hs, hmounted, -⟩ := State.mountedSlot_some.1 hm
  have hin : s.inUse slot := by rw [State.inUse, hmounted]; nofun
  have hlt : v.leaf < (s.entry slot).leafCount := visibleAt_leaf_lt hn (by rwa [State.visible_eq hm] at hv)
  have hface := State.side_chargeFaces (charge := charge) hx hm hn hs hin hlt v.side
  rw [if_pos ⟨rfl, hv⟩] at hface
  exact congrArg FaceRecord.dose hface

/-- A visible face stands at the budget after a charge. -/
theorem State.charged_faceAtBudget (hx : s.extentsShareStore) (hm : s.mountedSlot = some slot)
    (hn : s.cradle.opening ≤ (s.entry slot).leafCount) :
    (s.charged charge irradiance owner).faceAtBudget ≠ none ↔
      ∃ v ∈ s.visible, (s.entry slot).budget ≤ s.custody.doseOf (s.entry slot) v + charge := by
  have hdose (v : VisibleFace) (hv : v ∈ s.visible) := State.charged_dose (charge := charge) (irradiance := irradiance)
    (owner := owner) hx hm hn hv
  simp only [State.faceAtBudget, State.charged_mountedSlot, hm, State.charged_visible hm, State.charged_budget hm, ne_eq,
    List.find?_eq_none, decide_eq_true_eq, not_forall, not_not, exists_prop]
  exact exists_congr fun v => and_congr_right fun hv => by rw [hdose v hv]

/-- The faces that the Dose Meter finds to have crossed. -/
theorem State.charged_crossed (hx : s.extentsShareStore) (hm : s.mountedSlot = some slot)
    (hn : s.cradle.opening ≤ (s.entry slot).leafCount) :
    ((s.visible.filter fun v => decide (s.custody.doseOf (s.entry slot) v < (s.entry slot).budget)).filter fun v =>
      decide ((s.entry slot).budget ≤
        (s.charged charge irradiance owner).custody.doseOf ((s.charged charge irradiance owner).entry slot) v)) =
      s.crossed slot charge := by
  rw [List.filter_filter, State.crossed]
  refine List.filter_congr fun v hv => ?_
  rw [State.charged_dose hx hm hn hv, Bool.and_comm]

/-- What the Dose Meter posts of them. -/
theorem State.charged_notices (hx : s.extentsShareStore) (hm : s.mountedSlot = some slot)
    (hn : s.cradle.opening ≤ (s.entry slot).leafCount) (owner' : LightOwner) (ending : LightEnd) :
    (s.charged charge irradiance owner).budgetNotices slot (s.crossed slot charge) .metering owner' ending =
      s.crossedNotices slot charge owner' ending := by
  refine List.map_congr_left fun v hv => ?_
  rw [State.charged_dose hx hm hn (List.mem_of_mem_filter hv), State.charged_budget hm, State.charged_mounted hm]

end charged

/-! ### The expiry of the interval, by the owner of the light (R112 to R114) -/

section expiry
variable {raw slot : Nat} {run : Metering} {s : State}

/-- The state with the interval charged, before anything is ended. -/
def State.metered (raw : Nat) (run : Metering) (s : State) : State :=
  s.charged (s.intervalCharge raw run.bank) (s.irradianceOf raw run.bank) run.owner

/-- The state with the interval charged and BUDGET REACHED posted of each face that crossed. -/
def State.meteredPosts (raw slot : Nat) (run : Metering) (ending : LightEnd) (s : State) : State :=
  (s.metered raw run).onOutbox fun out => out ++ s.crossedNotices slot (s.intervalCharge raw run.bank) run.owner ending

/-- BUDGET REACHED as the Dose Meter posts it. -/
theorem State.postBudget_metered (hx : s.extentsShareStore) (hm : s.mountedSlot = some slot)
    (hn : s.cradle.opening ≤ (s.entry slot).leafCount) (ending : LightEnd) :
    (s.metered raw run).postBudget slot
      ((s.visible.filter fun v => decide (s.custody.doseOf (s.entry slot) v < (s.entry slot).budget)).filter fun v =>
        decide ((s.entry slot).budget ≤ (s.metered raw run).custody.doseOf ((s.metered raw run).entry slot) v))
      .metering run.owner ending = s.meteredPosts raw slot run ending := by
  rw [State.metered, State.charged_crossed hx hm hn, State.postBudget_eq, State.charged_notices hx hm hn]
  rfl

theorem State.meterExpiry_exposure (hrun : s.meter.running = some run) (hm : s.mountedSlot = some slot)
    (ho : run.owner = .exposure) (hx : s.extentsShareStore) (hn : s.cradle.opening ≤ (s.entry slot).leafCount) :
    s.meterExpiry raw =
      if (s.metered raw run).meter.pulseDone then (s.meteredPosts raw slot run .pulseEnd).pulseEnd
      else if (s.metered raw run).faceAtBudget ≠ none then (s.meteredPosts raw slot run .cut).cutExposure
      else s.metered raw run := by
  rw [← State.postBudget_metered hx hm hn, ← State.postBudget_metered hx hm hn]
  unfold State.meterExpiry
  rw [hrun, hm]
  obtain ⟨bank, owner⟩ := run
  cases ho
  rfl

theorem State.meterExpiry_preview (hrun : s.meter.running = some run) (hm : s.mountedSlot = some slot)
    (ho : run.owner = .preview) (hx : s.extentsShareStore) (hn : s.cradle.opening ≤ (s.entry slot).leafCount) :
    s.meterExpiry raw =
      if (s.metered raw run).faceAtBudget ≠ none then (s.meteredPosts raw slot run .budget).endPreview .budget
      else s.metered raw run := by
  rw [← State.postBudget_metered hx hm hn]
  unfold State.meterExpiry
  rw [hrun, hm]
  obtain ⟨bank, owner⟩ := run
  cases ho
  rfl

/-- The accumulator of the exposure takes the interval (R114). -/
theorem State.metered_exposure (ho : run.owner = .exposure) {a : ExposureAccumulator} (ha : s.meter.exposure = some a) :
    (s.metered raw run).meter.exposure =
      some (a.add (s.intervalCharge raw run.bank) (s.irradianceOf raw run.bank)) := by
  simp [State.metered, State.charged, Meter.add, ho, ha]

/-- It says whether all the intervals of the exposure are charged (R112). -/
theorem State.metered_pulseDone (ho : run.owner = .exposure) {a : ExposureAccumulator} (ha : s.meter.exposure = some a) :
    (s.metered raw run).meter.pulseDone = true ↔ a.charged + 1 = a.planned := by
  simp [Meter.pulseDone, State.metered_exposure ho ha, ExposureAccumulator.add]

/-- The measured record of an exposure with the interval charged (R116). -/
theorem State.metered_measured (ho : run.owner = .exposure) {a : ExposureAccumulator}
    (ha : s.meter.exposure = some a) : (s.metered raw run).measuredLight =
      some { dose := a.dose + s.intervalCharge raw run.bank,
             meanIrradiance := (a.irradianceSum + s.irradianceOf raw run.bank) / (a.charged + 1) } := by
  rw [State.measuredLight, State.metered_exposure ho ha]
  rfl

/-- A light that is metered is that of its owner (R110). -/
theorem State.LightSafe.metered_owner (h : s.LightSafe) (hrun : s.meter.running = some run) :
    s.lightOwner = some run.owner := by
  rw [h.metered, Option.map_eq_some_iff] at hrun
  obtain ⟨lit, hlit, rfl⟩ := hrun
  rw [State.lightOwner, hlit]
  rfl

end expiry

/-! ### PULSE_END (R151) -/

/-- What light and capture never touch, in the words of the statements. -/
theorem State.captureFrame.sameButCapture {s t u : State} (h : s.captureFrame t) (hu : t.sameBlocks u) :
    u.sameButCapture s := by
  obtain ⟨hstation, hsettings, hcradle, hgauge, hguards, -, hpending, -⟩ := h
  exact ⟨(hu.station.trans hstation).symm, (hu.settings.trans hsettings).symm, (hu.cradle.trans hcradle).symm,
    (hu.gauge.trans hgauge).symm, (hu.guards.trans hguards).symm, (hu.pending.trans hpending).symm⟩

section pulseEnd
variable (s : State)

/-- A rewrite of ports that does the same when done again: what the ports of a list of cameras become. -/
theorem State.port_onEachCamera_idem {f : CameraPort → CameraPort} (hf : ∀ p, f (f p) = f p) (cameras : List Camera)
    (s : State) (camera : Camera) : (s.onEachCamera cameras f).walker.port camera =
      if camera ∈ cameras then f (s.walker.port camera) else s.walker.port camera := by
  have one (c : Camera) (s : State) : (s.onCamera c f).walker.port camera =
      if camera = c then f (s.walker.port camera) else s.walker.port camera := by
    cases c <;> cases camera <;> rfl
  unfold State.onEachCamera
  induction cameras generalizing s with
  | nil => rfl
  | cons c rest ih =>
    rw [List.foldl_cons, ih, one]
    by_cases hc : camera = c <;> by_cases hr : camera ∈ rest <;> simp [hc, hr, hf]

/-- The station put out at a PULSE_END, its descriptors CONFIRMING with what was measured, the timers not yet started. -/
def State.confirms : State :=
  s.handMeasured.putOut.lowerTriggers.onEach s.handMeasured.putOut.lowerTriggers.frames.slot fun d =>
    { d with status := .confirming }

theorem State.pulseEnd_eq : s.pulseEnd =
    (s.confirms.onEachCamera s.confirms.slotCameras fun p =>
      { p with confirmTimer := some s.confirms.cameraConfirmTime }).toStage .confirming .confirming := rfl

theorem State.confirms_slot : s.confirms.frames.slot = s.frames.slot := by
  simp [State.confirms, State.handMeasured]

theorem State.confirms_camera (i : Nat) : (s.confirms.frame i).camera = (s.frame i).camera := by
  have hput : s.handMeasured.putOut.lowerTriggers.frame i = s.handMeasured.frame i := by simp [State.frame]
  have hconfirming := State.camera_onEach (f := fun d => { d with status := .confirming }) (fun _ => rfl)
    s.handMeasured.putOut.lowerTriggers.frames.slot s.handMeasured.putOut.lowerTriggers i
  rw [hput] at hconfirming
  exact hconfirming.trans (State.camera_onEach
    (f := fun d => { d with measured := s.meter.exposure.bind (·.measured) }) (fun _ => rfl) s.frames.slot s i)

/-- A PULSE_END leaves the light out, metering IDLE and no irradiance (R110, R151). -/
theorem State.pulseEnd_light (h1 : s.lights.oneLit) (h : s.lightOwner ≠ none) :
    s.pulseEnd.lights.dark ∧ s.pulseEnd.meter.running = none ∧ s.pulseEnd.meter.irradiance = 0 := by
  have ho : s.handMeasured.lightOwner ≠ none := by simpa [State.lightOwner] using h
  have hd : s.handMeasured.putOut.lights.dark := State.putOut_dark _ (by simpa using h1)
  obtain ⟨hr, hi⟩ := State.putOut_meter ho
  simp only [State.pulseEnd_eq, State.confirms, State.toStage_only, State.onEachCamera_only, State.onEach_only,
    State.lowerTriggers_only]
  exact ⟨hd, hr, hi⟩

theorem State.pulseEnd_walker : s.pulseEnd.walker.left.trigger = false ∧ s.pulseEnd.walker.right.trigger = false ∧
    s.pulseEnd.walker.sweep.stage = some .confirming := by
  have hwalker : s.confirms.walker = s.handMeasured.putOut.lowerTriggers.walker := by simp [State.confirms]
  have hports := State.onEachCamera_walks (slot := 0) s.confirms.slotCameras
    (fun p => { p with confirmTimer := some s.confirms.cameraConfirmTime }) (by intro; rfl) s.confirms
  rw [State.pulseEnd_eq]
  refine ⟨hports.left.trans ?_, hports.right.trans ?_, rfl⟩ <;> rw [hwalker] <;> rfl

/-- No descriptor leaves its holder at a PULSE_END. -/
theorem State.pulseEnd_holders : { s.pulseEnd.frames with pool := s.frames.pool } = s.frames := by
  simp [State.pulseEnd_eq, State.confirms, State.handMeasured]

/-- The descriptors of the slot are CONFIRMING with what was measured (R116, R151). -/
theorem State.pulseEnd_frame (h : s.frames.whole) {i : Nat} (hi : i ∈ s.frames.slot) :
    s.pulseEnd.frame i = { s.frame i with status := .confirming, measured := s.measuredLight } := by
  obtain ⟨hn, -, -, hlt⟩ := Frames.whole_apart h
  have hconfirming := State.frame_onEach s.frames.slot (fun d => { d with status := .confirming })
    s.handMeasured.putOut.lowerTriggers i (hlt i (.inl hi)) hn
  have hmeasured := State.frame_onEach s.frames.slot
    (fun d => { d with measured := s.meter.exposure.bind (·.measured) }) s i (hlt i (.inl hi)) hn
  rw [if_pos hi] at hconfirming hmeasured
  have hput : s.handMeasured.putOut.lowerTriggers.frame i = s.handMeasured.frame i := by simp [State.frame]
  have hend : s.pulseEnd.frame i = s.confirms.frame i := by simp [State.pulseEnd_eq, State.frame]
  rw [hend, State.confirms, State.slotCut_slot, hconfirming, hput, State.handMeasured, hmeasured]
  rfl

/-- The confirm timer of each camera concerned starts (R151). -/
theorem State.pulseEnd_timer {i : Nat} (hi : i ∈ s.frames.slot) :
    (s.pulseEnd.walker.port (s.frame i).camera).confirmTimer = some s.cameraConfirmTime := by
  have hmem : (s.frame i).camera ∈ s.confirms.slotCameras := by
    rw [State.slotCameras, s.confirms_slot, ← s.confirms_camera i]
    exact List.mem_map_of_mem hi
  have htime : s.confirms.cameraConfirmTime = s.cameraConfirmTime := by
    simp [State.confirms, State.cameraConfirmTime, State.setting, State.word]
  have hport := State.port_onEachCamera_idem (f := fun p => { p with confirmTimer := some s.confirms.cameraConfirmTime })
    (fun _ => rfl) s.confirms.slotCameras s.confirms (s.frame i).camera
  rw [if_pos hmem] at hport
  rw [State.pulseEnd_eq, ← htime]
  exact (congrArg CameraPort.confirmTimer hport :)

theorem State.pulseEnd_captures (s : State) : s.captureFrame s.pulseEnd := by simp [State.captureFrame]

/-- The blocks that a PULSE_END leaves. -/
theorem State.pulseEnd_blocks {s t : State} (h1 : s.lights.oneLit) (hl : s.lightOwner ≠ none)
    (ht : s.pulseEnd.sameBlocks t) :
    t.lights.dark ∧ t.meter.running = none ∧ t.meter.irradiance = 0 ∧ t.walker.left.trigger = false ∧
      t.walker.right.trigger = false ∧ t.walker.sweep.stage = some .confirming ∧ t.custody = s.custody ∧
      { t.frames with pool := s.frames.pool } = s.frames ∧
      ∀ i ∈ s.frames.slot, (t.walker.port (s.frame i).camera).confirmTimer = some s.cameraConfirmTime ∧
        (s.frames.whole → t.frame i = { s.frame i with status := .confirming, measured := s.measuredLight }) := by
  obtain ⟨hdark, hrunning, hirradiance⟩ := s.pulseEnd_light h1 hl
  obtain ⟨hleft, hright, hstage⟩ := s.pulseEnd_walker
  have hcustody : s.pulseEnd.custody = s.custody := by simp
  have hholders := s.pulseEnd_holders
  have htimer (i : Nat) (hi : i ∈ s.frames.slot) := s.pulseEnd_timer hi
  have hframe (i : Nat) (hi : i ∈ s.frames.slot) (hw : s.frames.whole) := s.pulseEnd_frame hw hi
  simp only [State.frame] at hframe ⊢
  rw [ht.lights, ht.meter, ht.walker, ht.custody, ht.frames]
  exact ⟨hdark, hrunning, hirradiance, hleft, hright, hstage, hcustody, hholders,
    fun i hi => ⟨htimer i hi, hframe i hi⟩⟩

end pulseEnd

end Sys2Proof.Machine
end

section
/-! PROOFS. A metering interval charges the visible faces (R109 to R116, R154). -/

namespace Sys2Proof.Machine

/-- An event that moves nothing into COMPLETED: what it leaves, with what it posted delivered. -/
theorem event_posted {f : State → State} {s u : State} (hf : f s = u)
    (hc : u.frames.completed = s.frames.completed) :
    ∃ t, event f s = .next (t.announced u.outbox) ∧ u.sameBlocks t :=
  ⟨u.onOutbox fun _ => [], event_announces f s _ u.outbox hf rfl fun h => hc.trans h, by constructor <;> rfl⟩

section metering
variable {raw slot : Nat} {run : Metering} {s : State}

/-- What an interval that ends nothing leaves (R111). -/
theorem State.metered_quiet (hq : s.quiet) :
    (s.metered raw run).outbox = [] ∧ (s.metered raw run).frames = s.frames := by
  simpa [State.metered, State.charged] using hq

/-- What is posted before a light ends. -/
theorem State.meteredPosts_outbox (hq : s.quiet) (ending : LightEnd) :
    (s.meteredPosts raw slot run ending).outbox =
      s.crossedNotices slot (s.intervalCharge raw run.bank) run.owner ending :=
  congrArg (· ++ s.crossedNotices slot (s.intervalCharge raw run.bank) run.owner ending) (State.metered_quiet hq).1

/-- The light and the walker go into the end of a light as they stood. -/
theorem State.meteredPosts_light (ending : LightEnd) :
    (s.meteredPosts raw slot run ending).lights = s.lights ∧
      (s.meteredPosts raw slot run ending).frames = s.frames ∧
      (s.meteredPosts raw slot run ending).walker = s.walker :=
  s.charged_light (s.intervalCharge raw run.bank) (s.irradianceOf raw run.bank) run.owner

theorem State.meteredPosts_captures (ending : LightEnd) : s.captureFrame (s.meteredPosts raw slot run ending) :=
  s.chargeFaces_captures (s.intervalCharge raw run.bank)

/-- The last interval of an exposure: the PULSE_END, and the notices of the faces that crossed (R112, R113). -/
theorem meterExpiry_pulseEnd (hq : s.quiet)
    (hexpiry : s.meterExpiry raw = (s.meteredPosts raw slot run .pulseEnd).pulseEnd) :
    ∃ t, event (State.meterExpiry raw) s =
        .next (t.announced (s.crossedNotices slot (s.intervalCharge raw run.bank) run.owner .pulseEnd)) ∧
      (s.meteredPosts raw slot run .pulseEnd).pulseEnd.sameBlocks t := by
  have hcompleted := (congrArg Frames.completed (s.meteredPosts raw slot run .pulseEnd).pulseEnd_holders :)
  have hout : (s.meteredPosts raw slot run .pulseEnd).pulseEnd.outbox = _ :=
    (State.pulseEnd_only _).2.2.2.2.2.2.2.1.trans (State.meteredPosts_outbox hq .pulseEnd)
  rw [← hout]
  exact event_posted hexpiry (hcompleted.trans (congrArg Frames.completed (State.meteredPosts_light _).2.1))

/-- An exposure CUT at the budget: the way of the walker, and the notices it owes (R134, R154, R158). -/
theorem meterExpiry_cut (hq : s.quiet) (hactive : s.walker.sweep.state ≠ .idle)
    (hspent : (s.meteredPosts raw slot run .cut).spent slot)
    (hexpiry : s.meterExpiry raw = (s.meteredPosts raw slot run .cut).cutExposure) :
    ∃ u, event (State.meterExpiry raw) s = .next u ∧ (s.meteredPosts raw slot run .cut).cutExposure.sameBlocks u ∧
      s.notified u (s.crossedNotices slot (s.intervalCharge raw run.bank) run.owner .cut ++ s.captureNotices u) := by
  obtain ⟨u, hu, hsame, hnotes⟩ := event_outcome (State.meterExpiry raw) s (by simp)
  rw [hexpiry] at hsame hnotes
  refine ⟨u, hu, hsame, hnotes.congr ?_⟩
  obtain ⟨-, -, hout⟩ := (s.meteredPosts raw slot run .cut).slotCut_keeps
  obtain ⟨-, hends⟩ := hspent.cut
  rw [hends.captureNotices hactive hsame, hout, State.meteredPosts_outbox hq]

/-- A preview ended at the budget (R96, R113). -/
theorem meterExpiry_previewEnd (hq : s.quiet) (hsafe : s.LightSafe)
    (hexpiry : s.meterExpiry raw = (s.meteredPosts raw slot run .budget).endPreview .budget) :
    event (State.meterExpiry raw) s =
      .next (((s.metered raw run).previewEnded .budget).announced
        (s.crossedNotices slot (s.intervalCharge raw run.bank) run.owner .budget)) := by
  obtain ⟨hlights, -, -⟩ := State.meteredPosts_light (raw := raw) (slot := slot) (run := run) (s := s) .budget
  obtain ⟨hquiet, hframes⟩ := State.metered_quiet (raw := raw) (run := run) hq
  obtain ⟨hout, hkept⟩ := (s.metered raw run).previewEnded_keeps .budget
  rw [State.endPreview_eq .budget (by rw [hlights]; exact hsafe.preview_bank), State.meteredPosts,
    State.previewEnded_onOutbox] at hexpiry
  refine event_announces _ s _ _ (hexpiry.trans ?_) (hout.trans hquiet) (fun h => by rwa [hkept, hframes])
  rw [State.onOutbox, hout, hquiet]
  rfl

end metering

/-- Settles O48: the charge of each face, then the end of the light by its owner, its intervals and the budget. -/
theorem meteringChargesTheVisibleFaces : Obligations.MeteringChargesTheVisibleFaces := by
  unfold Obligations.MeteringChargesTheVisibleFaces
  intro raw slot run s e word irradiance charge after reached posted charged hq hsafe hx hrun hm hn
  obtain ⟨hs, -, -⟩ := State.mountedSlot_some.1 hm
  have hcharged : charged s = s.metered raw.toNat run := by
    obtain ⟨bank, owner⟩ := run
    cases owner <;> rfl
  have hreached : (s.metered raw.toNat run).faceAtBudget ≠ none ↔ reached := State.charged_faceAtBudget hx hm hn
  have hmounted : (s.metered raw.toNat run).mountedSlot = s.mountedSlot := State.charged_mountedSlot
  have hposted (ending : LightEnd) :
      s.crossedNotices slot (s.intervalCharge raw.toNat run.bank) run.owner ending = posted ending := rfl
  have howner := hsafe.metered_owner hrun
  have hdose (v : VisibleFace) (hv : v ∈ s.visible) : (s.metered raw.toNat run).custody.doseOf
      ((s.metered raw.toNat run).entry slot) v = after v := State.charged_dose hx hm hn hv
  obtain ⟨hquiet, hframes⟩ := State.metered_quiet (raw := raw.toNat) (run := run) hq
  have stands (h : s.meterExpiry raw.toNat = s.metered raw.toNat run) :
      exec (.meteringIntervalExpiry raw) s = .next (charged s) := by
    rw [hcharged]
    exact event_eq (State.meterExpiry raw.toNat) s _ h hquiet hframes
  refine ⟨⟨hdose, ?_, fun i leaf side hi hu hl hout => ?_⟩, fun a ho ha hlast hr => stands ?_,
    fun a ho ha hlast hr => ?_, fun a ho ha hlast => ?_, fun ho hr => stands ?_, fun ho hr => ?_⟩
  · exact (congrArg CustodyEntry.doseTotal ((State.entry_chargeFaces hm hs).trans (if_pos rfl)) :)
  · refine (State.side_chargeFaces hx hm hn hi hu hl side).trans (if_neg fun h => ?_)
    exact hout.elim (fun hne => hne h.1) fun hv => hv h.2
  · rw [State.meterExpiry_exposure hrun hm ho hx hn, if_neg (by rwa [State.metered_pulseDone ho ha]),
      if_neg (by rwa [hreached])]
  · let p := s.meteredPosts raw.toNat slot run .cut
    have hlights : p.lights = s.lights := (State.meteredPosts_light .cut).1
    have hframes : p.frames = s.frames := (State.meteredPosts_light .cut).2.1
    have hwalker : p.walker = s.walker := (State.meteredPosts_light .cut).2.2
    have hactive : s.walker.sweep.state ≠ .idle := (hsafe.exposing (howner.trans (congrArg some ho))).1
    have hspent : p.spent slot := ⟨hmounted.trans hm, hreached.2 hr, by rwa [hwalker]⟩
    have hexpiry : s.meterExpiry raw.toNat = p.cutExposure := by
      rw [State.meterExpiry_exposure hrun hm ho hx hn, if_neg (by rwa [State.metered_pulseDone ho ha]),
        if_pos (hreached.2 hr)]
    obtain ⟨u, hu, hsame, hnotes⟩ := meterExpiry_cut hq hactive hspent hexpiry
    rw [hposted] at hnotes
    obtain ⟨hdark, hrunning, hirradiance, hb, -, hcompleted, hdescriptors, hcut, hleft, hright⟩ :=
      hspent.cut_blocks (by rw [hlights]; exact hsafe.one)
        (by rw [State.lightOwner, hlights]; exact howner.trans_ne nofun) hsame
    rw [hframes] at hcompleted hdescriptors
    rw [hframes, hwalker] at hcut
    refine ⟨u, hu, hdark, hrunning, hirradiance, hleft, hright, ?_, fun i hi hne => ?_, fun v hv => ?_, hcompleted,
      fun hwhole i hi => ?_, hcut, ?_⟩
    · exact ((State.meteredPosts_captures .cut).trans p.cutExposure_captures).sameButCapture hsame
    · exact (hb.others i hi hne).trans ((State.entry_chargeFaces hm hi).trans (if_neg hne.symm))
    · exact (hb.doseOf v).trans (hdose v hv)
    · have hmeasured : p.measuredLight = _ := State.metered_measured ho ha
      rw [hdescriptors hwhole i hi, hmeasured, State.frame, hframes]
      rfl
    · exact hnotes
  · let p := s.meteredPosts raw.toNat slot run .pulseEnd
    have hlights : p.lights = s.lights := (State.meteredPosts_light .pulseEnd).1
    have hframes : p.frames = s.frames := (State.meteredPosts_light .pulseEnd).2.1
    have hframe (i : Nat) : p.frame i = s.frame i := by rw [State.frame, hframes]; rfl
    have hexpiry : s.meterExpiry raw.toNat = p.pulseEnd := by
      rw [State.meterExpiry_exposure hrun hm ho hx hn, if_pos ((State.metered_pulseDone ho ha).2 hlast)]
    obtain ⟨t, hexec, hsame⟩ := meterExpiry_pulseEnd hq hexpiry
    rw [hposted] at hexec
    obtain ⟨hdark, hrunning, hirradiance, hleft, hright, hstage, hcustody, hholders, hslot⟩ :=
      State.pulseEnd_blocks (by rw [hlights]; exact hsafe.one)
        (by rw [State.lightOwner, hlights]; exact howner.trans_ne nofun) hsame
    rw [hframes] at hholders hslot
    have hmeasured : p.measuredLight = _ := State.metered_measured ho ha
    have htime : p.cameraConfirmTime = s.cameraConfirmTime := by
      simp only [State.cameraConfirmTime, State.setting, State.word, (State.meteredPosts_captures .pulseEnd).2.1, p]
    refine ⟨t, hexec, hdark, hrunning, hirradiance, hleft, hright, hstage, ?_, ?_, hholders, fun hwhole i hi => ?_⟩
    · rw [hcharged]
      exact hcustody
    · exact ((State.meteredPosts_captures .pulseEnd).trans p.pulseEnd_captures).sameButCapture hsame
    · obtain ⟨htimer, hend⟩ := hslot i hi
      rw [hframe, htime] at htimer
      rw [hend hwhole, hmeasured, ← hlast]
      exact ⟨rfl, htimer, rfl⟩
  · rw [State.meterExpiry_preview hrun hm ho hx hn, if_neg (by rwa [hreached])]
  · rw [hcharged]
    exact meterExpiry_previewEnd hq hsafe (by rw [State.meterExpiry_preview hrun hm ho hx hn, if_pos (hreached.2 hr)])

end Sys2Proof.Machine
end

section
/-! PROOFS. The projection, and the exposure it refuses at CAPTURE OPENING (R117, R118, R148, R155, R156). -/

namespace Sys2Proof.Machine

/-! ### The projection -/

section projection
variable {bank level duration slot : Nat} {s : State}

/-- The dose a projection reckons with (R117). -/
def State.projected (bank level duration : Nat) (s : State) : Nat :=
  projectedDose (s.calibration bank 0).toNat level duration (s.calibration bank 3).toNat

theorem State.projection_pass (hm : s.mountedSlot = some slot)
    (h : ∀ v ∈ s.visible,
      s.custody.doseOf (s.entry slot) v + s.projected bank level duration ≤ (s.entry slot).budget) :
    s.projection bank level duration = .pass (s.projected bank level duration) := by
  have hfind : (s.visible.find? fun v => decide ((s.entry slot).budget <
      s.custody.doseOf (s.entry slot) v + s.projected bank level duration)) = none := by
    simpa only [List.find?_eq_none, decide_eq_true_eq, not_lt] using h
  simp only [State.projection, hm]
  exact hfind ▸ rfl

/-- A projection fails with the first of the visible faces that it carries over the budget (R118). -/
theorem State.projection_fail {before after : List VisibleFace} {v : VisibleFace} (hm : s.mountedSlot = some slot)
    (hv : s.visible = before ++ v :: after)
    (hbefore : ∀ u ∈ before,
      s.custody.doseOf (s.entry slot) u + s.projected bank level duration ≤ (s.entry slot).budget)
    (h : ¬ s.custody.doseOf (s.entry slot) v + s.projected bank level duration ≤ (s.entry slot).budget) :
    s.projection bank level duration =
      .fail (s.projected bank level duration) v (s.custody.doseOf (s.entry slot) v) (s.entry slot).budget := by
  have hfind : (s.visible.find? fun v => decide ((s.entry slot).budget <
      s.custody.doseOf (s.entry slot) v + s.projected bank level duration)) = some v := by
    rw [List.find?_eq_some_iff_append]
    exact ⟨decide_eq_true (not_le.1 h), before, after, hv, fun u hu => by simpa using hbefore u hu⟩
  simp only [State.projection, hm]
  exact hfind ▸ rfl

end projection

/-! ### The end of a sweep that lit nothing -/

section unlit
variable {s : State}

/-- A diversion with nothing in PLANNED. -/
theorem State.divert_nil (hp : s.frames.planned = []) (hw : s.walker.sweep.counts.withdrawn ≤ 4294967295) :
    s.divert = s := by
  obtain ⟨heq, -⟩ := s.divert_eq
  have hpool : s.divert.frames.pool = s.frames.pool := by simp [State.divert, hp, State.onEach]
  rw [hp, List.append_nil, List.length_nil, Nat.add_zero, Nat.min_eq_right hw, ← hpool, ← hp] at heq
  exact heq

/-- The sweep record of a sweep ended. -/
def Sweep.ended (reason : SweepEnd) (w : Sweep) : Sweep :=
  { w with buildPending := false, stage := none, state := .idle, lastEnd := some reason }

/-- The end of a sweep that tears nothing, with nothing in PLANNED to divert (R157, R158). -/
theorem State.endSweep_bare {reason : SweepEnd} (hr : reason.tears = false) (hp : s.frames.planned = [])
    (hw : s.walker.sweep.counts.withdrawn ≤ 4294967295) :
    s.endSweep reason = (s.onSweep (.ended reason)).post ((s.walker.sweep.ended reason).endNotice reason) := by
  rw [State.endSweep, hr, if_neg Bool.false_ne_true, State.divert_nil hp hw]
  rfl

/-- A sweep whose every descriptor is REFUSED, none left in PLANNED and a whole plan passed without a start: it ends
with BUDGET, whichever its mode (R155, R156). -/
theorem State.goOn_allRefused (start : State → State) (hstate : s.walker.sweep.state ≠ .draining)
    (hp : s.frames.planned = []) (hall : s.walker.sweep.allRefused = true)
    (hlength : s.walker.planLength ≤ s.walker.sweep.runWithoutStart + 1)
    (htarget : ∀ target, s.walker.sweep.mode = .count target → s.walker.sweep.counts.taken < target) :
    ∃ run, s.goOn start false =
      (s.onSweep fun w => { w with state := .walking, stage := none, runWithoutStart := run }).endSweep .budget := by
  let walking := s.onSweep fun w => { w with state := .walking, stage := none }
  have hbuild : (walking.countStart false).buildOrEnd start = (walking.countStart false).endSweep .budget := by
    have hall' : (walking.countStart false).walker.sweep.allRefused = true := hall
    rw [State.buildOrEnd, State.runOut, hall', if_pos rfl]
    exact if_pos hlength
  rw [State.goOn, if_neg hstate, State.goOnByMode]
  cases hmode : s.walker.sweep.mode with
  | pass =>
    refine ⟨s.walker.sweep.runWithoutStart, ?_⟩
    have hall' : walking.walker.sweep.allRefused = true := hall
    have hmode' : walking.walker.sweep.mode = .pass := hmode
    have hp' : walking.frames.planned = [] := hp
    simp only [walking] at hall' hmode' hp'
    simp only [hmode', if_pos hp', State.runOut, hall', if_true]
    rfl
  | count target =>
    refine ⟨s.walker.sweep.runWithoutStart + 1, ?_⟩
    have hmode' : walking.walker.sweep.mode = .count target := hmode
    have htaken : ¬ target ≤ walking.walker.sweep.counts.taken := not_le.2 (htarget target hmode)
    simp only [walking] at htaken hmode' hbuild
    simp only [hmode', if_neg htaken, hbuild]
    rfl
  | opened =>
    refine ⟨s.walker.sweep.runWithoutStart + 1, ?_⟩
    have hmode' : walking.walker.sweep.mode = .opened := hmode
    simp only [walking] at hmode' hbuild
    simp only [hmode', hbuild]
    rfl

end unlit

/-! ### The start of an exposure that the projection refuses -/

/-- A sweep that has lit nothing stands in WALKING with the slot empty, and the descriptors of the one entry of its
plan, those of `group`, are all that it built and stand in PLANNED with their projection failing. -/
structure State.overspent (e : PlanEntry) (group : List Nat) (s : State) : Prop where
  walking : s.walker.sweep.state = .walking
  slot : s.frames.slot = []
  planned : s.frames.planned = group
  cameras : group.map (fun i => (s.frame i).camera) = cameraSetList e.cameras
  fields : ∀ i ∈ group, (s.frame i).planEntry = 0 ∧ (s.frame i).bank = e.bank ∧ (s.frame i).level = e.level ∧
    (s.frame i).duration = e.duration
  fails : (s.projection e.bank e.level e.duration).passes = false
  started : s.walker.sweep.started = false
  counts : s.walker.sweep.counts = { SweepCounts.zero with built := group.length }
  length : s.walker.planLength ≤ 1
  target : ∀ target, s.walker.sweep.mode = .count target → 0 < target

/-- The sweep has refused the exposure of `group` and ended (R148, R155 to R158). -/
structure State.hasRefused (group : List Nat) (s t : State) : Prop where
  lights : t.lights = s.lights
  meter : t.meter = s.meter
  custody : t.custody = s.custody
  outbox : t.outbox = s.outbox ++ [t.walker.sweep.endNotice .budget]
  free : t.frames.free = s.frames.free
  planned : t.frames.planned = []
  slot : t.frames.slot = []
  completed : t.frames.completed = s.frames.completed ++ group
  verdict : t.frames.verdict = s.frames.verdict
  frame : group.Nodup → ∀ i, i < 256 →
    t.frame i = if i ∈ group then { s.frame i with status := .refused } else s.frame i
  sweep : ∃ run, t.walker.sweep =
    { s.walker.sweep with
      state := .idle, stage := none, buildPending := false, lastEnd := some .budget, runWithoutStart := run
      counts := { SweepCounts.zero with built := group.length, refused := group.length } }
  port : ∀ camera, t.walker.port camera = s.walker.port camera

namespace State.overspent
variable {e : PlanEntry} {group : List Nat} {s : State}

/-- The whole of PLANNED goes into the slot (R132). -/
theorem fillSlot (h : s.overspent e group) :
    s.fillSlot = s.onFrames fun q => { q with planned := [], slot := group } := by
  have hc := h.cameras
  have hp := h.planned
  have alone (camera : Camera) (hone : group.map (fun i => (s.frame i).camera) = [camera]) :
      s.fillSlot = s.onFrames fun q => { q with planned := [], slot := group } := by
    obtain ⟨a, rfl, -⟩ := List.map_eq_singleton_iff.1 hone
    simp only [State.fillSlot, h.slot, hp]
  cases hset : e.cameras with
  | left => exact alone .left (hc.trans (by rw [hset]; rfl))
  | right => exact alone .right (hc.trans (by rw [hset]; rfl))
  | both =>
    rw [hset] at hc
    obtain ⟨a, more, rfl, ha, hmore⟩ := List.map_eq_cons_iff.1 hc
    obtain ⟨b, rfl, hb⟩ := List.map_eq_singleton_iff.1 hmore
    obtain ⟨hea, -⟩ := h.fields a (by simp)
    obtain ⟨heb, -⟩ := h.fields b (by simp)
    simp only [State.fillSlot, h.slot, hp]
    rw [if_pos ⟨hea.trans heb.symm, by rw [ha, hb]; nofun⟩]

theorem group_length (h : s.overspent e group) : group.length = cameraSetCount e.cameras := by
  have hlength := congrArg List.length h.cameras
  rw [List.length_map] at hlength
  rw [hlength]
  cases e.cameras <;> rfl

/-- The start refuses the exposure and goes on from there. -/
theorem start_eq (h : s.overspent e group) : ∃ next : State → State,
    s.start = (s.onFrames fun q => { q with planned := [], slot := group }).refuseSlot.goOn next false := by
  refine ⟨State.startExposure (s.frames.planned.length + s.walker.planLength + 1), ?_⟩
  show State.startExposure (s.frames.planned.length + s.walker.planLength + 1 + 1) s = _
  unfold State.startExposure
  dsimp only
  rw [h.fillSlot]
  have hpos : 0 < group.length := by
    rw [h.group_length]
    cases e.cameras <;> decide
  obtain ⟨a, more, rfl⟩ := List.exists_cons_of_ne_nil (List.ne_nil_of_length_pos hpos)
  obtain ⟨-, hbank, hlevel, hduration⟩ := h.fields a (List.mem_cons_self ..)
  have hfails : ((s.onFrames fun q => { q with planned := [], slot := a :: more }).projection (s.frame a).bank
      (s.frame a).level (s.frame a).duration).passes = false := by
    rw [hbank, hlevel, hduration]
    exact h.fails
  split
  · next hslot => exact absurd hslot (List.cons_ne_nil a more)
  · next hslot =>
    obtain ⟨rfl, rfl⟩ := List.cons.inj hslot
    split
    · next heq =>
      have hpass := heq ▸ hfails
      exact nomatch hpass
    · rfl

/-- The exposure is refused, and with it the sweep is over. -/
theorem start_refuses (h : s.overspent e group) : s.hasRefused group s.start := by
  obtain ⟨next, hstart⟩ := h.start_eq
  have htwo : group.length ≤ 2 := by
    rw [h.group_length]
    cases e.cameras <;> decide
  let f := s.onFrames fun q => { q with planned := [], slot := group }
  let r := f.refuseSlot
  let refused := { SweepCounts.zero with built := group.length, refused := group.length }
  have hwalker : r.walker = { s.walker with sweep := { s.walker.sweep with counts := refused } } := by
    have hrefused : count32 0 group.length = group.length := by simp only [count32, satAdd]; omega
    simp [r, f, State.refuseSlot, State.onCounts, State.onSweep, h.counts, SweepCounts.zero, hrefused, refused]
  have hsweep := congrArg Walker.sweep hwalker
  have hplanned : r.frames.planned = [] := by simp [r, f, State.refuseSlot, State.completeSlot]
  obtain ⟨run, hrun⟩ := State.goOn_allRefused (s := r) next (by rw [hsweep, h.walking]; nofun) hplanned
    (by rw [hsweep]; simp [Sweep.allRefused, h.started, refused])
    (by rw [hwalker]; exact h.length.trans (Nat.le_add_left 1 _))
    (by rw [hsweep]; exact h.target)
  let w := r.onSweep fun w => { w with state := .walking, stage := none, runWithoutStart := run }
  have hend : s.start = (w.onSweep (.ended .budget)).post ((w.walker.sweep.ended .budget).endNotice .budget) := by
    refine (hstart.trans hrun).trans (State.endSweep_bare rfl hplanned ?_)
    show r.walker.sweep.counts.withdrawn ≤ 4294967295
    rw [hsweep]
    exact Nat.zero_le _
  have hended : s.start.walker.sweep = (w.walker.sweep).ended .budget := by rw [hend]; rfl
  have hframes : s.start.frames = r.frames := by rw [hend]; rfl
  constructor
  case outbox =>
    rw [hended, hend]
    simp [State.post, w, r, f]
  case sweep =>
    refine ⟨run, ?_⟩
    rw [hended]
    show Sweep.ended .budget { r.walker.sweep with state := .walking, stage := none, runWithoutStart := run } = _
    rw [hsweep]
    rfl
  case port =>
    intro camera
    rw [hend]
    show r.walker.port camera = _
    rw [hwalker]
    cases camera <;> rfl
  case frame =>
    intro hn i hi
    rw [State.frame, hframes]
    exact f.frame_onEach group (fun d => { d with status := .refused }) i hi hn
  case lights => rw [hend]; simp [State.post, w, r, f]
  case meter => rw [hend]; simp [State.post, w, r, f]
  case custody => rw [hend]; simp [State.post, w, r, f]
  all_goals rw [hframes]; simp [r, f, State.refuseSlot, State.completeSlot]

end State.overspent

/-! ### CAPTURE OPENING with a plan of one entry -/

/-- What the first build of a plan of one entry takes. -/
theorem Walker.firstJobs_one (mode : SweepMode) {w : Walker} {e : PlanEntry} (hlength : w.planLength = 1)
    (he : w.planAt 0 = some e) :
    w.firstJobs mode = (cameraSetList e.cameras).map fun camera => (0, e, camera) := by
  have hentries : (if mode = .pass then List.range w.planLength else [0]) = [0] := by
    rw [hlength]
    exact ite_self _
  rw [Walker.firstJobs, hentries, List.flatMap_singleton, Walker.jobs, he]

theorem Walker.firstNeed_one (mode : SweepMode) {w : Walker} {e : PlanEntry} (hlength : w.planLength = 1)
    (he : w.planAt 0 = some e) : w.firstNeed mode = if e.cameras = .both then 2 else 1 := by
  rw [← Walker.firstJobs_length, Walker.firstJobs_one mode hlength he, List.length_map]
  cases e.cameras <;> rfl

section opens
variable {mode : SweepMode} {v : VolumeName} {n l : Nat} {s b : State} {first : PlanEntry}

/-- The descriptors taken are for the cameras of the jobs. -/
theorem State.taken.cameras {jobs : List BuildJob} (h : s.taken v n l jobs b) (hwhole : s.frames.whole)
    (hfree : jobs.length ≤ s.frames.free.length) :
    (s.frames.free.take jobs.length).map (fun i => (b.frame i).camera) = jobs.map fun job => job.2.2 := by
  have hwritten := h.written hwhole
  have hlength : (s.frames.free.take jobs.length).length = jobs.length := List.length_take_of_le hfree
  generalize s.frames.free.take jobs.length = group at *
  calc group.map (fun i => (b.frame i).camera)
      = ((group.zip jobs).map Prod.fst).map fun i => (b.frame i).camera := by rw [List.map_fst_zip hlength.le]
    _ = ((group.zip jobs).map Prod.snd).map fun job => job.2.2 := by
      rw [List.map_map, List.map_map]
      exact List.map_congr_left fun p hp => (congrArg Descriptor.camera (hwritten p hp) :)
    _ = jobs.map fun job => job.2.2 := by rw [List.map_snd_zip hlength.ge]

/-- The sweep opens on an exposure that its projection refuses. -/
theorem State.opens.overspent (h : s.opens mode v b) (hm : s.mountedSlot = some v.slot)
    (hlength : s.walker.planLength = 1) (hfirst : s.walker.planAt 0 = some first)
    (hfree : s.walker.firstNeed mode ≤ s.frames.free.length) (hsafe : s.LightSafe)
    (hidle : s.walker.sweep.state = .idle) (hwhole : s.frames.whole)
    (hfails : (s.projection first.bank first.level first.duration).passes = false)
    (htarget : ∀ target, mode = .count target → 0 < target) :
    b.overspent first (s.frames.free.take (s.walker.firstNeed mode)) := by
  obtain ⟨-, -, hslot, hplanned⟩ := hsafe.idle hidle
  obtain ⟨-, hsettings, hcradle, -⟩ := h.captures
  have hjobs := Walker.firstJobs_one mode hlength hfirst
  rw [← Walker.firstJobs_length] at hfree ⊢
  have hgroup : (s.frames.free.take (s.walker.firstJobs mode).length).length = (s.walker.firstJobs mode).length :=
    List.length_take_of_le hfree
  constructor
  case walking => rw [h.walker]; rfl
  case slot => exact h.taken.slot.trans hslot
  case planned => rw [h.taken.planned, hplanned, List.nil_append]
  case cameras =>
    rw [h.taken.cameras hwhole hfree, hjobs, List.map_map]
    exact List.map_id' _
  case fields =>
    intro i hi
    obtain ⟨job, hp⟩ := exists_mem_zip hgroup.le hi
    have hjob := (List.of_mem_zip hp).2
    rw [hjobs] at hjob
    obtain ⟨camera, -, rfl⟩ := List.mem_map.1 hjob
    rw [h.taken.written hwhole _ hp]
    exact ⟨rfl, rfl, rfl, rfl⟩
  case fails =>
    rw [h.booked.projection hcradle hsettings hm]
    exact hfails
  case started => rw [h.walker]; rfl
  case counts =>
    have htwo : (s.walker.firstJobs mode).length ≤ 2 := by
      rw [Walker.firstJobs_length, Walker.firstNeed_one mode hlength hfirst]
      split <;> decide
    rw [hgroup, h.walker]
    simp only [Sweep.firstBuilt]
    rw [Nat.min_eq_right (by omega)]
  case length => rw [h.walker]; exact hlength.le
  case target => rw [h.walker]; exact htarget

end opens

/-- The checks of a CAPTURE OPENING that is accepted (R145). -/
theorem takeCaptureOpening_passes {mode : SweepMode} {slot : Nat} {s : State} (hmode : s.station.mode = .ready)
    (hm : s.mountedSlot = some slot) (hhold : (s.entry slot).hold = none) (hsettings : s.settings.state = .good)
    (hcradle : s.cradle.state = .openReady) (hidle : s.walker.sweep.state = .idle) (hclear : s.guards.clear = true)
    (hplan : s.walker.planLength ≠ 0) (hfree : s.walker.firstNeed mode ≤ s.frames.free.length) :
    takeCaptureOpening mode s =
      accepted (captureReply mode slot (s.entry slot).generation s.cradle.opening (s.walker.firstNeed mode)
        (s.openSweep mode ⟨slot, (s.entry slot).generation⟩).frames.free.length)
        (s.openSweep mode ⟨slot, (s.entry slot).generation⟩).start := by
  simp only [takeCaptureOpening, hmode, hm, hhold, hsettings, hcradle, hidle, hclear, hplan, not_lt.2 hfree, ne_eq,
    not_true_eq_false, Bool.true_eq_false, if_false]
  rfl

/-- The light and the meter once CAPTURE OPENING has ended a preview. -/
theorem State.opens.dark {mode : SweepMode} {v : VolumeName} {s b : State} (h : s.opens mode v b) (hsafe : s.LightSafe)
    (hidle : s.walker.sweep.state = .idle) : b.lights.dark ∧ b.meter.running = none := by
  have hdark := State.stopped_dark s hsafe .stopped rfl .capture
  have hrunning := State.stopped_running s hsafe .stopped rfl .capture
  rw [State.sweepTrip, if_pos hidle] at hdark hrunning
  rw [h.lights, h.meter]
  exact ⟨hdark, hrunning⟩

/-- A descriptor of the first build, refused before its exposure was lit (R116, R130). -/
theorem State.opens.refused_frame {mode : SweepMode} {v : VolumeName} {s b t : State} {need i : Nat}
    (h : s.opens mode v b) (hwhole : s.frames.whole) (hjobs : (s.walker.firstJobs mode).length = need)
    (hfree : need ≤ s.frames.free.length) (g : b.hasRefused (s.frames.free.take need) t)
    (hi : i ∈ s.frames.free.take need) :
    (t.frame i).status = .refused ∧ (t.frame i).measured = none ∧ (t.frame i).frameNumber = none := by
  subst hjobs
  have hlt : i < 256 := Frames.whole_lt hwhole (.inl (List.mem_of_mem_take hi))
  obtain ⟨job, hp⟩ := exists_mem_zip (List.length_take_of_le hfree).le hi
  have hnodup := Frames.whole_take_nodup hwhole (s.walker.firstJobs mode).length (s.walker.firstJobs mode).length
  rw [List.take_take, Nat.min_self] at hnodup
  rw [g.frame hnodup i hlt, if_pos hi, h.taken.written hwhole _ hp]
  exact ⟨rfl, rfl, rfl⟩

/-- The end of the refused sweep posted before FRAMES WAITING is the notices in their order (R134, R158). -/
theorem State.hasRefused.notices {group : List Nat} {s b t : State} (g : b.hasRefused group t) (hb : b.outbox = []) :
    inOrderOfKind (t.outbox ++ s.framesWaiting t) =
      inOrderOfKind (s.framesWaiting t ++ [t.walker.sweep.endNotice .budget]) := by
  have hranks : ∀ ended ∈ [t.walker.sweep.endNotice .budget], ∀ waiting ∈ s.framesWaiting t,
      ended.rank ≠ waiting.rank := by
    intro ended hended waiting hwaits
    rw [State.framesWaiting_rank _ _ _ hwaits, List.mem_singleton.1 hended]
    exact (by decide : 11 ≠ 10)
  rw [g.outbox, hb]
  simpa using inOrderOfKind_swap hranks [] []

/-- Settles O49: the first visible face over the budget fails the projection, and the sweep opened on such an exposure
refuses it and ends. -/
theorem projectionRefusesTheExposure : Obligations.ProjectionRefusesTheExposure := by
  unfold Obligations.ProjectionRefusesTheExposure
  refine ⟨fun bank level duration slot s hm => ?_, ?_⟩
  · intro e p fits
    refine ⟨State.projection_pass hm, fun v rest hv hover => ?_, fun v w rest hv hfit hover => ?_⟩
    · exact State.projection_fail (before := []) hm hv (List.forall_mem_nil _) hover
    · exact State.projection_fail (before := [v]) hm hv (List.forall_mem_singleton.2 hfit) hover
  · intro o mode slot entry v s c e n need p counts h hmode hm hhold hsettings hcradle hidle hbroken hlatch hlength
      hfirst hfree hsafe hwhole hv hover
    have hclear : s.guards.clear = true := by simp [Guards.clear, hbroken, hlatch]
    have hneed : s.walker.firstNeed mode = need := Walker.firstNeed_one mode hlength hfirst
    have hfails : (s.projection entry.bank entry.level entry.duration).passes = false := by
      rw [← Bool.not_eq_true, State.projection_passes_iff _ _ _ _ _ hm]
      exact fun hfits => absurd (hfits v hv) (not_le.2 hover)
    have htarget (target : Nat) (ht : mode = .count target) : 0 < target := by
      have hrange := h.2.2.2
      subst ht
      simp only [c, linkRangeOk, within, Bool.and_eq_true, decide_eq_true_eq] at hrange
      exact hrange.1
    rw [← hneed] at hfree
    obtain ⟨b, u, hopens, hu, hreq, hsame, hnotes⟩ := captureOpening_accepted h hm hfree
      (takeCaptureOpening_passes (s := s.heard o) hmode hm hhold hsettings hcradle hidle hclear
        (by rw [State.heard_walker, hlength]; decide) hfree)
    have hspent := hopens.overspent hm hlength hfirst hfree (hsafe.heard o) hidle hwhole hfails htarget
    have hrefused := hspent.start_refuses
    have hjobs : (s.walker.firstJobs mode).length = need := (Walker.firstJobs_length mode s.walker).trans hneed
    have htaken := hopens.taken
    obtain ⟨hdark, hrunning⟩ := hopens.dark (hsafe.heard o) hidle
    obtain ⟨run, hsweep⟩ := hrefused.sweep
    simp only [State.heard_walker, State.heard_frames, hneed] at hreq hrefused hsweep hfree
    have hgroup : (s.frames.free.take need).length = need := List.length_take_of_le hfree
    have hentry (i : Nat) : u.entry i = b.entry i := by
      rw [State.entry, hsame.custody, hrefused.custody]
      rfl
    refine ⟨u, hu, ?_, ?_, ?_, ?_, ?_, ?_, ?_, ?_, fun i hi => ?_, ?_, ?_, ?_, ?_, ?_, ?_, fun camera => ?_,
      fun i hi hne => ?_, ?_, ?_, ?_⟩
    · cases mode <;> exact hreq
    · rw [hsame.lights, hrefused.lights]; exact hdark
    · rw [hsame.meter, hrefused.meter]; exact hrunning
    · rw [hsame.frames, hrefused.free, htaken.free]; exact congrArg (s.frames.free.drop ·) hjobs
    · rw [hsame.frames]; exact hrefused.planned
    · rw [hsame.frames]; exact hrefused.slot
    · rw [hsame.frames, hrefused.completed, htaken.completed]; rfl
    · rw [hsame.frames, hrefused.verdict, htaken.verdict]; rfl
    · rw [State.frame, hsame.frames]
      exact hopens.refused_frame hwhole hjobs hfree hrefused hi
    · rw [hsame.walker, hsweep]
    · rw [hsame.walker, hsweep]
    · rw [hsame.walker, hsweep, hopens.walker]; rfl
    · rw [hsame.walker, hsweep]
    · rw [hsame.walker, hsweep]
    · rw [hsame.walker, hsweep, hgroup]
    · rw [hsame.walker, hrefused.port, hopens.walker]
      cases camera <;> exact ⟨rfl, rfl⟩
    · exact (hentry i).trans (hopens.booked.others i hi hne)
    · rw [hentry, ← hjobs]; exact htaken.entry
    · exact (hopens.captures.trans b.start_captures).sameButCapture hsame
    · have hnotice : b.start.walker.sweep.endNotice .budget = .sweepEnded .budget mode slot e.generation n counts := by
        rw [hsweep, hgroup, hopens.walker]
        rfl
      have hwaiting : s.framesWaiting u = s.framesWaiting b.start := by rw [State.framesWaiting, hsame.frames]; rfl
      rw [hwaiting, ← hnotice]
      exact hnotes.congr (hrefused.notices (hopens.outbox.trans h.1))

end Sys2Proof.Machine
end

section
/-! PROOFS. Every command keeps each descriptor in exactly one of the five holders (R128, R130 to R133). -/

namespace Sys2Proof.Machine

/-- Where each descriptor of `s` is in exactly one holder, so is each of `t`. -/
def State.keepsWhole (s t : State) : Prop := s.frames.whole → t.frames.whole

section whole
variable {s t u : State}

theorem State.keepsWhole.refl (s : State) : s.keepsWhole s := id

theorem State.keepsWhole.trans (h : s.keepsWhole t) (g : t.keepsWhole u) : s.keepsWhole u := g ∘ h

/-- What leaves the frame queue alone. -/
theorem State.keepsWhole.of_frames (h : t.frames = s.frames) : s.keepsWhole t := fun hs => by rwa [h]

/-- The motions of the cradle move no descriptor. -/
theorem State.motionFrame.keepsWhole (m : s.motionFrame t) : s.keepsWhole t := by
  obtain ⟨-, -, -, -, -, hframes, -⟩ := m
  exact .of_frames hframes

/-- An event that is taken only when something changes. -/
theorem State.keepsWhole.change {p : Prop} [Decidable p] (h : s.keepsWhole t) :
    s.keepsWhole (if p then s else t) := by
  split
  · exact .refl s
  · exact h

/-- A check of a request: what is past it decides. -/
theorem State.keepsWhole.check {p : Prop} [Decidable p] {result : Result} {body : List Byte} {past : Served}
    (h : ¬ p → s.keepsWhole past.state) : s.keepsWhole (if p then refuse result body s else past).state := by
  split
  · exact .refl s
  · next hp => exact h hp

/-- The checks of the requests that name a volume (R3): past them it is in custody. -/
theorem State.keepsWhole.named {slot generation : Nat} {act : CustodyEntry → Served}
    (h : s.keepsWhole (act (s.entry slot)).state) : s.keepsWhole (s.named slot generation act).state :=
  .check fun _ => .check fun _ => h

/-- A sensor changes: a motion takes it, or it is only noted. -/
theorem State.keepsWhole.sensor {p : Prop} [Decidable p] {f : Sensors → Sensors} {take : State → State}
    (h : ∀ u : State, u.motionFrame (take u)) : s.keepsWhole (if p then s else take (s.onSensors f)) :=
  .change ((State.onSensors_keeps f s).trans (h _)).keepsWhole

/-- An expiry of a timer of a turn. -/
theorem State.keepsWhole.turnExpiry {running : CradleTimers → Option Nat} {act : State → State}
    (h : s.motionFrame (act s)) : s.keepsWhole (s.turnExpiry running act) := by
  unfold State.turnExpiry
  split
  · exact h.keepsWhole
  · exact .refl s

theorem whole_undisturbed : Undisturbed fun s => s.frames.whole where
  links _ _ h := h
  outbox _ _ h := h
  pending _ _ h := h

theorem request_whole {c : Instr} {o : Origin} {take : State → Served} (h : s.frames.whole)
    (hr : request c o take s = .next t) (ht : ∀ s : State, s.keepsWhole (take s).state) : t.frames.whole :=
  whole_undisturbed.request ht h hr

theorem event_whole {f : State → State} (h : s.frames.whole) (hr : event f s = .next t) (hf : s.keepsWhole (f s)) :
    t.frames.whole :=
  whole_undisturbed.event hf h hr

end whole

/-! ### The requests that move descriptors -/

section moves
variable (s : State)

theorem takeTakeFrames_keepsWhole (largest : Nat) : s.keepsWhole (takeTakeFrames largest s).state :=
  Frames.take_whole s.frames largest

/-- A verdict moves a descriptor of VERDICT to FREE, and a pending build may take it from there (R131, R147). -/
theorem State.freeByVerdict_keepsWhole {index : Nat} (hi : index ∈ s.frames.verdict) :
    s.keepsWhole (s.freeByVerdict index) :=
  fun hs => State.tryPendingBuild_whole _ (State.returnToFree_whole index s hs hi)

theorem takeAcceptFrame_keepsWhole (index generation : Nat) :
    s.keepsWhole (takeAcceptFrame index generation s).state := by
  refine .check fun _ => .check fun hholder => .check fun _ => ?_
  have hframes := State.bookCoverage_frames (s.frame index).volume.slot (s.frame index).face (s.frame index).bank s
  refine .trans (.of_frames hframes) (State.freeByVerdict_keepsWhole _ ?_)
  rw [hframes]
  exact Frames.holder_verdict (Decidable.not_not.1 hholder)

theorem takeRejectFrame_keepsWhole (index generation : Nat) :
    s.keepsWhole (takeRejectFrame index generation s).state :=
  .check fun _ => .check fun hholder =>
    s.freeByVerdict_keepsWhole (Frames.holder_verdict (Decidable.not_not.1 hholder))

theorem State.buildEntries_whole (indices : List Nat) (s : State) (h : s.frames.whole) :
    (indices.foldl (fun s i => s.buildEntry i) s).frames.whole := by
  induction indices generalizing s with
  | nil => exact h
  | cons i rest ih => exact ih _ (State.buildEntry_whole i s h)

theorem State.firstBuild_whole (mode : SweepMode) (h : s.frames.whole) : (s.firstBuild mode).frames.whole := by
  cases mode with
  | pass => exact State.buildEntries_whole _ s h
  | count _ => exact State.buildEntry_whole 0 s h
  | opened => exact State.buildEntry_whole 0 s h

theorem takeCaptureOpening_keepsWhole (mode : SweepMode) : s.keepsWhole (takeCaptureOpening mode s).state := by
  refine .check fun _ => ?_
  split
  · exact .refl s
  · refine .check fun _ => .check fun _ => .check fun _ => .check fun _ => .check fun _ => .check fun _ =>
      .check fun _ hs => State.start_whole _ (State.firstBuild_whole _ mode ?_)
    simpa using hs

theorem takeCloseOpening_keepsWhole : s.keepsWhole (takeCloseOpening s).state := by
  refine .check fun _ => ?_
  split
  · exact .refl s
  · intro hs
    have hdivert := State.divert_whole s hs
    dsimp only [okay, State.closeSweep]
    split
    · exact State.endSweep_whole _ _ hdivert
    · exact hdivert

theorem takeStopSweep_keepsWhole : s.keepsWhole (takeStopSweep s).state :=
  .check fun _ hs => State.endSweep_whole _ s hs

theorem takeSetBudget_keepsWhole (slot generation faceBudget : Nat) :
    s.keepsWhole (takeSetBudget slot generation faceBudget s).state := by
  refine .named (.check fun _ hs => ?_)
  dsimp only [okay]
  split
  · exact State.budgetChanged_whole slot _ hs
  · exact hs

theorem takeDismount_keepsWhole (slot generation : Nat) : s.keepsWhole (takeDismount slot generation s).state := by
  refine .check fun _ => .check fun _ => .check fun _ => .check fun _ hs => ?_
  obtain ⟨-, -, hframes, -⟩ := s.dismount_stopped slot
  exact hframes ▸ State.sweepTrip_whole .dismounted s hs

/-- RESTART returns every descriptor to FREE (R131). -/
theorem takeRestart_keepsWhole : s.keepsWhole (takeRestart s).state := by
  refine .check fun _ hs => ?_
  obtain ⟨-, -, -, -, -, -, hframes, -⟩ := s.restart_blocks
  exact hframes ▸ Frames.restart_whole s.frames hs

end moves

/-! ### The trips: an active sweep is torn, whatever else they stop (R157, R159) -/

section trips
variable (s : State)

theorem State.stopLightAndSweep_keepsWhole (reason : SweepEnd) (cause : PreviewEnd) (trip : StopCause) :
    s.keepsWhole ((s.stopLightAndSweep reason cause).cradleTrip trip) :=
  .trans (State.stopLightAndSweep_whole reason cause s) (State.cradleTrip_keeps trip _).keepsWhole

theorem State.curtainBreaks_keepsWhole : s.keepsWhole s.curtainBreaks := by
  have trip := (s.onGuards fun g =>
    { g with curtainBroken := true, curtainLatch := true }).stopLightAndSweep_keepsWhole .guard .guard .guard
  unfold State.curtainBreaks
  dsimp only
  split <;> exact trip

theorem State.enterHalted_keepsWhole (cause : ModeCause) : s.keepsWhole (s.enterHalted cause) :=
  (s.setMode .halted cause).stopLightAndSweep_keepsWhole .halted .halt .halt

theorem State.stopKeyPressed_keepsWhole : s.keepsWhole s.stopKeyPressed := by
  let pressed := s.onGuards fun g => { g with stopPressed := true, stopLatch := true }
  have halted : s.keepsWhole (if s.station.mode = .ready then pressed.enterHalted .stopKey else pressed) := by
    split
    · exact pressed.enterHalted_keepsWhole .stopKey
    · exact .of_frames rfl
  unfold State.stopKeyPressed
  dsimp only
  split <;> exact halted

theorem takeHalt_keepsWhole : s.keepsWhole (takeHalt s).state := by
  unfold takeHalt
  split
  · exact .refl s
  · exact .refl s
  · exact s.enterHalted_keepsWhole .halt

theorem State.settingsGood_frames (source : SettingsSource) (sum : Nat) :
    (s.settingsGood source sum).frames = s.frames := by
  unfold State.settingsGood
  dsimp only
  split <;> rfl

theorem State.verify_keepsWhole : s.keepsWhole s.verify := by
  unfold State.verify
  dsimp only
  split
  · exact .of_frames (State.settingsGood_frames _ _ _)
  · have faulted : s.keepsWhole (((s.onSettings fun t => { t with lastSum := settingsSum s.settings.words }).onSettings
        fun t => { t with state := .fault }).settingsFault .periodic) :=
      State.stopLightAndSweep_keepsWhole (s.onSettings fun t =>
        { t with lastSum := settingsSum s.settings.words, state := .fault }) .settings .settings .settings
    exact faulted
  · exact .of_frames rfl
  · exact .of_frames rfl

end trips

/-! ### The requests that move none -/

section others
variable (s : State)

theorem takeCheckIn_frames (shelfMark : List Byte) (designation : Option (List Byte)) (accession leafCount : Nat) :
    (takeCheckIn shelfMark designation accession leafCount s).state.frames = s.frames := by
  unfold takeCheckIn
  split <;> rfl

theorem takeMount_keepsWhole (slot generation opening : Nat) :
    s.keepsWhole (takeMount slot generation opening s).state :=
  .check fun _ => .check fun _ => .check fun _ => .check fun _ => .check fun _ => .check fun _ => .check fun _ =>
    .check fun _ => .check fun _ => .of_frames (by simp [accepted, State.mountAt])

theorem takeTurn_keepsWhole (direction : Direction) (count requestedClass : Nat) :
    s.keepsWhole (takeTurn direction count requestedClass s).state := by
  refine .check fun _ => ?_
  split
  · exact .refl s
  · exact .check fun _ => .check fun _ => .check fun _ => .check fun _ => .check fun _ => .check fun _ =>
      .of_frames (by simp [accepted, State.beginTurn])

theorem takeRecoverTurn_keepsWhole (opening : Nat) : s.keepsWhole (takeRecoverTurn opening s).state := by
  refine .check fun _ => .check fun _ => .check fun _ => ?_
  dsimp only [okay, State.recoverTo]
  split
  · exact ((State.onCradle_keeps _ s).trans (State.beginSettling_keeps _)).keepsWhole
  · exact (State.beginRecovery_keeps opening s).keepsWhole

theorem takePreviewOn_keepsWhole (level : Nat) : s.keepsWhole (takePreviewOn level s).state := by
  refine .check fun _ => ?_
  split
  · exact .refl s
  · refine .check fun _ => .check fun _ => .check fun _ => .check fun _ => ?_
    split
    · exact .refl s
    · refine .check fun _ => .of_frames ?_
      dsimp only [okay, State.grantPreview]
      split <;> rfl

theorem takeSetPlanLength_keepsWhole (length : Nat) : s.keepsWhole (takeSetPlanLength length s).state := by
  refine .check fun _ => ?_
  split <;> exact .of_frames rfl

theorem takeEnterReady_keepsWhole : s.keepsWhole (takeEnterReady s).state := by
  refine .check fun _ => .check fun _ => ?_
  split
  · exact .refl s
  · exact .of_frames (s.settingsGood_frames _ _)

theorem State.takeFrame_frames (link : Link) (frame : Frame) : (s.takeFrame link frame).frames = s.frames := by
  cases frame with
  | whole tag code body check =>
    simp only [State.takeFrame, State.arrive, State.checkFrame]
    (repeat' split) <;> rfl
  | overlong tag code length =>
    simp only [State.takeFrame, State.arrive]
    (repeat' split) <;> rfl

end others

/-- Every command keeps each descriptor in exactly one holder: those that move descriptors move each from one holder to the
next (R130 to R133), a device reset sets all in FREE, and no other command touches the queues. -/
theorem exec_whole : ∀ (c : Instr) (s t : State), s.frames.whole → exec c s = .next t → t.frames.whole
  | .deviceReset, s, t, _, hr => by
    obtain rfl : s.cleared.beginParking 1 none = t := Host.Outcome.next.inj hr
    obtain ⟨-, -, -, reset, -⟩ := invariantsHoldAtReset
    exact (s.cleared.beginParking_keeps 1 none).keepsWhole reset
  | .requestFrameComplete link frame, s, t, h, hr =>
    event_whole h (show execRequestFrameComplete link frame s = .next t from hr)
      (.change (.of_frames (s.takeFrame_frames link frame)))
  | .replySent link, s, t, h, hr =>
    event_whole h (show execReplySent link s = .next t from hr) (.of_frames rfl)
  | .linkIdleTimeout link, s, t, h, hr =>
    event_whole h (show execLinkIdleTimeout link s = .next t from hr) (.of_frames rfl)
  | .startByte link, s, t, h, hr =>
    event_whole h (show execStartByte link s = .next t from hr) (by split; exacts [.of_frames rfl, .refl s])
  | .checkIn .., _, _, h, hr => request_whole h hr fun s => .of_frames (takeCheckIn_frames s _ _ _ _)
  | .setHandling .., _, _, h, hr => request_whole h hr fun _ => .check fun _ => .check fun _ => .of_frames rfl
  | .setBudget .., _, _, h, hr => request_whole h hr fun s => takeSetBudget_keepsWhole s _ _ _
  | .hold .., _, _, h, hr => request_whole h hr fun _ => .named (.of_frames rfl)
  | .unhold .., _, _, h, hr => request_whole h hr fun _ => .named (.of_frames rfl)
  | .waive .., _, _, h, hr => request_whole h hr fun _ => .named (.of_frames rfl)
  | .mount .., _, _, h, hr => request_whole h hr fun s => takeMount_keepsWhole s _ _ _
  | .dismount .., _, _, h, hr => request_whole h hr fun s => takeDismount_keepsWhole s _ _
  | .release .., _, _, h, hr => request_whole h hr fun _ =>
      .check fun _ => .check fun _ => .check fun _ => .check fun _ => .check fun _ => .of_frames rfl
  | .listCustody .., _, _, h, hr => request_whole h hr .refl
  | .readCustody .., _, _, h, hr => request_whole h hr .refl
  | .markLeaf .., _, _, h, hr => request_whole h hr fun _ =>
      .named (.check fun _ => .check fun _ => .of_frames rfl)
  | .setRequirement .., _, _, h, hr => request_whole h hr fun _ => .named (.of_frames rfl)
  | .readLeaf _ slot leaf, _, _, h, hr =>
    request_whole h hr fun s => (takeReadLeaf_state slot leaf s).symm ▸ .refl s
  | .turn .., _, _, h, hr => request_whole h hr fun s => takeTurn_keepsWhole s _ _ _
  | .approveTurn .., _, _, h, hr => request_whole h hr fun _ => .named (.check fun _ => .of_frames rfl)
  | .resume _, _, _, h, hr => request_whole h hr fun s =>
      .check fun _ => .check fun _ => .check fun _ => .check fun _ => (State.resumeWork_keeps s).keepsWhole
  | .recoverTurn .., _, _, h, hr => request_whole h hr fun s => takeRecoverTurn_keepsWhole s _
  | .clearReference .., _, _, h, hr => request_whole h hr fun _ => .named (.of_frames rfl)
  | .confirmPick .., _, _, h, hr => request_whole h hr fun _ =>
      .check fun _ => .check fun _ => (State.enterCarry_keeps _).keepsWhole
  | .rejectPick .., _, _, h, hr => request_whole h hr fun s =>
      .check fun _ => .check fun _ => (State.enterDrop_keeps .rejected s).keepsWhole
  | .ackGuard _, _, _, h, hr => request_whole h hr fun _ => .check fun _ => .of_frames rfl
  | .previewOn .., _, _, h, hr => request_whole h hr fun s => takePreviewOn_keepsWhole s _
  | .previewOff _, _, _, h, hr => request_whole h hr fun _ => .of_frames (by simp [takePreviewOff, okay])
  | .takeFrames .., _, _, h, hr => request_whole h hr fun s => takeTakeFrames_keepsWhole s _
  | .acceptFrame .., _, _, h, hr => request_whole h hr fun s => takeAcceptFrame_keepsWhole s _ _
  | .rejectFrame .., _, _, h, hr => request_whole h hr fun s => takeRejectFrame_keepsWhole s _ _
  | .setPlanEntry .., _, _, h, hr => request_whole h hr fun _ => .check fun _ => .of_frames rfl
  | .setPlanLength .., _, _, h, hr => request_whole h hr fun s => takeSetPlanLength_keepsWhole s _
  | .readPlan .., _, _, h, hr => request_whole h hr .refl
  | .captureOpening .., _, _, h, hr => request_whole h hr fun s => takeCaptureOpening_keepsWhole s _
  | .closeOpening _, _, _, h, hr => request_whole h hr takeCloseOpening_keepsWhole
  | .stopSweep _, _, _, h, hr => request_whole h hr takeStopSweep_keepsWhole
  | .setSetting .., _, _, h, hr => request_whole h hr fun _ => .check fun _ => .of_frames rfl
  | .readSetting .., _, _, h, hr => request_whole h hr .refl
  | .enterReady _, _, _, h, hr => request_whole h hr takeEnterReady_keepsWhole
  | .enterMaintenance _, _, _, h, hr => request_whole h hr fun _ => .check fun _ => .check fun _ => .of_frames rfl
  | .halt _, _, _, h, hr => request_whole h hr takeHalt_keepsWhole
  | .clearHalt _, _, _, h, hr => request_whole h hr fun _ =>
      .check fun _ => .check fun _ => .check fun _ => .of_frames rfl
  | .restart _, _, _, h, hr => request_whole h hr takeRestart_keepsWhole
  | .readStatus _, _, _, h, hr => request_whole h hr .refl
  | .takeNotices .., _, _, h, hr => request_whole h hr fun _ => .of_frames rfl
  | .curtainBroken, s, t, h, hr =>
    event_whole h (show execCurtainBroken s = .next t from hr) (.change s.curtainBreaks_keepsWhole)
  | .curtainClear, s, t, h, hr =>
    event_whole h (show execCurtainClear s = .next t from hr) (.of_frames rfl)
  | .stopKeyPress, s, t, h, hr =>
    event_whole h (show execStopKeyPress s = .next t from hr) (.change s.stopKeyPressed_keepsWhole)
  | .stopKeyRelease, s, t, h, hr =>
    event_whole h (show execStopKeyRelease s = .next t from hr) (.of_frames rfl)
  | .angleChange degrees, s, t, h, hr =>
    event_whole h (show execAngleChange degrees s = .next t from hr)
      (.sensor State.angleTaken_keeps)
  | .wandDownChange level, s, t, h, hr =>
    event_whole h (show execWandDownChange level s = .next t from hr)
      (.sensor (State.wandDownTaken_keeps level))
  | .vacuumHeldChange level, s, t, h, hr =>
    event_whole h (show execVacuumHeldChange level s = .next t from hr)
      (.sensor (State.vacuumHeldTaken_keeps level))
  | .armFarChange level, s, t, h, hr =>
    event_whole h (show execArmFarChange level s = .next t from hr)
      (.sensor (State.armFarTaken_keeps level))
  | .armRestChange level, s, t, h, hr =>
    event_whole h (show execArmRestChange level s = .next t from hr)
      (.sensor State.armRestTaken_keeps)
  | .cameraReadyChange camera level, s, t, h, hr =>
    event_whole h (show execCameraReadyChange camera level s = .next t from hr)
      (.change fun hs => State.readyTaken_whole camera _ (by simpa using hs))
  | .doneEdge camera, s, t, h, hr =>
    event_whole h (show execDoneEdge camera s = .next t from hr) (State.doneTaken_whole camera s)
  | .storeUpset index value, s, t, h, hr =>
    event_whole h (show execStoreUpset index value s = .next t from hr) (.of_frames rfl)
  | .angleTimerExpiry, s, t, h, hr =>
    event_whole h (show execAngleTimerExpiry s = .next t from hr) s.angleTimeout_keeps.keepsWhole
  | .liftTimeout, s, t, h, hr =>
    event_whole h (show execLiftTimeout s = .next t from hr) (.turnExpiry (s.turnFault_keeps _ _))
  | .carryTimeout, s, t, h, hr =>
    event_whole h (show execCarryTimeout s = .next t from hr) (.turnExpiry (s.turnFault_keeps _ _))
  | .layTimeout, s, t, h, hr =>
    event_whole h (show execLayTimeout s = .next t from hr) (.turnExpiry (s.turnFault_keeps _ _))
  | .settleTimerExpiry, s, t, h, hr =>
    event_whole h (show execSettleTimerExpiry s = .next t from hr) (.turnExpiry s.settleEnd_keeps)
  | .pickConfirmTimeout, s, t, h, hr =>
    event_whole h (show execPickConfirmTimeout s = .next t from hr) (.turnExpiry (s.enterDrop_keeps .unconfirmed))
  | .recoveryTimerExpiry, s, t, h, hr =>
    event_whole h (show execRecoveryTimerExpiry s = .next t from hr) s.recoveryTimeout_keeps.keepsWhole
  | .gaugeGateExpiry, s, t, h, hr =>
    event_whole h (show execGaugeGateExpiry s = .next t from hr) s.gateEnd_keeps.keepsWhole
  | .meteringIntervalExpiry raw, s, t, h, hr =>
    event_whole h (show execMeteringIntervalExpiry raw s = .next t from hr) (State.meterExpiry_whole raw.toNat s)
  | .cameraReadyTimeout camera, s, t, h, hr =>
    event_whole h (show execCameraReadyTimeout camera s = .next t from hr) (State.readyTimeout_whole camera s)
  | .cameraConfirmTimeout camera, s, t, h, hr =>
    event_whole h (show execCameraConfirmTimeout camera s = .next t from hr) (State.confirmTimeout_whole camera s)
  | .verificationTimerExpiry, s, t, h, hr =>
    event_whole h (show execVerificationTimerExpiry s = .next t from hr) s.verify_keepsWhole
  | .pendingBuild, s, t, h, hr =>
    event_whole h (show execPendingBuild s = .next t from hr) (State.tryPendingBuild_whole s)
  | .oscillatorCycle, s, t, h, hr =>
    event_whole h (show execOscillatorCycle s = .next t from hr) (.of_frames rfl)

/-- Settles O7: every move between the holders takes a descriptor from one and sets it in another. -/
theorem descriptorsStayInOneHolder : Obligations.DescriptorsStayInOneHolder := by
  unfold Obligations.DescriptorsStayInOneHolder
  exact step_keeps whole_undisturbed exec_whole

end Sys2Proof.Machine
end

section
/-! PROOFS. The notices owed by the slot emptied under an IDLE sweep. -/

namespace Sys2Proof.Machine

/-- A descriptor CONFIRMING in the slot while the sweep record, of mode OPEN with a plan of one entry, stands in IDLE; the
one face in view is over its budget, which is 0. By R132 the slot of an IDLE sweep is empty, but `SweepsGoOnOrEnd` does not
assume it. -/
def confirmingUnderIdle : State :=
  { State.reset with
    custody :=
      { entries := Vec.put (Vector.replicate 8 (.free 0)) 0 { CustodyEntry.free 1 with state := .mounted, leafCount := 1 }
        leaves := [(0, { LeafRecord.fresh with recto := { LeafRecord.fresh.recto with dose := 1 } })]
        nextSequence := 2 }
    frames :=
      { State.reset.frames with
        pool := Vec.edit State.reset.frames.pool 0 fun d => { d with camera := .left, status := .confirming }
        free := (List.range 256).drop 1
        slot := [0] }
    walker :=
      { State.reset.walker with
        plan := Vec.put State.reset.walker.plan 0 (some { cameras := .left, bank := 0, level := 0, duration := 0 })
        planLength := 1
        sweep := { State.reset.walker.sweep with mode := .opened, started := true } } }

/-- The state its DONE edge leaves: the next exposure built and refused, the sweep ended EXHAUSTED. -/
def confirmedUnderIdle : State := confirmingUnderIdle.finish (confirmingUnderIdle.doneTaken .left)

/-- The DONE edge posts FRAMES WAITING and SWEEP ENDED; of a sweep that was IDLE `State.captureNotices` names the first
alone. -/
theorem confirmingUnderIdle_notices :
    (confirmedUnderIdle.port .capture).notices.length = 2 ∧
      ((confirmingUnderIdle.port .capture).receive (confirmingUnderIdle.captureNotices confirmedUnderIdle)
        .capture).notices.length = 1 := by
  constructor <;> decide +kernel

/-- Refutes O56: in the clause of a refused next exposure no hypothesis has the sweep active. The slot of an IDLE sweep
empties by a DONE edge, the next exposure is refused, and the end of the sweep is posted as SWEEP ENDED, which
`State.captureNotices` leaves out because the sweep was IDLE before. -/
theorem not_sweepsGoOnOrEnd : ¬ Obligations.SweepsGoOnOrEnd := by
  unfold Obligations.SweepsGoOnOrEnd
  intro h
  have whole : confirmingUnderIdle.frames.whole := by show List.Perm _ _; decide +kernel
  obtain ⟨-, -, -, -, build, -⟩ := h .left .taken 0 confirmingUnderIdle rfl rfl (by decide) (by decide +kernel)
    (by decide +kernel)
  obtain ⟨-, -, refused⟩ := build { cameras := .left, bank := 0, level := 0, duration := 0 } nofun trivial (by decide +kernel)
    (by decide +kernel)
  obtain ⟨t, ht, hclauses⟩ := refused (by decide +kernel) whole rfl (by decide +kernel) (by decide +kernel) rfl rfl rfl
  obtain rfl : confirmedUnderIdle = t := Host.Outcome.next.inj ht
  obtain ⟨-, -, -, -, -, -, -, -, -, -, -, hnotified⟩ := hclauses
  obtain ⟨hnotices, -⟩ := hnotified .capture
  obtain ⟨htwo, hone⟩ := confirmingUnderIdle_notices
  rw [hnotices, hone] at htwo
  exact absurd htwo (by decide)

end Sys2Proof.Machine
end

section
/-! PROOFS. The ends of a sweep that tear nothing; CLOSE OPENING and STOP SWEEP (R133, R134, R157, R158, R160, R161). -/

namespace Sys2Proof.Machine

/-- The work of the sweep leaves the links alone. -/
theorem State.captureFrame.links {s t : State} (h : s.captureFrame t) : t.links = s.links := by
  obtain ⟨-, -, -, -, -, hlinks, -⟩ := h
  exact hlinks

/-! ### The notices of an event that ends a sweep -/

/-- The end of a sweep is told with slot 255 where the record has no volume (R158, log 27). -/
theorem Sweep.endNotice_eq (reason : SweepEnd) (w : Sweep) :
    w.endNotice reason = .sweepEnded reason w.mode (w.volume.getD ⟨255, 0⟩).slot (w.volume.getD ⟨255, 0⟩).generation
      (w.opening.getD 0) w.counts := by
  unfold Sweep.endNotice
  cases w.volume <;> rfl

/-- SWEEP ENDED and FRAMES WAITING are of different kinds, so that either may be posted first (R190). -/
theorem State.notified.waiting_first {s t u : State} {ended : List Notice}
    (h : s.notified u (ended ++ s.framesWaiting t))
    (hr : ∀ n ∈ ended, n.rank = 11) : s.notified u (s.framesWaiting t ++ ended) := by
  refine h.congr ?_
  have hkinds : ∀ n ∈ ended, ∀ m ∈ s.framesWaiting t, n.rank ≠ m.rank := by
    intro n hn m hm
    rw [hr n hn, State.framesWaiting_rank s t m hm]
    decide
  simpa using inOrderOfKind_swap hkinds [] []

/-- FRAMES WAITING is owed by COMPLETED alone (R134). -/
theorem State.framesWaiting_eq {s t : State} {completed : List Nat} (h : t.frames.completed = completed) :
    s.framesWaiting t =
      if s.frames.completed = [] ∧ completed ≠ [] then [Notice.framesWaiting completed.length] else [] := by
  rw [State.framesWaiting, h]

/-! ### The diversion of PLANNED, and the end after it -/

/-- The sweep record with descriptors withdrawn (R133, R143). -/
def Sweep.withdrew (n : Nat) (w : Sweep) : Sweep :=
  { w with counts := { w.counts with withdrawn := min 4294967295 (w.counts.withdrawn + n) } }

section divert
variable (s : State)

/-- The diversion withdraws the descriptors of PLANNED. -/
theorem State.divert_walker :
    s.divert.walker = { s.walker with sweep := s.walker.sweep.withdrew s.frames.planned.length } :=
  (congrArg State.walker s.divert_eq.1 :)

/-- What the diversion leaves in the five holders (R133). -/
theorem State.divert_holders :
    s.divert.frames.free = s.frames.free ∧ s.divert.frames.planned = [] ∧ s.divert.frames.slot = s.frames.slot ∧
      s.divert.frames.completed = s.frames.completed ++ s.frames.planned ∧
      s.divert.frames.verdict = s.frames.verdict := by
  have hf := congrArg State.frames s.divert_eq.1
  exact ⟨(congrArg Frames.free hf :), (congrArg Frames.planned hf :), (congrArg Frames.slot hf :),
    (congrArg Frames.completed hf :), (congrArg Frames.verdict hf :)⟩

/-- The descriptors diverted are WITHDRAWN (R133). -/
theorem State.divert_withdrawn {i : Nat} (hi : i ∈ s.frames.planned) (hlt : i < 256) :
    (s.divert.frame i).status = .withdrawn :=
  State.onEach_makes (Q := fun d => d.status = .withdrawn) (fun _ => rfl) s.frames.planned s hi hlt

/-- With nothing in PLANNED the diversion moves no descriptor. -/
theorem State.divert_empty (hp : s.frames.planned = []) : s.divert = s.onSweep (.withdrew 0) := by
  have hpool : s.divert.frames.pool = s.frames.pool := by simp [State.divert, hp, State.onEach]
  have heq := s.divert_eq.1
  rw [hp, List.append_nil, List.length_nil, ← hpool, ← hp] at heq
  exact heq

variable {s} {reason : SweepEnd}

/-- The end of a sweep that tears nothing (R157): the diversion, then the record IDLE and SWEEP ENDED. -/
theorem State.endSweep_untorn (hr : reason.tears = false) :
    s.endSweep reason = (s.divert.onSweep (.ended reason)).post (s.divert.walker.sweep.endNotice reason) := by
  rw [State.endSweep, hr, if_neg Bool.false_ne_true]
  rfl

/-- The same with nothing in PLANNED. -/
theorem State.endSweep_untorn_empty (hr : reason.tears = false) (hp : s.frames.planned = []) :
    s.endSweep reason =
      (s.onSweep fun w => (w.withdrew 0).ended reason).post ((s.walker.sweep.withdrew 0).endNotice reason) := by
  rw [State.endSweep_untorn hr, State.divert_empty s hp]
  rfl

end divert

/-! ### CLOSE OPENING -/

section close
variable (s : State)

/-- The second diversion, of the end of a sweep that a close ends, finds PLANNED empty. -/
theorem Sweep.withdrew_withdrew (n : Nat) (w : Sweep) : (w.withdrew n).withdrew 0 = w.withdrew n := by
  simp [Sweep.withdrew]

/-- A close ends a sweep whose slot is empty (R160). -/
theorem State.closeSweep_ends (hs : s.frames.slot = []) :
    s.closeSweep = (s.divert.onSweep (.ended .closed)).post (s.divert.walker.sweep.endNotice .closed) := by
  rw [State.closeSweep, if_pos hs, State.endSweep_untorn_empty rfl s.divert_holders.2.1, State.divert_walker]
  simp only [State.onSweep, State.onWalker, State.divert_walker, Sweep.withdrew_withdrew]

/-- A close drains a sweep with an exposure in the slot (R160). -/
theorem State.closeSweep_drains (hs : s.frames.slot ≠ []) :
    s.closeSweep = s.divert.onSweep fun w => { w with state := .draining } := by
  rw [State.closeSweep, if_neg hs]

/-- A close touches the frame queue, the sweep record and the notices alone. -/
theorem State.closeSweep_keeps :
    s.captureFrame s.closeSweep ∧ s.closeSweep.lights = s.lights ∧ s.closeSweep.meter = s.meter ∧
      s.closeSweep.custody = s.custody ∧ s.closeSweep.frames = s.divert.frames := by
  by_cases hs : s.frames.slot = []
  · rw [State.closeSweep_ends s hs]
    simp [State.captureFrame]
  · rw [State.closeSweep_drains s hs]
    simp [State.captureFrame]

/-- The sweep record that a close leaves, and the notice it posts (R158, R160). -/
theorem State.closeSweep_sweep :
    s.closeSweep.walker.sweep =
        (if s.frames.slot = [] then (s.walker.sweep.withdrew s.frames.planned.length).ended .closed
        else { s.walker.sweep.withdrew s.frames.planned.length with state := .draining }) ∧
      s.closeSweep.outbox = s.outbox ++
        if s.frames.slot = [] then [(s.walker.sweep.withdrew s.frames.planned.length).endNotice .closed] else [] := by
  by_cases hs : s.frames.slot = []
  · rw [State.closeSweep_ends s hs, if_pos hs, if_pos hs]
    simp [State.onSweep, State.divert_walker]
  · rw [State.closeSweep_drains s hs, if_neg hs, if_neg hs]
    simp [State.onSweep, State.divert_walker]

/-- The code of the state that a close leaves, in its reply (R160). -/
theorem State.closeSweep_code :
    sweepStateCode s.closeSweep.walker.sweep.state = if s.frames.slot = [] then 0 else 5 := by
  rw [s.closeSweep_sweep.1]
  split <;> rfl

end close

/-! ### STOP SWEEP -/

/-- A stop of an active sweep leaves the station dark, metering IDLE and the preview record as it was (R95, R110). -/
theorem State.LightSafe.endSweep_stops {s : State} (h : s.LightSafe) (hactive : s.walker.sweep.state ≠ .idle)
    {reason : SweepEnd} (hr : reason.tears = true) :
    (s.endSweep reason).lights.dark ∧ (s.endSweep reason).meter.running = none ∧
      (s.endSweep reason).lights.lastEnd = s.lights.lastEnd := by
  have htrip : s.sweepTrip reason = s.endSweep reason := if_neg hactive
  obtain ⟨hpreview, hlast⟩ := s.sweepTrip_preview h.one reason hr
  have hnone : s.lights.preview = none := h.no_preview fun ho => hactive (h.framing ho)
  have hdark := s.stopped_dark h reason hr .request
  have hrunning := s.stopped_running h reason hr .request
  rw [State.endPreview_none _ _ (hpreview.trans hnone)] at hdark hrunning
  rw [htrip] at hdark hrunning hlast
  exact ⟨hdark, hrunning, hlast⟩

/-- Settles O53: a close as `State.closeSweep` does it past the checks, a stop as an end of the sweep that tears. -/
theorem closeDrainsAndStopTears : Obligations.CloseDrainsAndStopTears := by
  unfold Obligations.CloseDrainsAndStopTears
  intro o s w n withdrawn volume waiting ended
  refine ⟨fun h => ?_, fun h hsafe => ?_⟩
  · refine check_answers h rfl rfl fun _ ht => ?_
    split
    · next hd => exact onlyAnswers_of_take h rfl (ht.trans (if_pos hd))
    next hd =>
    obtain ⟨hkeeps, hlights, hmeter, hcustody, hframes⟩ := (s.heard o).closeSweep_keeps
    obtain ⟨hsweep, hout⟩ := (s.heard o).closeSweep_sweep
    obtain ⟨hfree, hplanned, hslot, hcompleted, hverdict⟩ := (s.heard o).divert_holders
    obtain ⟨u, hu, hreq, hsame, hnotes⟩ := request_outcome h (ht.trans (if_neg hd)) rfl
      (State.captureFrame.links hkeeps)
    have hblocks := hsame.frames.trans hframes
    refine ⟨u, hu, hreq.trans ?_, ?_, ?_, ?_, ?_, ?_, fun i hi hlt => ?_, ?_, ?_, ?_, ?_, ?_, ?_⟩
    · rw [State.closeSweep_code]
      rfl
    · rw [hblocks, hplanned]
    · rw [hblocks, hslot]; rfl
    · rw [hblocks, hfree]; rfl
    · rw [hblocks, hverdict]; rfl
    · rw [hblocks, hcompleted]; rfl
    · rw [State.frame, hblocks]
      exact (s.heard o).divert_withdrawn hi hlt
    · rw [hsame.walker, hsweep]
      rfl
    · exact hsame.lights.trans hlights
    · exact hsame.meter.trans hmeter
    · exact hsame.custody.trans hcustody
    · exact State.captureFrame.sameButCapture (s := s.heard o) hkeeps hsame
    · have hposted : (s.heard o).closeSweep.outbox =
          if s.frames.slot = [] then [ended .closed { w.counts with withdrawn := withdrawn }] else [] := by
        rw [hout, Sweep.endNotice_eq, show (s.heard o).outbox = [] from h.1]
        rfl
      rw [hposted] at hnotes
      have hordered := hnotes.waiting_first (by split <;> simp [ended, Notice.rank])
      rwa [State.framesWaiting_eq ((congrArg Frames.completed hframes).trans hcompleted)] at hordered
  · refine check_answers h rfl rfl fun hactive ht => ?_
    obtain ⟨htorn, hout⟩ := (s.heard o).endSweep_tears .stopped rfl
    obtain ⟨hdark, hrunning, hlast⟩ := (hsafe.heard o).endSweep_stops hactive (reason := .stopped) rfl
    obtain ⟨u, hu, hreq, hsame, hnotes⟩ := request_outcome h ht rfl
      (State.captureFrame.links (State.endSweep_captures ..))
    have htornu := htorn.congr hsame.frames hsame.walker
    obtain ⟨-, -, -, hcompleted, -, -, hwalker⟩ := htorn
    have hcounts : ((s.heard o).endSweep .stopped).walker.sweep.counts = s.tornCounts :=
      congrArg (fun k => k.sweep.counts) hwalker
    refine ⟨u, hu, hreq.trans ?_, htornu, ?_, ?_, ?_, ?_, ?_, ?_, ?_⟩
    · rw [hcounts]
      rfl
    · rw [hsame.walker, hcounts]
      rfl
    · rw [hsame.lights]; exact hdark
    · rw [hsame.meter]; exact hrunning
    · rw [hsame.lights]; exact hlast
    · exact hsame.custody.trans (State.endSweep_only ..).2.2.1
    · exact State.captureFrame.sameButCapture (s := s.heard o) (State.endSweep_captures ..) hsame
    · rw [hout, Sweep.endNotice_eq, show (s.heard o).outbox = [] from h.1, hwalker] at hnotes
      have hordered := hnotes.waiting_first (by simp [Notice.rank])
      rwa [State.framesWaiting_eq hcompleted] at hordered

end Sys2Proof.Machine
end

section
/-! PROOFS. The cameras: READY changes, DONE edges and the two camera timeouts (R144, R149, R150, R152, R153). -/

namespace Sys2Proof.Machine

/-! ### A rewrite of one camera port -/

section ports
variable {camera : Camera} {f g : CameraPort → CameraPort} {s : State}

theorem State.port_onCamera (camera : Camera) (f : CameraPort → CameraPort) (s : State) (x : Camera) :
    (s.onCamera camera f).walker.port x = if x = camera then f (s.walker.port camera) else s.walker.port x := by
  cases camera <;> cases x <;> rfl

theorem State.onCamera_onCamera : (s.onCamera camera f).onCamera camera g = s.onCamera camera (g ∘ f) := by
  cases camera <;> rfl

theorem State.onCamera_same (h : f (s.walker.port camera) = s.walker.port camera) : s.onCamera camera f = s := by
  cases camera
  all_goals
    simp only [Walker.port] at h
    simp only [State.onCamera, State.onWalker, h]

theorem State.onCamera_congr (h : f (s.walker.port camera) = g (s.walker.port camera)) :
    s.onCamera camera f = s.onCamera camera g := by
  cases camera
  all_goals
    simp only [Walker.port] at h
    simp only [State.onCamera, State.onWalker, h]

/-- A rewrite of a port is one of the walker's ports alone. -/
theorem State.onCamera_walker (camera : Camera) (f : CameraPort → CameraPort) (s : State) :
    (s.onCamera camera f).walker.sweep = s.walker.sweep ∧ (s.onCamera camera f).slotCameras = s.slotCameras := by
  cases camera <;> exact ⟨rfl, rfl⟩

/-- The cameras concerned with one READY changed (R149). -/
theorem State.camerasReady_onCamera (camera : Camera) (level : Bool) (s : State) :
    (s.onCamera camera fun p => { p with ready := level }).camerasReady = true ↔
      ∀ x ∈ s.slotCameras, if x = camera then level = true else (s.walker.port x).ready = true := by
  rw [State.camerasReady, (State.onCamera_walker ..).2, List.all_eq_true]
  refine forall₂_congr fun x _ => ?_
  rw [State.port_onCamera]
  split <;> simp

end ports

/-! ### A rewrite of one descriptor done in two steps -/

theorem Vec.edit_edit {α : Type} {n : Nat} (v : Vector α n) (i : Nat) (f g : α → α) :
    Vec.edit (Vec.edit v i f) i g = Vec.edit v i (g ∘ f) := by
  unfold Vec.edit
  split
  · ext k hk
    by_cases hi : i = k <;> simp [hi]
  · rfl

theorem State.onFrame_onFrame (index : Nat) (f g : Descriptor → Descriptor) (s : State) :
    (s.onFrame index f).onFrame index g = s.onFrame index (g ∘ f) :=
  congrArg (fun pool => s.onFrames fun q => { q with pool := pool }) (Vec.edit_edit s.frames.pool index f g)

/-! ### An event that moves nothing into COMPLETED -/

theorem event_eq_of_completed {f : State → State} {s t : State} (h : f s = t) (hq : t.outbox = [])
    (hc : t.frames.completed = s.frames.completed) : event f s = .next t := by
  subst h
  exact event_quiet f s hq (by rw [hc]; exact id)

/-! ### An event that ends the sweep with nothing torn -/

/-- What an event leaves that brings the sweep to an end with PLANNED empty (R157, R158). -/
theorem State.ends_outcome {f : State → State} {s c : State} {reason : SweepEnd} (hq : s.quiet)
    (hactive : s.walker.sweep.state ≠ .idle) (hf : f s = c.endSweep reason) (hr : reason.tears = false)
    (hp : c.frames.planned = []) (hc : s.captureFrame c) (ho : c.outbox = s.outbox) :
    ∃ u, event f s = .next u ∧ u.frames = c.frames ∧
      u.walker = { c.walker with sweep := (c.walker.sweep.withdrew 0).ended reason } ∧ u.lights = c.lights ∧
      u.meter = c.meter ∧ u.custody = c.custody ∧ u.sameButCapture s ∧ s.notified u (s.captureNotices u) := by
  have hcaptures : s.captureFrame (f s) := hf ▸ hc.trans (State.endSweep_captures reason c)
  obtain ⟨u, hu, hsame, hnotes⟩ := event_outcome f s (State.captureFrame.links hcaptures)
  have hends : c.walkerEnds (f s) := hf ▸ (State.endSweep_goesDark (slot := 0) reason hr c).2
  have hnotices := hnotes.congr (hends.captureNotices hactive hsame)
  rw [ho, hq, List.nil_append] at hnotices
  have hblocks := hf.trans (State.endSweep_untorn_empty hr hp)
  refine ⟨u, hu, ?_, ?_, ?_, ?_, ?_, hcaptures.sameButCapture hsame, hnotices⟩
  · rw [hsame.frames, hblocks]; rfl
  · rw [hsame.walker, hblocks]; rfl
  · rw [hsame.lights, hblocks]; rfl
  · rw [hsame.meter, hblocks]; rfl
  · rw [hsame.custody, hblocks]; rfl

/-- A DRAINING sweep whose slot has emptied ends CLOSED (R160). -/
theorem State.slotEmptied_draining {s : State} (h : s.walker.sweep.state = .draining) (lit : Bool) :
    s.slotEmptied lit = s.endSweep .closed := if_pos h

/-- A PASS sweep that has lit an exposure and has none left ends PASS_DONE (R155). -/
theorem State.slotEmptied_passDone {s : State} (hstate : s.walker.sweep.state ≠ .draining)
    (hmode : s.walker.sweep.mode = .pass) (hp : s.frames.planned = []) (hstarted : s.walker.sweep.started = true)
    (lit : Bool) :
    s.slotEmptied lit = (s.onSweep fun w => { w with state := .walking, stage := none }).endSweep .passDone := by
  let walking := s.onSweep fun w => { w with state := .walking, stage := none }
  have hwmode : walking.walker.sweep.mode = .pass := hmode
  have hwplanned : walking.frames.planned = [] := hp
  have hlit : walking.walker.sweep.allRefused = false := by
    have : walking.walker.sweep.started = true := hstarted
    rw [Sweep.allRefused, this]
    rfl
  have hrun : walking.goOnByMode State.start lit = walking.runOut .passDone := by
    rw [State.goOnByMode, hwmode]
    exact if_pos hwplanned
  rw [State.slotEmptied, State.goOn, if_neg hstate]
  refine hrun.trans ?_
  rw [State.runOut, hlit]
  rfl

/-! ### The slot completed with one status -/

section completeSlot
variable {s : State} (status : FrameStatus)

theorem State.completeSlot_holders (s : State) :
    (s.completeSlot status).frames.slot = [] ∧ (s.completeSlot status).frames.planned = s.frames.planned ∧
      (s.completeSlot status).frames.completed = s.frames.completed ++ s.frames.slot := by
  simp [State.completeSlot]

/-- The descriptors of the slot take the status, the others stay (R132). -/
theorem State.completeSlot_frame (h : s.frames.whole) {i : Nat} (hi : i ∈ s.frames.slot) :
    (s.completeSlot status).frame i = { s.frame i with status := status } := by
  have := State.frame_onEach s.frames.slot (fun d => { d with status := status }) s i
    (Frames.whole_lt h (.inr (.inr (.inl hi)))) (Frames.whole_slot_nodup h)
  rw [if_pos hi] at this
  exact this

end completeSlot

/-! ### A change of READY (R149, R150) -/

section ready
variable {camera : Camera} {level : Bool} {s : State}

/-- What the event of a READY change does: a port that shows the level already takes no change. -/
def State.readyChanged (camera : Camera) (level : Bool) (s : State) : State :=
  if (s.walker.port camera).ready = level then s
  else (s.onCamera camera fun p => { p with ready := level }).readyTaken camera

theorem exec_cameraReadyChange (camera : Camera) (level : Bool) (s : State) :
    exec (.cameraReadyChange camera level) s = event (State.readyChanged camera level) s := rfl

/-- A change that leaves the slot waiting, or finds none waiting, is only read (R144). -/
theorem State.readyChange_read (hq : s.quiet)
    (h : ¬ (s.walker.sweep.stage = some .waitCamera ∧ camera ∈ s.slotCameras ∧ level = true ∧
      ∀ x ∈ s.slotCameras, x ≠ camera → (s.walker.port x).ready = true)) :
    exec (.cameraReadyChange camera level) s = .next (s.onCamera camera fun p => { p with ready := level }) := by
  rw [exec_cameraReadyChange]
  refine event_eq _ s _ ?_ (by simpa using hq) (by simp)
  unfold State.readyChanged
  split
  · next hsame => exact (State.onCamera_same (by rw [← hsame])).symm
  · rw [State.readyTaken, if_neg]
    rintro ⟨hstage, hmem, hready⟩
    obtain ⟨hsweep, hcameras⟩ := s.onCamera_walker camera fun p => { p with ready := level }
    rw [hsweep] at hstage
    rw [hcameras] at hmem
    rw [State.camerasReady_onCamera] at hready
    refine h ⟨hstage, hmem, ?_, fun x hx hne => ?_⟩
    · simpa using hready camera hmem
    · simpa [hne] using hready x hx

/-- The walker with a camera READY and the ready timers stopped, its exposure ready for the light (R149). -/
def State.allReady (camera : Camera) (s : State) : State :=
  (s.onCamera camera fun p => { p with ready := true }).onCameras fun p => { p with readyTimer := none }

theorem State.allReady_port (camera x : Camera) (s : State) :
    ((s.allReady camera).walker.port x).readyTimer = none ∧
      ((s.allReady camera).walker.port x).trigger = (s.walker.port x).trigger := by
  cases camera <;> cases x <;> exact ⟨rfl, rfl⟩

/-- Every block but the camera ports is as it was. -/
theorem State.allReady_eq (camera : Camera) (s : State) :
    ∃ left right, s.allReady camera = s.onWalker fun k => { k with left := left, right := right } := by
  cases camera <;> exact ⟨_, _, rfl⟩

/-- The change that makes the last camera concerned READY asks for the light (R149, R150). -/
theorem State.readyChange_requests {a : Nat} {rest : List Nat} (hp : (s.walker.port camera).ready = false)
    (hstage : s.walker.sweep.stage = some .waitCamera) (hslot : s.frames.slot = a :: rest)
    (hmem : camera ∈ s.slotCameras)
    (hready : ∀ x ∈ s.slotCameras, x ≠ camera → (s.walker.port x).ready = true) :
    s.readyChanged camera true =
      if s.lightRefusal = none then (s.allReady camera).grantLight (s.frame a)
      else (s.allReady camera).refuseSlot.slotEmptied false := by
  obtain ⟨hsweep, hcameras⟩ := s.onCamera_walker camera fun p => { p with ready := true }
  have hall : (s.onCamera camera fun p => { p with ready := true }).camerasReady = true := by
    refine (State.camerasReady_onCamera camera true s).2 fun x hx => ?_
    split
    · rfl
    · next hne => exact hready x hx hne
  obtain ⟨left, right, heq⟩ := s.allReady_eq camera
  have hslot' : (s.allReady camera).frames.slot = a :: rest := by rw [heq]; exact hslot
  have hlight : (s.allReady camera).lightRefusal = s.lightRefusal := by rw [heq]; rfl
  have hframe : (s.allReady camera).frame a = s.frame a := by rw [heq]; rfl
  rw [State.readyChanged, if_neg (by rw [hp]; nofun), State.readyTaken, hsweep, hcameras, if_pos ⟨hstage, hmem, hall⟩,
    State.requestLight]
  simp only [State.allReady] at hslot' hlight hframe ⊢
  simp only [hslot', hlight, hframe]

end ready

/-! ### The light granted to the exposure in the slot (R150) -/

section granted
variable (d : Descriptor) (s : State)

/-- A DRAINING sweep stays DRAINING while its last exposure is lit (R160). -/
theorem State.grantLight_sweep_eq :
    (s.grantLight d).walker.sweep =
      { s.walker.sweep with
        state := if s.walker.sweep.state = .draining then .draining else .exposing
        stage := some .exposing, started := true, runWithoutStart := 0 } := by
  rw [State.grantLight_eq]
  simp [State.lit, State.toStage, State.onSweep, State.onEachCamera_sweep]

/-- The triggers of the cameras concerned rise. -/
theorem State.grantLight_trigger (x : Camera) :
    (s.grantLight d).walker.port x =
      if x ∈ s.slotCameras then { s.walker.port x with trigger := true } else s.walker.port x := by
  have hport := State.port_onEachCamera_idem (f := fun p => { p with trigger := true }) (fun _ => rfl) s.slotCameras
    ((s.lit d).onEach s.frames.slot fun d => { d with status := .exposing }) x
  have hwalker : ((s.lit d).onEach s.frames.slot fun d => { d with status := .exposing }).walker = s.walker := by
    simp [State.lit]
  rw [hwalker] at hport
  rw [State.grantLight_eq]
  exact Eq.trans (by cases x <;> rfl) hport

/-- The descriptors of the slot are EXPOSING, no descriptor moves. -/
theorem State.grantLight_holders :
    { (s.grantLight d).frames with pool := s.frames.pool } = s.frames ∧
      ∀ i ∈ s.frames.slot, i < 256 → ((s.grantLight d).frame i).status = .exposing := by
  have hframes := s.grantLight_frames d
  refine ⟨?_, fun i hi hlt => ?_⟩
  · simp only [hframes, State.onEach_holders]
  · rw [State.frame, hframes]
    exact State.onEach_makes (Q := fun d => d.status = .exposing) (fun _ => rfl) s.frames.slot s hi hlt

end granted

section ready
variable {camera : Camera} {s : State}

theorem State.allReady_captures (camera : Camera) (s : State) : s.captureFrame (s.allReady camera) := by
  simp [State.captureFrame, State.allReady]

/-- The last camera READY under a granted light: the exposure is lit, a DRAINING sweep staying DRAINING (R150, R160). -/
theorem State.readyChange_lights {a : Nat} (hq : s.quiet)
    (hchanged : s.readyChanged camera true = (s.allReady camera).grantLight (s.frame a)) (hwhole : s.frames.whole) :
    ∃ t, exec (.cameraReadyChange camera true) s = .next t ∧
      Vec.at t.lights.banks (s.frame a).bank .off =
        (if (s.frame a).bank < 8 then .lit (s.frame a).level .exposure else .off) ∧
      t.meter.running = some { bank := (s.frame a).bank, owner := .exposure } ∧
      t.meter.exposure =
        some { planned := (s.frame a).duration / 10, charged := 0, dose := 0, irradianceSum := 0 } ∧
      t.walker.sweep =
        { s.walker.sweep with
          state := if s.walker.sweep.state = .draining then .draining else .exposing
          stage := some .exposing, started := true, runWithoutStart := 0 } ∧
      (∀ x ∈ s.slotCameras, (t.walker.port x).trigger = true) ∧ (∀ x, (t.walker.port x).readyTimer = none) ∧
      { t.frames with pool := s.frames.pool } = s.frames ∧ t.custody = s.custody ∧ t.sameButCapture s ∧
      s.notified t [] ∧ ∀ i ∈ s.frames.slot, (t.frame i).status = .exposing := by
  obtain ⟨left, right, heq⟩ := s.allReady_eq camera
  have hcameras : (s.allReady camera).slotCameras = s.slotCameras := by rw [heq]; rfl
  have hframes : (s.allReady camera).frames = s.frames := by rw [heq]; rfl
  have hquiet : ((s.allReady camera).grantLight (s.frame a)).outbox = [] := by simpa [State.allReady] using hq
  obtain ⟨hholders, hstatus⟩ := State.grantLight_holders (s.frame a) (s.allReady camera)
  rw [hframes] at hholders hstatus
  have hcompleted := congrArg Frames.completed hholders
  have htrigger := State.grantLight_trigger (s.frame a) (s.allReady camera)
  rw [hcameras] at htrigger
  refine ⟨_, event_eq_of_completed hchanged hquiet hcompleted, ?_, ?_, ?_, ?_, fun x hx => ?_, fun x => ?_, hholders, ?_,
    ?_, ?_, fun i hi => hstatus i hi (Frames.whole_lt hwhole (.inr (.inr (.inl hi))))⟩
  · rw [State.grantLight_lights]
    split
    · next hb => rw [Vec.at_put _ _ _ _ _ hb, if_pos rfl]
    · next hb => simp [Vec.at, hb]
  · rw [State.grantLight_meter]
  · rw [State.grantLight_meter]
  · rw [State.grantLight_sweep_eq, heq]
    rfl
  · rw [htrigger, if_pos hx]
  · have hready := (s.allReady_port camera x).1
    rw [htrigger]
    split <;> exact hready
  · simp [State.allReady]
  · simp [State.sameButCapture, State.allReady]
  · have hlinks : ((s.allReady camera).grantLight (s.frame a)).links = s.links := by simp [State.allReady]
    intro link
    rw [State.port, hlinks]
    exact ⟨rfl, rfl⟩

/-- The last camera READY of a DRAINING sweep whose light is refused: the slot REFUSED, the sweep ended (R150, R160). -/
theorem State.readyChange_refused (hq : s.quiet)
    (hchanged : s.readyChanged camera true = (s.allReady camera).refuseSlot.slotEmptied false)
    (hstate : s.walker.sweep.state = .draining) (hwhole : s.frames.whole) (hplanned : s.frames.planned = []) :
    ∃ t, exec (.cameraReadyChange camera true) s = .next t ∧ t.frames.slot = [] ∧
      t.frames.completed = s.frames.completed ++ s.frames.slot ∧
      (∀ i ∈ s.frames.slot, t.frame i = { s.frame i with status := .refused }) ∧
      t.walker.sweep.state = .idle ∧ t.walker.sweep.lastEnd = some .closed ∧
      t.walker.sweep.counts.refused = min 4294967295 (s.walker.sweep.counts.refused + s.frames.slot.length) ∧
      (∀ x, (t.walker.port x).readyTimer = none ∧ (t.walker.port x).trigger = (s.walker.port x).trigger) ∧
      t.lights = s.lights ∧ t.meter = s.meter ∧ t.custody = s.custody ∧ t.sameButCapture s ∧
      s.notified t (s.captureNotices t) := by
  obtain ⟨left, right, heq⟩ := s.allReady_eq camera
  have hframes : (s.allReady camera).frames = s.frames := by rw [heq]; rfl
  have hsweep : (s.allReady camera).walker.sweep = s.walker.sweep := by rw [heq]; rfl
  have hdraining : (s.allReady camera).refuseSlot.walker.sweep.state = .draining := by
    rw [State.refuseSlot_sweepState, hsweep, hstate]
  obtain ⟨hslot, hleft, hcompleted⟩ := State.completeSlot_holders .refused (s.allReady camera)
  rw [hframes] at hleft hcompleted
  have hends := hchanged.trans (State.slotEmptied_draining hdraining false)
  obtain ⟨u, hu, huframes, huwalker, hulights, humeter, hucustody, hsame, hnotes⟩ :=
    State.ends_outcome hq (by rw [hstate]; nofun) hends rfl (hleft.trans hplanned)
      (by simp [State.captureFrame, State.allReady]) (by simp [State.allReady])
  refine ⟨u, hu, ?_, ?_, fun i hi => ?_, ?_, ?_, ?_, fun x => ?_, ?_, ?_, ?_, hsame, hnotes⟩
  · rw [huframes]; exact hslot
  · rw [huframes]; exact hcompleted
  · rw [State.frame, huframes]
    have := State.completeSlot_frame (s := s.allReady camera) .refused (hframes ▸ hwhole) (hframes ▸ hi)
    refine this.trans ?_
    rw [heq]; rfl
  · rw [huwalker]; rfl
  · rw [huwalker]; rfl
  · rw [huwalker]
    have : (s.allReady camera).refuseSlot.walker.sweep.counts.refused =
        count32 (s.allReady camera).walker.sweep.counts.refused (s.allReady camera).frames.slot.length := by
      simp [State.refuseSlot, State.onCounts, State.onSweep]
    exact this.trans (by rw [hsweep, hframes]; rfl)
  · rw [huwalker]
    have := s.allReady_port camera x
    have hport : (s.allReady camera).refuseSlot.walker.port x = (s.allReady camera).walker.port x := by
      cases x <;> simp [State.refuseSlot, State.onCounts, State.onSweep, Walker.port]
    rw [← hport] at this
    cases x <;> exact this
  · rw [hulights]; simp [State.allReady]
  · rw [humeter]; simp [State.allReady]
  · rw [hucustody]; simp [State.allReady]

end ready

/-! ### A DONE edge (R152) and the end of the wait for one (R153) -/

section done
variable {camera : Camera} {i j : Nat} {s : State}

/-- The one descriptor of a camera that is CONFIRMING in the slot. -/
theorem State.confirming_one (hslot : s.frames.slot = [i]) (hcamera : (s.frame i).camera = camera)
    (hstatus : (s.frame i).status = .confirming) : s.confirming camera = some i := by
  simp [State.confirming, hslot, hcamera, hstatus]

/-- The same in a slot that holds a descriptor of the other camera too. -/
theorem State.confirming_pair (hslot : s.frames.slot = [i, j] ∨ s.frames.slot = [j, i])
    (hcamera : (s.frame i).camera = camera) (hstatus : (s.frame i).status = .confirming)
    (hother : (s.frame j).camera ≠ camera) : s.confirming camera = some i := by
  rcases hslot with hslot | hslot <;> simp [State.confirming, hslot, hcamera, hstatus, hother]

/-- A slot with no descriptor of the camera CONFIRMING. -/
theorem State.confirming_none
    (h : ∀ i ∈ s.frames.slot, (s.frame i).camera = camera → (s.frame i).status ≠ .confirming) :
    s.confirming camera = none := by
  simpa [State.confirming, List.find?_eq_none] using h

/-- One descriptor of two leaves the slot (R132). -/
theorem State.completeOne_pair (hslot : s.frames.slot = [i, j] ∨ s.frames.slot = [j, i]) (hne : i ≠ j)
    (status : FrameStatus) :
    s.completeOne i status = (s.onFrame i fun d => { d with status := status }).onFrames fun q =>
      { q with slot := [j], completed := q.completed ++ [i] } := by
  have hfilter : s.frames.slot.filter (· ≠ i) = [j] := by
    rcases hslot with hslot | hslot <;> simp [hslot, hne.symm]
  have hrest : (s.onFrame i fun d => { d with status := status }).frames.slot.filter (· ≠ i) = [j] := hfilter
  simp only [State.completeOne, State.onFrames, hrest]

/-- The walker waits on while the slot still holds a descriptor. -/
theorem State.goOnIfEmpty_full (h : s.frames.slot ≠ []) : s.goOnIfEmpty = s := if_neg h

/-- A DONE edge with no descriptor of its camera CONFIRMING advances the counter alone. -/
theorem State.doneTaken_none (h : s.confirming camera = none) :
    s.doneTaken camera = s.onCamera camera fun p => { p with counter := (p.counter + 1) % 65536 } := by
  have hc : (s.onCamera camera fun p => { p with counter := wrapSucc 65536 p.counter }).confirming camera = none := h
  unfold State.doneTaken
  simp only [hc]
  rfl

/-- A DONE edge of a CONFIRMING descriptor: it leaves the slot TAKEN, with the count it has advanced (R152). -/
theorem State.doneTaken_some (h : s.confirming camera = some i) :
    s.doneTaken camera =
      ((((s.onCamera camera fun p =>
          { p with counter := (p.counter + 1) % 65536, confirmTimer := none }).onFrame i fun d =>
          { d with frameNumber := some (((s.walker.port camera).counter + 1) % 65536) }).completeOne i .taken).onCounts
        fun c => { c with taken := count32 c.taken 1 }).goOnIfEmpty := by
  have hc : (s.onCamera camera fun p => { p with counter := wrapSucc 65536 p.counter }).confirming camera = some i := h
  have hn : ((s.onCamera camera fun p => { p with counter := wrapSucc 65536 p.counter }).walker.port camera).counter =
      ((s.walker.port camera).counter + 1) % 65536 := by
    rw [State.port_onCamera, if_pos rfl]
    rfl
  unfold State.doneTaken
  simp only [hc, hn, State.onCamera_onCamera]
  rfl

/-- The same where the slot holds a descriptor of the other camera too, which stays. -/
theorem State.doneTaken_pair (hslot : s.frames.slot = [i, j] ∨ s.frames.slot = [j, i]) (hne : i ≠ j)
    (h : s.confirming camera = some i) :
    s.doneTaken camera =
      (((s.onCamera camera fun p =>
          { p with counter := (p.counter + 1) % 65536, confirmTimer := none }).onFrame i fun d =>
          { d with
            frameNumber := some (((s.walker.port camera).counter + 1) % 65536), status := .taken }).onFrames fun q =>
          { q with slot := [j], completed := q.completed ++ [i] }).onCounts
        fun c => { c with taken := min 4294967295 (c.taken + 1) } := by
  let counted := s.onCamera camera fun p => { p with counter := (p.counter + 1) % 65536, confirmTimer := none }
  let numbered := counted.onFrame i fun d =>
    { d with frameNumber := some (((s.walker.port camera).counter + 1) % 65536) }
  have hone := State.completeOne_pair (s := numbered) hslot hne .taken
  rw [State.onFrame_onFrame] at hone
  refine (State.doneTaken_some h).trans ?_
  rw [hone]
  exact State.goOnIfEmpty_full (List.cons_ne_nil j [])

/-- A confirm timeout of a CONFIRMING descriptor: it leaves the slot UNCONFIRMED (R153). -/
theorem State.confirmTimeout_some (hrunning : (s.walker.port camera).confirmTimer ≠ none)
    (h : s.confirming camera = some i) :
    s.confirmTimeout camera =
      (((s.onCamera camera fun p => { p with confirmTimer := none }).completeOne i .unconfirmed).onCounts fun c =>
        { c with unconfirmed := count32 c.unconfirmed 1 }).goOnIfEmpty := by
  have hc : (s.onCamera camera fun p => { p with confirmTimer := none }).confirming camera = some i := h
  unfold State.confirmTimeout
  simp only [if_neg hrunning, hc]

/-- The same where the slot holds a descriptor of the other camera too, which stays. -/
theorem State.confirmTimeout_pair (hrunning : (s.walker.port camera).confirmTimer ≠ none)
    (hslot : s.frames.slot = [i, j] ∨ s.frames.slot = [j, i]) (hne : i ≠ j) (h : s.confirming camera = some i) :
    s.confirmTimeout camera =
      (((s.onCamera camera fun p => { p with confirmTimer := none }).onFrame i fun d =>
          { d with status := .unconfirmed }).onFrames fun q =>
          { q with slot := [j], completed := q.completed ++ [i] }).onCounts
        fun c => { c with unconfirmed := min 4294967295 (c.unconfirmed + 1) } := by
  have hone := State.completeOne_pair (s := s.onCamera camera fun p => { p with confirmTimer := none }) hslot hne
    .unconfirmed
  refine (State.confirmTimeout_some hrunning h).trans ?_
  rw [hone]
  exact State.goOnIfEmpty_full (List.cons_ne_nil j [])

/-- The last descriptor of a PASS sweep is TAKEN, and the sweep is done (R152, R155). -/
theorem State.doneTaken_passDone (hq : s.quiet) (hslot : s.frames.slot = [i]) (hlt : i < 256)
    (h : s.confirming camera = some i) (hstate : s.walker.sweep.state = .confirming)
    (hmode : s.walker.sweep.mode = .pass) (hplanned : s.frames.planned = [])
    (hstarted : s.walker.sweep.started = true) :
    ∃ t, exec (.doneEdge camera) s = .next t ∧ (t.frame i).status = .taken ∧
      (t.frame i).frameNumber = some (((s.walker.port camera).counter + 1) % 65536) ∧ t.frames.slot = [] ∧
      t.frames.completed = s.frames.completed ++ [i] ∧ t.walker.sweep.state = .idle ∧
      t.walker.sweep.lastEnd = some .passDone ∧ t.custody = s.custody ∧ t.lights = s.lights ∧ t.sameButCapture s ∧
      t.walker.sweep.counts =
        { s.walker.sweep.counts with
          taken := min 4294967295 (s.walker.sweep.counts.taken + 1)
          withdrawn := min 4294967295 s.walker.sweep.counts.withdrawn } ∧
      s.notified t (s.captureNotices t) := by
  let number := ((s.walker.port camera).counter + 1) % 65536
  let counted := s.onCamera camera fun p => { p with counter := (p.counter + 1) % 65536, confirmTimer := none }
  let taken := ((counted.onFrame i fun d => { d with frameNumber := some number }).completeOne i .taken).onCounts
    fun c => { c with taken := count32 c.taken 1 }
  have hempty : taken.frames.slot = [] := by
    simp [taken, counted, State.completeOne, State.onFrame_holders, hslot]
  have hsweep : taken.walker.sweep =
      { s.walker.sweep with
        counts := { s.walker.sweep.counts with taken := count32 s.walker.sweep.counts.taken 1 } } := by
    have : counted.walker.sweep = s.walker.sweep := (s.onCamera_walker camera _).1
    simp [taken, State.onCounts, State.onSweep, State.completeOne, State.onFrame, this]
  have hends : s.doneTaken camera =
      (taken.onSweep fun w => { w with state := .walking, stage := none }).endSweep .passDone := by
    rw [State.doneTaken_some h, State.goOnIfEmpty, if_pos hempty]
    exact State.slotEmptied_passDone (by rw [hsweep, hstate]; nofun) (by rw [hsweep, hmode])
      (by simpa [taken, counted, State.completeOne, State.onFrame_holders] using hplanned)
      (by rw [hsweep, hstarted]) true
  obtain ⟨u, hu, huframes, huwalker, hulights, -, hucustody, hsame, hnotes⟩ :=
    State.ends_outcome hq (by rw [hstate]; nofun) hends rfl
      (by simpa [taken, counted, State.completeOne, State.onFrame_holders] using hplanned)
      (by simp [State.captureFrame, taken, counted]) (by simp [taken, counted])
  have hframe : u.frame i = { counted.frame i with frameNumber := some number, status := .taken } := by
    have hone : taken.frame i =
        ((counted.onFrame i fun d => { d with frameNumber := some number }).onFrame i fun d =>
          { d with status := .taken }).frame i := rfl
    rw [State.frame, huframes]
    refine hone.trans ?_
    rw [State.onFrame_onFrame, State.frame_onFrame, if_pos ⟨rfl, hlt⟩]
    rfl
  refine ⟨u, hu, by rw [hframe], by rw [hframe], ?_, ?_, ?_, ?_, ?_, ?_, hsame, ?_, hnotes⟩
  · rw [huframes]; exact hempty
  · rw [huframes]; simp [taken, counted, State.completeOne, State.onFrame_holders]
  · rw [huwalker]; rfl
  · rw [huwalker]; rfl
  · rw [hucustody]; simp [taken, counted]
  · rw [hulights]; simp [taken, counted]
  · have hcounts : u.walker.sweep.counts =
        { taken.walker.sweep.counts with withdrawn := min 4294967295 (taken.walker.sweep.counts.withdrawn + 0) } := by
      rw [huwalker]; rfl
    rw [hcounts, hsweep]
    rfl

end done

/-! ### The ready timeout (R149) -/

/-- A timer that does not run, or a slot that does not wait for the cameras, changes nothing (log 3). -/
theorem State.readyTimeout_idle {camera : Camera} {s : State}
    (h : (s.walker.port camera).readyTimer = none ∨ s.walker.sweep.stage ≠ some .waitCamera) :
    s.readyTimeout camera = s := by
  rw [State.readyTimeout, if_neg (by tauto)]

/-- A ready timeout in a DRAINING sweep: the slot CAMERA_NOT_READY, the sweep ended (R149, R160). -/
theorem State.readyTimeout_drains {camera : Camera} {s : State} (hq : s.quiet)
    (hrunning : (s.walker.port camera).readyTimer ≠ none) (hstage : s.walker.sweep.stage = some .waitCamera)
    (hstate : s.walker.sweep.state = .draining) (hwhole : s.frames.whole) (hplanned : s.frames.planned = []) :
    ∃ t, exec (.cameraReadyTimeout camera) s = .next t ∧ t.frames.slot = [] ∧
      t.frames.completed = s.frames.completed ++ s.frames.slot ∧
      (∀ i ∈ s.frames.slot, (t.frame i).status = .cameraNotReady ∧ (t.frame i).measured = (s.frame i).measured) ∧
      t.walker.sweep.state = .idle ∧ t.walker.sweep.lastEnd = some .closed ∧
      (∀ x, (t.walker.port x).readyTimer = none) ∧ t.lights = s.lights ∧ t.custody = s.custody ∧
      t.sameButCapture s ∧ s.notified t (s.captureNotices t) := by
  let stopped := s.onCameras fun p => { p with readyTimer := none }
  let missed := (stopped.completeSlot .cameraNotReady).onCounts fun c =>
    { c with cameraNotReady := count32 c.cameraNotReady stopped.frames.slot.length }
  have hdraining : missed.walker.sweep.state = .draining := by
    simpa [missed, stopped, State.onCounts, State.onSweep, State.onCameras] using hstate
  have hends : s.readyTimeout camera = missed.endSweep .closed := by
    rw [State.readyTimeout, if_pos ⟨hrunning, hstage⟩]
    exact State.slotEmptied_draining hdraining false
  obtain ⟨hslot, hleft, hcompleted⟩ := State.completeSlot_holders .cameraNotReady stopped
  obtain ⟨u, hu, huframes, huwalker, hulights, -, hucustody, hsame, hnotes⟩ :=
    State.ends_outcome hq (by rw [hstate]; nofun) hends rfl (hleft.trans hplanned)
      (by simp [State.captureFrame, missed, stopped]) (by simp [missed, stopped])
  refine ⟨u, hu, ?_, ?_, fun i hi => ?_, ?_, ?_, fun x => ?_, ?_, ?_, hsame, hnotes⟩
  · rw [huframes]; exact hslot
  · rw [huframes]; exact hcompleted
  · have hframe : u.frame i = { s.frame i with status := .cameraNotReady } := by
      rw [State.frame, huframes]
      exact State.completeSlot_frame (s := stopped) .cameraNotReady hwhole hi
    rw [hframe]
    exact ⟨rfl, rfl⟩
  · rw [huwalker]; rfl
  · rw [huwalker]; rfl
  · rw [huwalker]; cases x <;> simp [missed, stopped, Walker.port, State.onCounts, State.onSweep, State.onCameras]
  · rw [hulights]; simp [missed, stopped]
  · rw [hucustody]; simp [missed, stopped]

/-- Settles O54: each event by the branch of the walker that it takes, an end of the sweep by `State.ends_outcome`. -/
theorem camerasReadyConfirmAndTimeOut : Obligations.CamerasReadyConfirmAndTimeOut := by
  unfold Obligations.CamerasReadyConfirmAndTimeOut
  intro camera s w p raised number hq
  refine ⟨fun level h => State.readyChange_read hq h,
    fun a rest hp _ hstage hslot hmem hready hlight hwhole => ?_,
    fun hp hstate hstage hmem hready hlight hwhole hplanned => ?_, fun h => ?_,
    fun i j hslot hne hlt hcamera hstatus hother hcompleted => ?_,
    fun i hslot hlt hcamera hstatus hstate hmode hplanned hstarted => ?_,
    fun hrunning hstage hstate hwhole hplanned => ?_, fun h => ?_,
    fun i j hslot hne hlt hcamera hstatus hother hrunning hcompleted => ?_, fun h => ?_⟩
  · have hchanged := State.readyChange_requests hp hstage hslot hmem hready
    rw [if_pos hlight] at hchanged
    exact State.readyChange_lights hq hchanged hwhole
  · obtain ⟨a, rest, hslot⟩ : ∃ a rest, s.frames.slot = a :: rest := by
      refine List.exists_cons_of_ne_nil fun hempty => ?_
      simp [State.slotCameras, hempty] at hmem
    have hchanged := State.readyChange_requests hp hstage hslot hmem hready
    rw [if_neg hlight] at hchanged
    exact State.readyChange_refused hq hchanged hstate hwhole hplanned
  · refine event_eq _ s _ ((State.doneTaken_none (State.confirming_none h)).trans ?_) (by simpa using hq) (by simp)
    exact State.onCamera_congr rfl
  · have hdone := State.doneTaken_pair hslot hne (State.confirming_pair hslot hcamera hstatus hother)
    have hport : (s.onCamera camera fun _ => { raised with confirmTimer := none }) =
        s.onCamera camera fun p => { p with counter := (p.counter + 1) % 65536, confirmTimer := none } :=
      State.onCamera_congr rfl
    rw [hport]
    refine (event_quiet (State.doneTaken camera) s ?_ fun hnone => absurd hnone hcompleted).trans (congrArg _ hdone)
    rw [hdone]
    simpa using hq
  · exact State.doneTaken_passDone hq hslot hlt (State.confirming_one hslot hcamera hstatus) hstate hmode hplanned
      hstarted
  · exact State.readyTimeout_drains hq hrunning hstage hstate hwhole hplanned
  · exact event_eq _ s s (State.readyTimeout_idle h) hq rfl
  · have hlate := State.confirmTimeout_pair hrunning hslot hne (State.confirming_pair hslot hcamera hstatus hother)
    refine (event_quiet (State.confirmTimeout camera) s ?_ fun hnone => absurd hnone hcompleted).trans
      (congrArg _ hlate)
    rw [hlate]
    simpa using hq
  · exact event_eq _ s s (if_pos h) hq rfl

end Sys2Proof.Machine
end

section
/-! PROOFS. TAKE FRAMES and the verdicts (R135 to R138): the records of the reply, the checks, the bookings released. -/

namespace Sys2Proof.Machine

/-! ### The frame record of TAKE FRAMES (section 11.6) -/

/-- The record with the bytes of its face, of its presence weights and of its measured dose written out. -/
theorem frameRecordBytes_eq (i : Nat) (d : Descriptor) :
    be 1 i ++ be 1 d.generation ++ be 1 d.volume.slot ++ be 1 d.volume.generation ++ be 2 d.opening ++
        be 1 (match d.camera with | .left => 0 | .right => 1) ++
        (match d.face with
          | .verso leaf => be 1 0 ++ be 2 leaf
          | .recto leaf => be 1 1 ++ be 2 leaf
          | .board => be 1 2 ++ be 2 65535) ++
        be 1 d.bank ++ be 2 d.level ++ be 2 d.duration ++ be 1 d.planEntry ++
        be 1 (match d.status with
          | .planned => 0 | .exposing => 1 | .confirming => 2 | .taken => 3 | .cut => 4 | .torn => 5 | .refused => 6
          | .unconfirmed => 7 | .cameraNotReady => 8 | .withdrawn => 9) ++
        be 1 ((if d.frameNumber = none then 0 else 1) + (if d.measured = none then 0 else 2)) ++
        be 2 (d.frameNumber.getD 65535) ++
        (match d.measured with
          | none => be 4 0 ++ be 2 65535
          | some m => be 4 m.dose ++ be 2 m.meanIrradiance) = frameRecordBytes i d := by
  have hcamera : (match d.camera with | .left => 0 | .right => 1) = cameraCode d.camera := by cases d.camera <;> rfl
  have hface : (match d.face with
      | .verso leaf => be 1 0 ++ be 2 leaf
      | .recto leaf => be 1 1 ++ be 2 leaf
      | .board => be 1 2 ++ be 2 65535) = be 1 (faceKindCode d.face) ++ opt2 d.face.leaf? := by cases d.face <;> rfl
  have hstatus : (match d.status with
      | .planned => 0 | .exposing => 1 | .confirming => 2 | .taken => 3 | .cut => 4 | .torn => 5 | .refused => 6
      | .unconfirmed => 7 | .cameraNotReady => 8 | .withdrawn => 9) = frameStatusCode d.status := by
    cases d.status <;> rfl
  have hnumber : (if d.frameNumber = none then 0 else 1) = if d.frameNumber.isSome then 1 else 0 := by
    cases d.frameNumber <;> rfl
  have hweight : (if d.measured = none then 0 else 2) = if d.measured.isSome then 2 else 0 := by
    cases d.measured <;> rfl
  have hmeasured : (match d.measured with
      | none => be 4 0 ++ be 2 65535
      | some m => be 4 m.dose ++ be 2 m.meanIrradiance) =
      be 4 ((d.measured.map (·.dose)).getD 0) ++ opt2 (d.measured.map (·.meanIrradiance)) := by
    cases d.measured <;> rfl
  rw [hcamera, hface, hstatus, hnumber, hweight, hmeasured]
  simp only [frameRecordBytes, opt2, List.append_assoc]

theorem frameRecordBytes_length (i : Nat) (d : Descriptor) : (frameRecordBytes i d).length = 26 := by
  simp [frameRecordBytes, opt2, Laws.Wire.be_length]

/-! ### An answer that brings nothing into COMPLETED -/

/-- An answer with an effect that posts nothing and owes no FRAMES WAITING (R134). -/
theorem answersWith_of_completed {c : Instr} {o : Origin} {take : State → Served} {s : State} {result : Result}
    {body : List Byte} {effect : State → State} (h : s.accepts c o) (he : exec c s = request c o take s)
    (ht : take (s.heard o) = ⟨effect (s.heard o), result, body⟩) (hq : (effect (s.heard o)).outbox = [])
    (hc : s.frames.completed = [] → (effect (s.heard o)).frames.completed = []) :
    s.answersWith c o result body effect [] := by
  rw [State.answersWith, State.announced_nil, he]
  exact request_quiet c o take s _ result body h ht hq hc

/-- TAKE FRAMES (R135): the head of COMPLETED in order, as many as there are up to the number asked for. -/
theorem takeFrames_answers {o : Origin} {s : State} {largest : Nat} (h : s.accepts (.takeFrames o largest) o) :
    s.answersWith (.takeFrames o largest) o .ok
      (be 1 (min largest s.frames.completed.length) ++
        ((s.frames.completed.take largest).flatMap fun i => frameRecordBytes i (s.frame i)) ++
        be 2 (s.frames.completed.length - largest))
      (State.onFrames fun q =>
        { q with completed := q.completed.drop largest, verdict := q.verdict ++ q.completed.take largest }) [] := by
  refine answersWith_of_completed h rfl ?_ h.1 fun hnone => ?_
  · rw [← List.length_take, ← List.length_drop]
    rfl
  · show s.frames.completed.drop largest = []
    rw [hnone, List.drop_nil]

/-! ### The checks of a verdict (R136) -/

theorem Frames.holder_ne_verdict {f : Frames} {i : Nat} : f.holder i ≠ .verdict ↔ i ∉ f.verdict := by
  refine ⟨fun h hm => h (if_pos hm), fun h hv => h (Frames.holder_verdict hv)⟩

theorem Frames.holderCode_eq (f : Frames) (i : Nat) :
    holderCode (f.holder i) =
      if i ∈ f.verdict then 4 else if i ∈ f.completed then 3 else if i ∈ f.slot then 2
      else if i ∈ f.planned then 1 else 0 := by
  unfold Frames.holder
  repeat' split
  all_goals rfl

/-- The checks that both verdicts begin with, STALE then NOT_IN_VERDICT; what they do past them is left open. -/
theorem inVerdict_answers {c : Instr} {o : Origin} {take : State → Served} {s : State} {index generation : Nat}
    {act : Served} {past : Prop} (h : s.accepts c o) (he : exec c s = request c o take s)
    (ht : take (s.heard o) = (s.heard o).inVerdict index generation act) (hp : take (s.heard o) = act → past) :
    if (s.frame index).generation ≠ generation then s.onlyAnswers c o .stale (be 1 (s.frame index).generation)
    else if index ∉ s.frames.verdict then
      s.onlyAnswers c o .notInVerdict
        (be 1 (if index ∈ s.frames.verdict then 4 else if index ∈ s.frames.completed then 3
          else if index ∈ s.frames.slot then 2 else if index ∈ s.frames.planned then 1 else 0))
    else past := by
  refine check_answers h he ht fun _ ht => ?_
  rw [← Frames.holderCode_eq, ← if_congr Frames.holder_ne_verdict rfl rfl]
  exact check_answers h he ht fun _ => hp

/-! ### A rewrite of entries and leaf records in either order -/

section rewrites
variable {slot leaf : Nat} {s : State}

theorem State.onEntry_onEntry (f g : CustodyEntry → CustodyEntry) :
    (s.onEntry slot f).onEntry slot g = s.onEntry slot (g ∘ f) := by
  simp only [State.onEntry, State.onCustody, Vec.edit_edit]

theorem LeafStore.edit_edit (k : Nat) (f g : LeafRecord → LeafRecord) (st : LeafStore) :
    LeafStore.edit k g (LeafStore.edit k f st) = LeafStore.edit k (g ∘ f) st := by
  simp only [LeafStore.edit, List.map_map]
  refine List.map_congr_left fun p _ => ?_
  by_cases hp : p.1 = k <;> simp [hp]

theorem State.onLeaf_onLeaf (f g : LeafRecord → LeafRecord) :
    (s.onLeaf slot leaf f).onLeaf slot leaf g = s.onLeaf slot leaf (g ∘ f) := by
  exact congrArg (fun st => s.onLeaves fun _ => st) (LeafStore.edit_edit _ f g s.custody.leaves)

/-- A record of a store with rising indices is the one record of its index. -/
theorem LeafStore.get_of_mem {st : LeafStore} (h : LeafStore.wf st) {k : Nat} {r : LeafRecord} (hm : (k, r) ∈ st) :
    LeafStore.get st k = some r := by
  obtain ⟨hsorted, -⟩ := h
  induction st with
  | nil => cases hm
  | cons p rest ih =>
    rw [List.map_cons, List.pairwise_cons] at hsorted
    rcases List.mem_cons.1 hm with rfl | hrest
    · exact if_pos rfl
    · have hne : p.1 ≠ k := (hsorted.1 k (List.mem_map_of_mem hrest)).ne
      exact (if_neg hne).trans (ih hrest hsorted.2)

/-- Rewriting a leaf record by functions that agree on it. -/
theorem State.onLeaf_congr {f g : LeafRecord → LeafRecord} (hwf : LeafStore.wf s.custody.leaves)
    (h : f (s.leaf slot leaf) = g (s.leaf slot leaf)) : s.onLeaf slot leaf f = s.onLeaf slot leaf g := by
  have hedit : LeafStore.edit ((s.entry slot).extentBase + leaf) f s.custody.leaves =
      LeafStore.edit ((s.entry slot).extentBase + leaf) g s.custody.leaves := by
    refine List.map_congr_left fun p hp => ?_
    split
    · next hk =>
      have hr : s.leaf slot leaf = p.2 := by
        rw [State.leaf, Custody.leafOf, ← hk, LeafStore.get_of_mem hwf hp]
        rfl
      rw [← hr, h]
    · rfl
  simp only [State.onLeaf, State.onLeaves, State.onCustody, hedit]

theorem State.extentBase_onEntry {k : CustodyEntry → CustodyEntry} (hk : ∀ e, (k e).extentBase = e.extentBase) :
    ((s.onEntry slot k).entry slot).extentBase = (s.entry slot).extentBase := by
  by_cases hs : slot < 8
  · rw [State.entry_onEntry _ _ _ _ hs, if_pos rfl, hk]
  · simp [State.entry, Vec.at, hs]

/-- An entry that keeps its extent may be rewritten before or after a leaf record. -/
theorem State.onLeaf_onEntry (f : LeafRecord → LeafRecord) {k : CustodyEntry → CustodyEntry}
    (hk : ∀ e, (k e).extentBase = e.extentBase) :
    (s.onLeaf slot leaf f).onEntry slot k = (s.onEntry slot k).onLeaf slot leaf f := by
  simp only [State.onLeaf, State.extentBase_onEntry hk]
  rfl

/-- An entry that keeps its extent keeps its leaves. -/
theorem State.leaf_onEntry {k : CustodyEntry → CustodyEntry} (hk : ∀ e, (k e).extentBase = e.extentBase) :
    (s.onEntry slot k).leaf slot leaf = s.leaf slot leaf := by
  simp only [State.leaf, Custody.leafOf, State.extentBase_onEntry hk]
  rfl

/-- The queues are no part of custody. -/
theorem State.onFrames_booked (q : Frames → Frames) (f : LeafRecord → LeafRecord) (k : CustodyEntry → CustodyEntry) :
    ((s.onLeaf slot leaf f).onEntry slot k).onFrames q = ((s.onFrames q).onLeaf slot leaf f).onEntry slot k := rfl

/-- Two bookings on an entry and on one of its leaf records, gathered. -/
theorem State.onLeaf_onEntry_twice {f g : LeafRecord → LeafRecord} {k m : CustodyEntry → CustodyEntry}
    (hk : ∀ e, (k e).extentBase = e.extentBase) (hm : ∀ e, (m e).extentBase = e.extentBase) :
    (((s.onLeaf slot leaf f).onEntry slot k).onEntry slot m).onLeaf slot leaf g =
      (s.onEntry slot (m ∘ k)).onLeaf slot leaf (g ∘ f) := by
  rw [State.onEntry_onEntry, State.onLeaf_onEntry (k := m ∘ k) f fun e => (hm (k e)).trans (hk e), State.onLeaf_onLeaf]

/-- An entry and one of its leaf records rewritten: what each is to be decides (R28). -/
theorem State.onEntry_onLeaf_eq {k g : CustodyEntry → CustodyEntry} {f : LeafRecord → LeafRecord} {r : LeafRecord}
    (hwf : LeafStore.wf s.custody.leaves) (hk : ∀ e, (k e).extentBase = e.extentBase)
    (hentry : k (s.entry slot) = g (s.entry slot)) (hleaf : f (s.leaf slot leaf) = r) :
    (s.onEntry slot k).onLeaf slot leaf f = (s.onEntry slot g).onLeaf slot leaf fun _ => r := by
  rw [← State.onEntry_congr hentry]
  exact State.onLeaf_congr hwf (by rw [State.leaf_onEntry hk, hleaf])

end rewrites

/-! ### A booking on one face of a leaf (R33, R42, R44) -/

/-- The face of a leaf that a side of an opening shows (R35). -/
def leafFace : Side → Nat → Face
  | .left, leaf => .verso leaf
  | .right, leaf => .recto leaf

theorem State.onFace_leafFace (slot : Nat) (side : Side) (leaf : Nat) (f : FaceRecord → FaceRecord) (s : State) :
    s.onFace slot (leafFace side leaf) f = s.onLeaf slot leaf (LeafRecord.onSide side f) := by
  cases side <;> rfl

theorem State.faceRecord_leafFace (slot : Nat) (side : Side) (leaf : Nat) (s : State) :
    s.faceRecord slot (leafFace side leaf) = some ((s.leaf slot leaf).sideOf side) := by
  cases side <;> rfl

theorem LeafRecord.onSide_onSide (side : Side) (f g : FaceRecord → FaceRecord) (r : LeafRecord) :
    (r.onSide side f).onSide side g = r.onSide side (g ∘ f) := by
  cases side <;> rfl

/-- A face record with a band in its coverage (R42). -/
def FaceRecord.covered (bank : Nat) (f : FaceRecord) : FaceRecord :=
  { f with coverage := f.coverage ||| BitVec.ofNat 8 (2 ^ bank) }

/-- A face record with the booking of a frame released (R33). -/
def FaceRecord.released (f : FaceRecord) : FaceRecord := { f with framesOpen := f.framesOpen - 1 }

/-- An entry with the booking of a frame released (R19). -/
def CustodyEntry.released (e : CustodyEntry) : CustodyEntry := { e with framesOpen := e.framesOpen - 1 }

/-- An entry with a new band booked, which makes a leaf complete or does not (R42, R44). -/
def CustodyEntry.covered (completes : Bool) (e : CustodyEntry) : CustodyEntry :=
  { e with
    framesAccepted := e.framesAccepted + 1
    leavesComplete := if completes then e.leavesComplete + 1 else e.leavesComplete }

/-- Completeness is a matter of the mark and of the two coverage sets (R43). -/
theorem leafComplete_onSide {side : Side} {f g : FaceRecord → FaceRecord} {r : LeafRecord} (required : BandSet)
    (h : (f (r.sideOf side)).coverage = (g (r.sideOf side)).coverage) :
    leafComplete required (r.onSide side f) = leafComplete required (r.onSide side g) := by
  cases side
  all_goals
    simp only [LeafRecord.sideOf] at h
    simp only [leafComplete, LeafRecord.onSide, h]

/-- A band booked on a face that has it already changes nothing (R42). -/
theorem State.bookCoverage_already {slot leaf band : Nat} {side : Side} {s : State}
    (h : ((s.leaf slot leaf).sideOf side).coverage.getLsbD band = true) :
    s.bookCoverage slot (leafFace side leaf) band = (.already, s) := by
  cases side
  all_goals exact if_pos h

/-- A new band joins the coverage of its face, and the counts of the entry follow (R42, R44). -/
theorem State.bookCoverage_new {slot leaf band : Nat} {side : Side} {s : State}
    (hrecord : LeafStore.get s.custody.leaves ((s.entry slot).extentBase + leaf) ≠ none)
    (h : ((s.leaf slot leaf).sideOf side).coverage.getLsbD band = false) :
    s.bookCoverage slot (leafFace side leaf) band =
      (.new, (s.onLeaf slot leaf (LeafRecord.onSide side (.covered band))).onEntry slot
        (.covered
          (leafComplete (s.entry slot).required ((s.leaf slot leaf).onSide side (.covered band)) &&
            !leafComplete (s.entry slot).required (s.leaf slot leaf)))) := by
  have hleaf := State.leaf_onLeaf (LeafRecord.onSide side (.covered band)) hrecord leaf
  rw [if_pos rfl] at hleaf
  rw [← hleaf]
  cases side
  all_goals exact if_neg (by simpa [LeafRecord.sideOf] using h)

/-! ### A verdict returns its descriptor to FREE (R131) -/

/-- The queues after a verdict on a descriptor (R131). -/
def Frames.freed (index : Nat) (q : Frames) : Frames :=
  { q with verdict := q.verdict.filter (· ≠ index), free := q.free ++ [index] }

/-- The sweep record where a pending build goes on waiting (R147). -/
def Sweep.waiting (w : Sweep) : Sweep :=
  { w with
    state := if w.buildPending then .walking else w.state
    stage := if w.buildPending then none else w.stage }

theorem Sweep.waiting_of_pending {w : Sweep} (h : w.buildPending = true) :
    w.waiting = { w with buildPending := true, state := .walking, stage := none } := by
  rw [Sweep.waiting, h]
  rfl

theorem Sweep.waiting_of_none {w : Sweep} (h : w.buildPending = false) : w.waiting = w := by
  rw [Sweep.waiting, h, if_neg Bool.false_ne_true, if_neg Bool.false_ne_true, ← h]

theorem State.onSweep_congr {s : State} {f g : Sweep → Sweep} (h : f s.walker.sweep = g s.walker.sweep) :
    s.onSweep f = s.onSweep g :=
  congrArg (fun w => s.onSweep fun _ => w) h

theorem State.onSweep_eq {s : State} {f : Sweep → Sweep} {w : Sweep} (h : s.walker.sweep = w) :
    s.onSweep f = s.onWalker fun k => { k with sweep := f w } := by
  subst h
  rfl

/-- A pending build waits on while FREE is short, and without one nothing changes (R147). -/
theorem State.tryPendingBuild_waits {s : State}
    (h : s.walker.sweep.buildPending = false ∨
      s.frames.free.length < s.walker.cameraCount s.walker.sweep.nextEntry) :
    s.tryPendingBuild = s.onSweep .waiting := by
  cases hb : s.walker.sweep.buildPending
  · rw [State.tryPendingBuild, hb, if_neg Bool.false_ne_true]
    exact (State.onSweep_same (Sweep.waiting_of_none hb)).symm
  · have hshort := h.resolve_left (by rw [hb]; nofun)
    rw [State.tryPendingBuild, hb, if_pos rfl, State.nextBuild]
    exact (if_neg (not_le.2 hshort)).trans (State.onSweep_congr (Sweep.waiting_of_pending hb).symm)

/-- The leaf record after an accepted frame: its booking released, a new band in the coverage of its face. -/
def LeafRecord.accepted (side : Side) (bank : Nat) (new : Prop) [Decidable new] : LeafRecord → LeafRecord :=
  LeafRecord.onSide side fun f =>
    { f with
      framesOpen := f.framesOpen - 1
      coverage := if new then f.coverage ||| BitVec.ofNat 8 (2 ^ bank) else f.coverage }

/-- The entry after an accepted frame, with the counts it is to have. -/
def CustodyEntry.accepted (accepted complete : Nat) (e : CustodyEntry) : CustodyEntry :=
  { e with framesOpen := e.framesOpen - 1, framesAccepted := accepted, leavesComplete := complete }

section accept
variable {index leaf : Nat} {side : Side} {s : State}

/-- Leaves complete after a band is booked: raised when the leaf becomes complete by it (R44). -/
def State.completeAfter (slot leaf : Nat) (side : Side) (bank : Nat) (s : State) : Nat :=
  let r := s.leaf slot leaf
  let e := s.entry slot
  let new := (r.sideOf side).coverage.getLsbD bank = false
  if new ∧ leafComplete e.required r = false ∧ leafComplete e.required (LeafRecord.accepted side bank new r) = true then
    e.leavesComplete + 1
  else e.leavesComplete

/-- A return to FREE releases the booking on the entry and on the face (R19, R33, R131). -/
theorem State.returnToFree_leaf {d : Descriptor} (hd : s.frame index = d) (hface : d.face = leafFace side leaf) :
    s.returnToFree index =
      ((s.onFrames (.freed index)).onEntry d.volume.slot .released).onLeaf d.volume.slot leaf
        (LeafRecord.onSide side .released) := by
  rw [← State.onFace_leafFace, ← hface, ← hd]
  rfl

/-- An accepted frame of a leaf: its band booked on its face, the descriptor in FREE (R137). -/
theorem State.acceptFrame_eq {d : Descriptor} (hd : s.frame index = d) (hface : d.face = leafFace side leaf)
    (hs : d.volume.slot < 8) (hu : s.inUse d.volume.slot) (hl : leaf < (s.entry d.volume.slot).leafCount)
    (hstore : s.extentsShareStore) :
    let slot := d.volume.slot
    let new := ((s.leaf slot leaf).sideOf side).coverage.getLsbD d.bank = false
    let booked := s.bookCoverage slot d.face d.bank
    booked.1 = (if new then .new else .already) ∧
      booked.2.returnToFree index =
        ((s.onFrames (.freed index)).onEntry slot
          (.accepted (if new then (s.entry slot).framesAccepted + 1 else (s.entry slot).framesAccepted)
            (s.completeAfter slot leaf side d.bank))).onLeaf slot leaf
          fun _ => LeafRecord.accepted side d.bank new (s.leaf slot leaf) := by
  intro slot new booked
  have hrecord := hstore.record hs hu hl
  have hwf := hstore.wf
  by_cases hnew : new
  · have hbooked : booked = _ :=
      (congrArg (fun face => s.bookCoverage slot face d.bank) hface).trans (State.bookCoverage_new hrecord hnew)
    have hframe : booked.2.frame index = d := by rw [hbooked]; exact hd
    refine ⟨by rw [hbooked, if_pos hnew], ?_⟩
    rw [State.returnToFree_leaf hframe hface, hbooked, if_pos hnew]
    have hcomplete : leafComplete (s.entry slot).required ((s.leaf slot leaf).onSide side (.covered d.bank)) =
        leafComplete (s.entry slot).required (LeafRecord.accepted side d.bank new (s.leaf slot leaf)) :=
      leafComplete_onSide _ (if_pos hnew).symm
    rw [State.onFrames_booked,
      State.onLeaf_onEntry_twice (k := .covered _) (m := .released) (fun _ => rfl) fun _ => rfl]
    refine State.onEntry_onLeaf_eq (s := s.onFrames (.freed index)) hwf (fun _ => rfl) ?_ ?_
    · have hcount : s.completeAfter slot leaf side d.bank =
          if leafComplete (s.entry slot).required (LeafRecord.accepted side d.bank new (s.leaf slot leaf)) &&
              !leafComplete (s.entry slot).required (s.leaf slot leaf) then (s.entry slot).leavesComplete + 1
          else (s.entry slot).leavesComplete := by
        refine if_congr ?_ rfl rfl
        rw [Bool.and_eq_true, Bool.not_eq_true', and_comm (a := _ = true)]
        exact and_iff_right hnew
      show CustodyEntry.released (CustodyEntry.covered _ (s.entry slot)) = _
      rw [hcomplete, hcount]
      rfl
    · show LeafRecord.onSide side .released ((s.leaf slot leaf).onSide side (.covered d.bank)) = _
      rw [LeafRecord.onSide_onSide]
      simp only [LeafRecord.accepted, if_pos hnew]
      rfl
  · have htrue : ((s.leaf slot leaf).sideOf side).coverage.getLsbD d.bank = true := by simpa [new] using hnew
    have hbooked : booked = (.already, s) :=
      (congrArg (fun face => s.bookCoverage slot face d.bank) hface).trans (State.bookCoverage_already htrue)
    have hcomplete : s.completeAfter slot leaf side d.bank = (s.entry slot).leavesComplete := if_neg fun h => hnew h.1
    refine ⟨by rw [hbooked, if_neg hnew], ?_⟩
    rw [hbooked, State.returnToFree_leaf hd hface, if_neg hnew, hcomplete]
    refine State.onEntry_onLeaf_eq (s := s.onFrames (.freed index)) hwf (fun _ => rfl) rfl ?_
    simp only [LeafRecord.accepted, if_neg hnew]
    rfl

/-- What an accepted frame leaves of its entry and of its face, read for the reply (R137, log 20). -/
theorem State.accepted_reads {slot accepted complete : Nat} {r : LeafRecord} (hs : slot < 8)
    (hrecord : LeafStore.get s.custody.leaves ((s.entry slot).extentBase + leaf) ≠ none) (f : Sweep → Sweep) :
    let t := ((s.onEntry slot (.accepted accepted complete)).onLeaf slot leaf fun _ => r).onSweep f
    t.entry slot = (s.entry slot).accepted accepted complete ∧
      t.faceRecord slot (leafFace side leaf) = some (r.sideOf side) := by
  intro t
  refine ⟨(State.entry_onEntry _ _ _ _ hs).trans (if_pos rfl), ?_⟩
  rw [State.faceRecord_leafFace]
  refine congrArg (fun x => some (LeafRecord.sideOf x side)) ?_
  refine (State.leaf_onLeaf (s := s.onEntry slot (.accepted accepted complete)) (fun _ => r) ?_ leaf).trans (if_pos rfl)
  rw [State.extentBase_onEntry (k := .accepted accepted complete) fun _ => rfl]
  exact hrecord

/-- ACCEPT FRAME of a leaf, a pending build waiting on: the next state and the reply (R137, R147). -/
theorem State.acceptFrame_leaf {d : Descriptor} (generation : Nat) (hd : s.frame index = d)
    (hface : d.face = leafFace side leaf) (hs : d.volume.slot < 8) (hu : s.inUse d.volume.slot)
    (hl : leaf < (s.entry d.volume.slot).leafCount) (hstore : s.extentsShareStore)
    (hwaits : s.walker.sweep.buildPending = false ∨
      s.frames.free.length + 1 < s.walker.cameraCount s.walker.sweep.nextEntry) :
    let slot := d.volume.slot
    let new := ((s.leaf slot leaf).sideOf side).coverage.getLsbD d.bank = false
    let accepted := if new then (s.entry slot).framesAccepted + 1 else (s.entry slot).framesAccepted
    let complete := s.completeAfter slot leaf side d.bank
    let x := LeafRecord.accepted side d.bank new (s.leaf slot leaf)
    let booked := s.bookCoverage slot d.face d.bank
    booked.2.freeByVerdict index =
        (((s.onFrames (.freed index)).onEntry slot (.accepted accepted complete)).onLeaf slot leaf
          fun _ => x).onSweep .waiting ∧
      acceptReply index generation d booked.1 (booked.2.freeByVerdict index) =
        be 1 index ++ be 1 generation ++ be 1 (if new then 0 else 1) ++ be 1 slot ++ be 2 accepted ++
          be 2 complete ++ be 2 ((s.entry slot).framesOpen - 1) ++ be 2 (x.sideOf side).framesOpen := by
  intro slot new accepted complete x booked
  obtain ⟨hanswer, hreturn⟩ := State.acceptFrame_eq hd hface hs hu hl hstore
  have hfree : booked.2.freeByVerdict index =
      (((s.onFrames (.freed index)).onEntry slot (.accepted accepted complete)).onLeaf slot leaf
        fun _ => x).onSweep .waiting := by
    rw [State.freeByVerdict, hreturn]
    refine State.tryPendingBuild_waits (hwaits.imp_right fun hshort => ?_)
    show (s.frames.free ++ [index]).length < _
    rw [List.length_append]
    exact hshort
  refine ⟨hfree, ?_⟩
  obtain ⟨hentry, hrecord⟩ := State.accepted_reads (s := s.onFrames (.freed index)) (leaf := leaf) (side := side)
    (accepted := accepted) (complete := complete) (r := x) hs (hstore.record hs hu hl) .waiting
  have hcode : coverageAnswerCode booked.1 = if new then 0 else 1 := by
    rw [hanswer]
    split <;> rfl
  rw [hfree, acceptReply, hentry, hface, hrecord, hcode]
  rfl

end accept

/-! ### A verdict with a pending build that waits on -/

section waits
variable {index : Nat} {s : State}

/-- A verdict on which no build follows: the descriptor in FREE, its booking released (R131). -/
theorem State.freeByVerdict_waits (hwaits : s.walker.sweep.buildPending = false ∨
      s.frames.free.length + 1 < s.walker.cameraCount s.walker.sweep.nextEntry) :
    s.freeByVerdict index =
      ((s.onFrames (.freed index)).releaseFrame (s.frame index).volume.slot (s.frame index).face).onWalker fun w =>
        { w with sweep := s.walker.sweep.waiting } := by
  have hreleased : s.returnToFree index =
      (s.onFrames (.freed index)).releaseFrame (s.frame index).volume.slot (s.frame index).face := rfl
  have hwaits' := State.tryPendingBuild_waits
    (s := (s.onFrames (.freed index)).releaseFrame (s.frame index).volume.slot (s.frame index).face)
    (by simpa [Frames.freed] using hwaits)
  rw [State.freeByVerdict, hreleased, hwaits']
  refine State.onSweep_eq ?_
  simp

theorem State.entry_releaseFrame {slot : Nat} (hs : slot < 8) (face : Face) :
    (s.releaseFrame slot face).entry slot = (s.entry slot).released := by
  rw [State.releaseFrame, State.entry_onFace, State.entry_onEntry _ _ _ _ hs, if_pos rfl]
  rfl

/-- ACCEPT FRAME of the BOARD: no band is booked (R42, R137). -/
theorem State.acceptFrame_board {d : Descriptor} (generation : Nat) (hd : s.frame index = d) (hface : d.face = .board)
    (hs : d.volume.slot < 8) (hwaits : s.walker.sweep.buildPending = false ∨
      s.frames.free.length + 1 < s.walker.cameraCount s.walker.sweep.nextEntry) :
    let slot := d.volume.slot
    let booked := s.bookCoverage slot d.face d.bank
    booked.2.freeByVerdict index =
        (((s.onFrames (.freed index)).onEntry slot .released).onWalker fun w =>
          { w with sweep := s.walker.sweep.waiting }) ∧
      acceptReply index generation d booked.1 (booked.2.freeByVerdict index) =
        be 1 index ++ be 1 generation ++ be 1 2 ++ be 1 slot ++ be 2 (s.entry slot).framesAccepted ++
          be 2 (s.entry slot).leavesComplete ++ be 2 ((s.entry slot).framesOpen - 1) ++ be 2 65535 := by
  intro slot booked
  have hbooked : booked = (.board, s) :=
    congrArg (fun face => s.bookCoverage slot face d.bank) hface
  have hstate := State.freeByVerdict_waits (index := index) hwaits
  rw [hd, hface] at hstate
  rw [hbooked]
  refine ⟨hstate, ?_⟩
  have hentry : (s.freeByVerdict index).entry slot = (s.entry slot).released := by
    rw [hstate]
    exact State.entry_releaseFrame (s := s.onFrames (.freed index)) hs .board
  rw [acceptReply, hentry, hface]
  rfl

end waits

end Sys2Proof.Machine
end

section
/-! PROOFS. A pending build is made and its exposure started (R147 to R149). -/

namespace Sys2Proof.Machine

/-! ### A pending build is made (R147) -/

/-- A sweep waits with its build pending, PLANNED and the slot empty; FREE can serve its next entry `e`, and the
projection of that entry passes. -/
structure State.buildReady (e : PlanEntry) (v : VolumeName) (s : State) : Prop where
  pending : s.walker.sweep.buildPending = true
  walking : s.walker.sweep.state = .walking
  slot : s.frames.slot = []
  planned : s.frames.planned = []
  whole : s.frames.whole
  entry : s.walker.planAt s.walker.sweep.nextEntry = some e
  free : (cameraSetList e.cameras).length ≤ s.frames.free.length
  mounted : s.mountedSlot = some v.slot
  generation : (s.entry v.slot).generation = v.generation
  passes : (s.projection e.bank e.level e.duration).passes = true

/-- The plan entry after the one built, around the plan (R147). -/
def Walker.entryAfter (w : Walker) : Nat :=
  if w.sweep.nextEntry + 1 < w.planLength then w.sweep.nextEntry + 1 else 0

/-- The state with the pending build made, its exposure not yet started (R147). -/
def State.pendingBuilt (s : State) : State :=
  (s.buildEntry s.walker.sweep.nextEntry).onSweep fun w =>
    { w with buildPending := false, nextEntry := s.walker.entryAfter }

theorem State.pendingBuilt_captures (s : State) : s.captureFrame s.pendingBuilt ∧ s.pendingBuilt.outbox = s.outbox :=
  ⟨(s.buildEntry_captures _).trans (State.onSweep_captures _ _), by simp [State.pendingBuilt]⟩

/-- A list of takes that is not empty leaves the count of descriptors built saturated. -/
theorem State.takeAll_counts_cons {v : VolumeName} {n l : Nat} {s : State} {jobs : List BuildJob} (hne : jobs ≠ [])
    (hlen : jobs.length ≤ s.frames.free.length) : (s.takeAll v n l jobs).walker =
      { s.walker with
        sweep := { s.walker.sweep with
          counts := { s.walker.sweep.counts with
            built := min 4294967295 (s.walker.sweep.counts.built + jobs.length) } } } := by
  obtain ⟨job, rest, rfl⟩ := List.exists_cons_of_ne_nil hne
  rw [List.length_cons] at hlen
  obtain ⟨index, free, hfree⟩ := List.exists_cons_of_length_pos (show 0 < s.frames.free.length by omega)
  let t := s.takeFromFree v n job.2.2 (faceSeen l n job.2.2) job.1 job.2.1
  obtain ⟨g, hg⟩ := State.takeFromFree_cons hfree v n job.2.2 (faceSeen l n job.2.2) job.1 job.2.1
  have hfirst : t.walker =
      { s.walker with
        sweep := { s.walker.sweep with
          counts := { s.walker.sweep.counts with built := min 4294967295 (s.walker.sweep.counts.built + 1) } } } := by
    simp [t, hg, State.onCounts, State.onSweep, count32, satAdd]
  have hlength : t.frames.free.length = s.frames.free.length - 1 := by simp [t, hg, hfree]
  have hrest := State.takeAll_counts (v := v) (n := n) (l := l) rest t (by omega)
    (by rw [hfirst]; exact Nat.min_le_left _ _)
  have hsum : min 4294967295 (min 4294967295 (s.walker.sweep.counts.built + 1) + rest.length) =
      min 4294967295 (s.walker.sweep.counts.built + (rest.length + 1)) := by omega
  rw [hfirst, hsum] at hrest
  exact hrest

theorem cameraSetList_ne_nil (cameras : CameraSet) : cameraSetList cameras ≠ [] := by cases cameras <;> nofun

namespace State.buildReady
variable {e : PlanEntry} {v : VolumeName} {s : State}

theorem jobs_eq (h : s.buildReady e v) : s.walker.jobs s.walker.sweep.nextEntry =
    (cameraSetList e.cameras).map fun camera => (s.walker.sweep.nextEntry, e, camera) := by
  rw [Walker.jobs, h.entry]

theorem jobs_length (h : s.buildReady e v) :
    (s.walker.jobs s.walker.sweep.nextEntry).length = (cameraSetList e.cameras).length := by
  rw [h.jobs_eq, List.length_map]

/-- The build is made and its exposure started. -/
theorem tryPendingBuild (h : s.buildReady e v) : s.tryPendingBuild = s.pendingBuilt.start := by
  have hneed : s.walker.cameraCount s.walker.sweep.nextEntry ≤ s.frames.free.length := by
    rw [← Walker.jobs_length, h.jobs_length]
    exact h.free
  rw [State.tryPendingBuild, h.pending, if_pos rfl, State.nextBuild]
  exact if_pos hneed

/-- The build as the takes of its descriptors. -/
theorem built_eq (h : s.buildReady e v) :
    s.buildEntry s.walker.sweep.nextEntry =
      s.takeAll v s.cradle.opening (s.entry v.slot).leafCount (s.walker.jobs s.walker.sweep.nextEntry) :=
  State.builder.buildEntry ⟨h.mounted, h.generation, rfl, rfl, rfl⟩ _

theorem taken (h : s.buildReady e v) :
    s.taken v s.cradle.opening (s.entry v.slot).leafCount (s.walker.jobs s.walker.sweep.nextEntry) s.pendingBuilt := by
  have hlen : (s.walker.jobs s.walker.sweep.nextEntry).length ≤ s.frames.free.length := by
    rw [h.jobs_length]
    exact h.free
  have htaken := State.takeAll_taken (n := s.cradle.opening) (l := (s.entry v.slot).leafCount)
    (State.mountedSlot_some.1 h.mounted).1 _ s hlen
  rw [← h.built_eq] at htaken
  exact htaken.congr ⟨rfl, rfl⟩ ⟨rfl, rfl⟩

theorem walks (h : s.buildReady e v) : s.walks v.slot s.pendingBuilt :=
  (State.buildEntry_walks h.mounted _).trans (.of_walker rfl rfl rfl rfl rfl rfl rfl rfl)

/-- The walker with the build made. -/
theorem walker (h : s.buildReady e v) : s.pendingBuilt.walker =
    { s.walker with
      sweep := { s.walker.sweep with
        buildPending := false
        nextEntry := s.walker.entryAfter
        counts := { s.walker.sweep.counts with
          built := min 4294967295 (s.walker.sweep.counts.built + (cameraSetList e.cameras).length) } } } := by
  have hne : s.walker.jobs s.walker.sweep.nextEntry ≠ [] := by
    rw [h.jobs_eq]
    exact fun hnil => cameraSetList_ne_nil _ (List.map_eq_nil_iff.1 hnil)
  have hcounts := State.takeAll_counts_cons (v := v) (n := s.cradle.opening) (l := (s.entry v.slot).leafCount) hne
    (by rw [h.jobs_length]; exact h.free)
  rw [← h.built_eq, h.jobs_length] at hcounts
  rw [State.pendingBuilt, State.onSweep, State.onWalker_walker, hcounts]

/-- The descriptors built, as their takes write them (R130). -/
theorem written (h : s.buildReady e v) :
    ∀ p ∈ (s.frames.free.take (cameraSetList e.cameras).length).zip (s.walker.jobs s.walker.sweep.nextEntry),
      s.pendingBuilt.frame p.1 = p.2.write v s.cradle.opening (s.entry v.slot).leafCount (s.frame p.1) := by
  rw [← h.jobs_length]
  exact h.taken.written h.whole

theorem group_length (h : s.buildReady e v) :
    (s.frames.free.take (cameraSetList e.cameras).length).length =
      (s.walker.jobs s.walker.sweep.nextEntry).length := by
  rw [h.jobs_length, List.length_take, Nat.min_eq_left h.free]

/-- Each descriptor built is PLANNED for the entry. -/
theorem frame (h : s.buildReady e v) {i : Nat} (hi : i ∈ s.frames.free.take (cameraSetList e.cameras).length) :
    (s.pendingBuilt.frame i).status = .planned ∧ (s.pendingBuilt.frame i).planEntry = s.walker.sweep.nextEntry ∧
      (s.pendingBuilt.frame i).bank = e.bank ∧ (s.pendingBuilt.frame i).level = e.level ∧
      (s.pendingBuilt.frame i).duration = e.duration := by
  obtain ⟨job, hp⟩ := exists_mem_zip h.group_length.le hi
  have hjob := (List.of_mem_zip hp).2
  rw [h.jobs_eq] at hjob
  obtain ⟨camera, -, rfl⟩ := List.mem_map.1 hjob
  rw [h.written _ hp]
  exact ⟨rfl, rfl, rfl, rfl, rfl⟩

/-- The exposure of the entry stands ready to start (R148). -/
theorem poised (h : s.buildReady e v) : s.pendingBuilt.poised e s.walker.sweep.nextEntry
    (s.frames.free.take (cameraSetList e.cameras).length) [] := by
  have hlen := h.jobs_length
  constructor
  case walking => rw [h.walker]; exact h.walking
  case slot => exact h.taken.slot.trans h.slot
  case planned => rw [h.taken.planned, h.planned, hlen, List.nil_append, List.append_nil]
  case cameras =>
    let group := s.frames.free.take (cameraSetList e.cameras).length
    calc group.map (fun i => (s.pendingBuilt.frame i).camera)
        = ((group.zip (s.walker.jobs s.walker.sweep.nextEntry)).map Prod.fst).map
            fun i => (s.pendingBuilt.frame i).camera := by rw [List.map_fst_zip h.group_length.le]
      _ = ((group.zip (s.walker.jobs s.walker.sweep.nextEntry)).map Prod.snd).map fun job => job.2.2 := by
        rw [List.map_map, List.map_map]
        exact List.map_congr_left fun p hp => (congrArg Descriptor.camera (h.written p hp) :)
      _ = cameraSetList e.cameras := by
        rw [List.map_snd_zip h.group_length.ge, h.jobs_eq, List.map_map]
        exact List.map_id' _
  case fields => exact fun i hi => (h.frame hi).2
  case others => nofun
  case passes =>
    rw [h.walks.booked.projection h.walks.cradle s.pendingBuilt_captures.1.2.1 h.mounted]
    exact h.passes

/-- With a camera concerned not READY the exposure waits for its cameras (R149). -/
theorem starts (h : s.buildReady e v)
    (hready : ((cameraSetList e.cameras).all fun camera => (s.walker.port camera).ready) = false) :
    s.pendingBuilt.hasStarted e false (s.frames.free.take (cameraSetList e.cameras).length) [] s.tryPendingBuild := by
  rw [h.tryPendingBuild]
  refine h.poised.start_waits ?_
  rw [← hready, h.walker]
  rfl

end State.buildReady

end Sys2Proof.Machine
end

section
/-! PROOFS. The frames taken and judged (R135 to R138, R147). -/

namespace Sys2Proof.Machine

/-! ### A verdict leaves the faces no nearer their budget (R118) -/

section judged
variable {index : Nat} {s t u : State}

theorem State.spares.of_custody (h : t.custody = s.custody) : s.spares t := by
  have hentry (i : Nat) : t.entry i = s.entry i := by rw [State.entry, h]; rfl
  exact ⟨fun i _ => by rw [hentry], fun i _ _ => by simp [hentry], fun k side => by rw [h]⟩

theorem State.spares.refl (s : State) : s.spares s := .of_custody rfl

theorem State.spares.trans (h : s.spares t) (g : t.spares u) : s.spares u where
  mounted i hi := (g.mounted i hi).trans (h.mounted i hi)
  volume i hi hm := by
    obtain ⟨hbudget, hbase, hleaves⟩ := h.volume i hi hm
    obtain ⟨hbudget', hbase', hleaves'⟩ := g.volume i hi ((h.mounted i hi).2 hm)
    exact ⟨hbudget'.trans hbudget, hbase'.trans hbase, hleaves'.trans hleaves⟩
  doses k side := (g.doses k side).trans (h.doses k side)

/-- A rewrite of a face record that keeps its dose. -/
theorem State.spares.onFace (slot : Nat) (face : Face) {f : FaceRecord → FaceRecord} (hf : ∀ r, (f r).dose = r.dose)
    (s : State) : s.spares (s.onFace slot face f) := by
  have side (side : Side) (r : LeafRecord) (side' : Side) := (LeafRecord.dose_onSide side side' f hf r).le
  cases face with
  | verso leaf => exact .onLeaf slot leaf (side .left)
  | recto leaf => exact .onLeaf slot leaf (side .right)
  | board => exact .refl s

theorem State.spares.releaseFrame (slot : Nat) (face : Face) (s : State) : s.spares (s.releaseFrame slot face) :=
  .trans (.onEntry (f := .released) .rfl fun _ => ⟨rfl, rfl, rfl⟩)
    (.onFace slot face (f := .released) (fun _ => rfl) (s.onEntry slot .released))

theorem State.spares.bookCoverage (slot : Nat) (face : Face) (band : Nat) (s : State) :
    s.spares (s.bookCoverage slot face band).2 := by
  unfold State.bookCoverage
  split
  · split
    · exact .refl s
    · exact .trans (.onFace slot face (f := .covered band) (fun _ => rfl) s) (.onEntry .rfl fun _ => ⟨rfl, rfl, rfl⟩)
  · exact .refl s

/-- A projection that passed passes still (R118). -/
theorem State.spares.passes {slot bank level duration : Nat} (h : s.spares t) (hsettings : t.settings = s.settings)
    (hcradle : t.cradle = s.cradle) (hm : s.mountedSlot = some slot)
    (hpass : (s.projection bank level duration).passes = true) :
    (t.projection bank level duration).passes = true := by
  obtain ⟨hlt, hmounted, -⟩ := State.mountedSlot_some.1 hm
  obtain ⟨hbudget, hbase, hleaves⟩ := h.volume slot hlt hmounted
  have hmt : t.mountedSlot = some slot := h.mountedSlot.trans hm
  have hvisible : t.visible = s.visible := by simp only [State.visible, hmt, hm, hleaves, hcradle]
  have hcal (k : Nat) : t.calibration bank k = s.calibration bank k := by
    simp only [State.calibration, State.setting, State.word, hsettings]
  rw [State.projection_passes_iff _ _ _ _ _ hm] at hpass
  rw [State.projection_passes_iff _ _ _ _ _ hmt, hvisible, hcal, hcal, hbudget]
  intro v hv
  refine le_trans (Nat.add_le_add_right ?_ _) (hpass v hv)
  simp only [Custody.doseOf, Custody.leafOf, hbase]
  exact h.doses _ _

/-- A verdict on a descriptor, no build made: it stands in FREE, and of the other blocks custody alone has changed, no
face nearer its budget. -/
structure State.judged (index : Nat) (s t : State) : Prop where
  blocks : ∃ custody, t = (s.onFrames (.freed index)).onCustody fun _ => custody
  spares : s.spares t

theorem State.onFace_custody (slot : Nat) (face : Face) (f : FaceRecord → FaceRecord) (s : State) :
    ∃ custody, s.onFace slot face f = s.onCustody fun _ => custody := by
  cases face <;> exact ⟨_, rfl⟩

theorem State.bookCoverage_custody (slot : Nat) (face : Face) (band : Nat) (s : State) :
    ∃ custody, (s.bookCoverage slot face band).2 = s.onCustody fun _ => custody := by
  unfold State.bookCoverage
  split
  · split
    · exact ⟨s.custody, rfl⟩
    · obtain ⟨custody, hface⟩ := s.onFace_custody slot face fun r =>
        { r with coverage := r.coverage ||| BitVec.ofNat 8 (2 ^ band) }
      simp only [hface]
      exact ⟨_, rfl⟩
  · exact ⟨s.custody, rfl⟩

/-- The return to FREE after a booking that custody alone sees (R131). -/
theorem State.returnToFree_judged (hblocks : ∃ custody, t = s.onCustody fun _ => custody) (hspares : s.spares t) :
    s.judged index (t.returnToFree index) := by
  obtain ⟨custody, rfl⟩ := hblocks
  obtain ⟨custody', hface⟩ := State.onFace_custody (s.frame index).volume.slot (s.frame index).face .released
    (((s.onCustody fun _ => custody).onFrames (.freed index)).onEntry (s.frame index).volume.slot .released)
  have hqueues : (s.onCustody fun _ => custody).spares ((s.onCustody fun _ => custody).onFrames (.freed index)) :=
    .of_custody rfl
  exact ⟨⟨custody', hface⟩, (hspares.trans hqueues).trans (.releaseFrame _ _ _)⟩

theorem State.rejectFrame_judged : s.judged index (s.returnToFree index) :=
  State.returnToFree_judged ⟨s.custody, rfl⟩ (.refl s)

theorem State.acceptFrame_judged (slot : Nat) (face : Face) (band : Nat) :
    s.judged index ((s.bookCoverage slot face band).2.returnToFree index) :=
  State.returnToFree_judged (s.bookCoverage_custody slot face band) (.bookCoverage slot face band s)

theorem Frames.whole.freed {f : Frames} (h : f.whole) (hi : index ∈ f.verdict) : (f.freed index).whole := by
  let s : State := { State.reset with frames := f }
  have hframes : (s.returnToFree index).frames = f.freed index :=
    (State.releaseFrame_only (s.frame index).volume.slot (s.frame index).face (s.onFrames (.freed index))).2.2.1
  rw [← hframes]
  exact State.returnToFree_whole index s h hi

/-- After a verdict that brings FREE to what the next entry needs, the pending build can be made (R147). -/
theorem State.judged.buildReady {e : PlanEntry} {slot : Nat} (h : s.judged index t) (hsafe : s.LightSafe)
    (hpending : s.walker.sweep.buildPending = true) (hwhole : s.frames.whole) (hi : index ∈ s.frames.verdict)
    (hplanned : s.frames.planned = []) (hentry : s.walker.planAt s.walker.sweep.nextEntry = some e)
    (hfree : (cameraSetList e.cameras).length ≤ s.frames.free.length + 1) (hm : s.mountedSlot = some slot)
    (hpass : (s.projection e.bank e.level e.duration).passes = true) :
    t.buildReady e ⟨slot, (t.entry slot).generation⟩ := by
  obtain ⟨hwalking, -, hslot⟩ := hsafe.waiting hpending
  obtain ⟨⟨custody, rfl⟩, hspares⟩ := h
  exact
    { pending := hpending
      walking := hwalking
      slot := hslot
      planned := hplanned
      whole := hwhole.freed hi
      entry := hentry
      free := hfree.trans (List.length_append (as := s.frames.free) (bs := [index])).ge
      mounted := hspares.mountedSlot.trans hm
      generation := rfl
      passes := hspares.passes rfl rfl hm hpass }

/-- A verdict within which a pending build is made, a camera concerned not READY (R147, R149): the descriptors built
stand in the slot and wait for their cameras. -/
theorem verdict_builds {c : Instr} {o : Origin} {take : State → Served} {s t : State} {body : List Byte} {e : PlanEntry}
    {slot : Nat} (h : s.accepts c o) (he : exec c s = request c o take s)
    (ht : take (s.heard o) = okay body t.tryPendingBuild) (hj : (s.heard o).judged index t)
    (hready : t.buildReady e ⟨slot, (t.entry slot).generation⟩)
    (hcamera : ((cameraSetList e.cameras).all fun camera => (s.walker.port camera).ready) = false) :
    let w := s.walker.sweep
    let need := (cameraSetList e.cameras).length
    let built := (s.frames.free ++ [index]).take need
    ∃ u, exec c s = .next u ∧
      (u.port o.link).request = some (.answered { tag := o.tag, code := codeByte c, result := .ok, body := body }) ∧
      u.frames.verdict = s.frames.verdict.filter (· ≠ index) ∧ u.frames.slot = built ∧
      u.frames.free = (s.frames.free ++ [index]).drop need ∧ u.frames.planned = [] ∧
      u.frames.completed = s.frames.completed ∧
      u.walker.sweep =
        { w with
          buildPending := false, state := .waitCamera, stage := some .waitCamera
          nextEntry := if w.nextEntry + 1 < s.walker.planLength then w.nextEntry + 1 else 0
          counts := { w.counts with built := min 4294967295 (w.counts.built + need) } } ∧
      (∀ i ∈ built, (u.frame i).status = .planned ∧ (u.frame i).planEntry = w.nextEntry) ∧
      u.lights = s.lights ∧ u.meter = s.meter ∧ u.sameButCapture s ∧ s.notified u [] := by
  intro w need built
  obtain ⟨⟨custody, rfl⟩, -⟩ := hj
  let t := ((s.heard o).onFrames (.freed index)).onCustody fun _ => custody
  have hstarted := hready.starts hcamera
  have htaken := hready.taken
  have hwalks := hready.walks
  have hcaptures := t.tryPendingBuild_captures
  have hout : t.tryPendingBuild.outbox = [] := hstarted.outbox.trans (t.pendingBuilt_captures.2.trans h.1)
  have hcompleted : t.tryPendingBuild.frames.completed = s.frames.completed :=
    hstarted.completed.trans htaken.completed
  obtain ⟨u, hu, hreq, hsame, hnotes⟩ := request_outcome h ht he (t.tryPendingBuild_captures.links :)
  refine ⟨u, hu, hreq, ?_, ?_, ?_, ?_, ?_, ?_, fun i hi => ?_, ?_, ?_, hcaptures.sameButCapture hsame, ?_⟩
  · rw [hsame.frames]; exact hstarted.verdict.trans htaken.verdict
  · rw [hsame.frames]; exact hstarted.slot
  · rw [hsame.frames]
    exact hstarted.free.trans (htaken.free.trans (by rw [hready.jobs_length]; rfl))
  · rw [hsame.frames]; exact hstarted.planned
  · rw [hsame.frames]; exact hcompleted
  · rw [hsame.walker]
    exact hstarted.sweep.trans (by rw [hready.walker]; rfl)
  · have hlt : i < 256 := Frames.whole_lt hready.whole (.inl (List.mem_of_mem_take hi))
    have hnodup := Frames.whole_take_nodup hready.whole need need
    rw [List.take_take, Nat.min_self] at hnodup
    have hframe : u.frame i = t.pendingBuilt.frame i := by
      rw [State.frame, hsame.frames]
      exact (hstarted.frame hnodup i hlt).trans (if_neg (by simp))
    obtain ⟨hstatus, hentry, -⟩ := hready.frame hi
    rw [hframe]
    exact ⟨hstatus, hentry⟩
  · rw [hsame.lights]; exact hstarted.lights.trans hwalks.lights
  · rw [hsame.meter]; exact hstarted.meter.trans hwalks.meter
  · rw [hout, State.framesWaiting, hcompleted, if_neg (by tauto)] at hnotes
    exact hnotes

end judged

/-- A camera of an entry is not READY. -/
theorem notReady_of_camera {w : Walker} {cameras : CameraSet}
    (h : (w.left.ready = false ∧ cameras ≠ .right) ∨ (w.right.ready = false ∧ cameras ≠ .left)) :
    ((cameraSetList cameras).all fun camera => (w.port camera).ready) = false := by
  rcases h with ⟨hready, hne⟩ | ⟨hready, hne⟩
  · cases cameras
    case right => exact absurd rfl hne
    all_goals simp [cameraSetList, Walker.port, hready]
  · cases cameras
    case left => exact absurd rfl hne
    all_goals simp [cameraSetList, Walker.port, hready]

/-- Past its checks a verdict acts (R136). -/
theorem State.inVerdict_act {index generation : Nat} {act : Served} {s : State}
    (hg : (s.frame index).generation = generation) (hv : index ∈ s.frames.verdict) :
    s.inVerdict index generation act = act := by
  rw [State.inVerdict, if_neg (not_not.2 hg), if_neg fun hn => Frames.holder_ne_verdict.1 hn hv]

/-- The reply of either verdict begins with the index and the generation that it names. -/
theorem take_two_bytes (i generation : Nat) (rest : List Byte) :
    (be 1 i ++ be 1 generation ++ rest).take 2 = be 1 i ++ be 1 generation :=
  List.take_left' (by simp [Laws.Wire.be_length])

theorem acceptReply_take (index generation : Nat) (d : Descriptor) (answer : CoverageAnswer) (s : State) :
    (acceptReply index generation d answer s).take 2 = be 1 index ++ be 1 generation := by
  simp only [acceptReply, List.append_assoc]
  rw [← List.append_assoc (be 1 index)]
  exact take_two_bytes index generation _

theorem rejectReply_take (index generation : Nat) (status slot framesOpen : List Byte) :
    (be 1 index ++ be 1 generation ++ status ++ slot ++ framesOpen).take 2 = be 1 index ++ be 1 generation := by
  rw [List.append_assoc, List.append_assoc]
  exact take_two_bytes index generation _

/-- Settles O50: the checks of a verdict in turn, then its bookings as one rewrite of custody; where FREE has come to what
the next entry needs, the pending build as the takes of its descriptors and the start of its exposure. -/
theorem framesAreTakenAndJudged : Obligations.FramesAreTakenAndJudged := by
  unfold Obligations.FramesAreTakenAndJudged
  intro o s record need waitsOn
  have hrecord (i : Nat) : record i = frameRecordBytes i (s.frame i) := frameRecordBytes_eq i (s.frame i)
  have hneed : need = s.walker.cameraCount s.walker.sweep.nextEntry := by
    simp only [need, Walker.cameraCount]
    cases s.walker.planAt s.walker.sweep.nextEntry with
    | none => rfl
    | some e => cases h : e.cameras <;> simp [cameraSetCount, h]
  refine ⟨fun largest h => ?_, fun i => ?_, fun index generation => ?_⟩
  · rw [show record = fun i => frameRecordBytes i (s.frame i) from funext hrecord]
    exact takeFrames_answers h
  · rw [hrecord]
    exact frameRecordBytes_length i _
  intro d slot e band holder freed waiting refusals
  refine ⟨fun h => inVerdict_answers h rfl rfl fun ht => check_answers h rfl ht fun hstatus ht hwaits hs => ?_,
    fun h => inVerdict_answers h rfl rfl fun ht hwaits hs => ?_, ?_⟩
  · simp only [waitsOn, hneed] at hwaits
    intro books
    have hleaf (leaf : Nat) (side : Side) (hface : d.face = leafFace side leaf) : books leaf side := by
      intro hu hl hstore hbank r new x complete accepted
      obtain ⟨hstate, hreply⟩ := State.acceptFrame_leaf (s := s.heard o) generation rfl hface hs hu hl
        (State.extentsShareStore.congr (s := s) (.of_custody rfl) hstore) hwaits
      refine answersWith_of_completed h rfl (ht.trans ?_) h.1 id
      show okay (acceptReply ..) _ = _
      rw [hreply, hstate]
      rfl
    split
    · next hface =>
      obtain ⟨hstate, hreply⟩ := State.acceptFrame_board (s := s.heard o) generation rfl hface hs hwaits
      refine answersWith_of_completed h rfl (ht.trans ?_) h.1 id
      show okay (acceptReply ..) _ = _
      rw [hreply, hstate]
      rfl
    · next leaf hface => exact hleaf leaf .left hface
    · next leaf hface => exact hleaf leaf .right hface
  · simp only [waitsOn, hneed] at hwaits
    have hstate := State.freeByVerdict_waits (s := s.heard o) (index := index) hwaits
    have hentry : (((s.heard o).freeByVerdict index).entry slot).framesOpen = (s.entry slot).framesOpen - 1 := by
      rw [hstate]
      exact congrArg CustodyEntry.framesOpen
        (State.entry_releaseFrame (s := (s.heard o).onFrames (.freed index)) hs (s.frame index).face)
    obtain ⟨-, -, hframes, -, houtbox⟩ := State.releaseFrame_only slot d.face ((s.heard o).onFrames freed)
    refine answersWith_of_completed h rfl (ht.trans ?_) ?_ fun hnone => ?_
    · show okay (be 1 index ++ be 1 generation ++ be 1 (frameStatusCode d.status) ++ be 1 slot ++
        be 2 (((s.heard o).freeByVerdict index).entry slot).framesOpen) _ = _
      rw [hentry, hstate]
      rfl
    · exact houtbox.trans h.1
    · exact (congrArg Frames.completed hframes).trans hnone
  · intro accepted entry c w built h hgeneration hverdict htaken hpending hentry hsafe hwhole hplanned hmounted hfree
      hpass hcamera
    obtain ⟨mounted, hm⟩ := Option.ne_none_iff_exists'.1 hmounted
    have hlength : need = (cameraSetList entry.cameras).length := by
      rw [hneed, ← Walker.jobs_length, Walker.jobs, hentry, List.length_map]
    have hnotReady := notReady_of_camera hcamera
    simp only [built, hlength] at hfree ⊢
    cases accepted with
    | true =>
      have hj : (s.heard o).judged index (((s.heard o).bookCoverage slot d.face d.bank).2.returnToFree index) :=
        State.acceptFrame_judged slot d.face d.bank
      have hready := hj.buildReady (hsafe.heard o) hpending hwhole hverdict hplanned hentry hfree hm hpass
      have ht : takeAcceptFrame index generation (s.heard o) = _ :=
        (State.inVerdict_act (s := s.heard o) hgeneration hverdict).trans (if_neg (not_not.2 (htaken rfl)))
      obtain ⟨t, ht, hreq, hrest⟩ := verdict_builds h rfl ht hj hready hnotReady
      refine ⟨t, ht, ?_, hrest⟩
      rw [hreq]
      exact congrArg (fun body => some (26#8, Result.ok, body)) (acceptReply_take ..)
    | false =>
      have hj : (s.heard o).judged index ((s.heard o).returnToFree index) := State.rejectFrame_judged
      have hready := hj.buildReady (hsafe.heard o) hpending hwhole hverdict hplanned hentry hfree hm hpass
      have ht : takeRejectFrame index generation (s.heard o) = _ :=
        State.inVerdict_act (s := s.heard o) hgeneration hverdict
      obtain ⟨t, ht, hreq, hrest⟩ := verdict_builds h rfl ht hj hready hnotReady
      refine ⟨t, ht, ?_, hrest⟩
      rw [hreq]
      exact congrArg (fun body => some (27#8, Result.ok, body)) (rejectReply_take index generation _ _ _)

end Sys2Proof.Machine
end
